-- ==== Sys2Proof/Word.lean ====
section
/-! DEFINITION. The machine's word types: one name for each width the spec uses (R11, R71). -/

namespace Sys2Proof

/-- A general register, an address, a full-variant opcode (R10 `XLEN`, R71). -/
abbrev Word := BitVec 32

/-- A halfword: a compact-variant opcode, a 16-bit device register. -/
abbrev Half := BitVec 16

/-- One byte, the smallest addressable unit (R71). -/
abbrev Byte := BitVec 8

end Sys2Proof
end

