-- ==== Sys2Proof/Syntax.lean ====
section
/-! DEFINITION. The instruction set as syntax: one constructor for every row of spec/opcode_table.json, its operands
the fields of the row from the high bits down (R135, R163). Full-variant constructors carry their condition `c`
(R133); compact-variant constructors begin with `t` (R16). A field the machine ignores (R153) is kept, so that an
instruction stands for exactly one word. -/

namespace Sys2Proof

/-- A register field of four bits: `r0..r15` (R23). -/
abbrev Reg := Fin 16

/-- A register field of three bits: a low register `r0..r7` (R27). -/
abbrev LReg := Fin 8

/-- The condition field (R134), in the order of its codes. -/
inductive Cond
  | eq | ne | cs | cc | mi | pl | vs | vc | hi | ls | ge | lt | gt | le | al | nv
deriving DecidableEq, Repr

/-- The shift-type field (R139), in the order of its codes. -/
inductive ShiftKind
  | lsl | lsr | asr | ror
deriving DecidableEq, Repr

/-- Every instruction of both variants. `sf`: the S bit (R137; of `LDM`/`STM`: R243). `p u w`: pre-index, up,
write-back (R145 to R147). `r`: CPSR or SPSR (R151; of `T.PUSH`/`T.POP`: R157). -/
inductive Instr
  /-- `BX` (R252). -/
  | bx (c : Cond) (rm : Reg)
  /-- `WFI` (R269). -/
  | wfi (c : Cond) (rd : Reg)
  /-- `MRS` (R261). -/
  | mrs (c : Cond) (r : Bool) (rd : Reg)
  /-- `MSR register` (R262). -/
  | msrReg (c : Cond) (r : Bool) (mask : BitVec 4) (rm : Reg)
  /-- `MSR immediate` (R262). -/
  | msrImm (c : Cond) (r : Bool) (mask : BitVec 4) (rot : BitVec 4) (imm8 : BitVec 8)
  /-- `SWP` (R224). -/
  | swp (c : Cond) (rn : Reg) (rd : Reg) (rm : Reg)
  /-- `SWPB` (R225). -/
  | swpb (c : Cond) (rn : Reg) (rd : Reg) (rm : Reg)
  /-- `MUL` (R201). -/
  | mul (c : Cond) (sf : Bool) (rd : Reg) (rn : Reg) (rs : Reg) (rm : Reg)
  /-- `MLA` (R202). -/
  | mla (c : Cond) (sf : Bool) (rd : Reg) (rn : Reg) (rs : Reg) (rm : Reg)
  /-- `UMULL` (R203). -/
  | umull (c : Cond) (sf : Bool) (rdHi : Reg) (rdLo : Reg) (rs : Reg) (rm : Reg)
  /-- `UMLAL` (R204). -/
  | umlal (c : Cond) (sf : Bool) (rdHi : Reg) (rdLo : Reg) (rs : Reg) (rm : Reg)
  /-- `SMULL` (R205). -/
  | smull (c : Cond) (sf : Bool) (rdHi : Reg) (rdLo : Reg) (rs : Reg) (rm : Reg)
  /-- `SMLAL` (R206). -/
  | smlal (c : Cond) (sf : Bool) (rdHi : Reg) (rdLo : Reg) (rs : Reg) (rm : Reg)
  /-- `STRH register offset` (R221). -/
  | strhReg (c : Cond) (p : Bool) (u : Bool) (w : Bool) (rn : Reg) (rd : Reg) (sbz : BitVec 4) (rm : Reg)
  /-- `STRH immediate offset` (R221). -/
  | strhImm (c : Cond) (p : Bool) (u : Bool) (w : Bool) (rn : Reg) (rd : Reg) (offH : BitVec 4) (offL : BitVec 4)
  /-- `LDRH register offset` (R220). -/
  | ldrhReg (c : Cond) (p : Bool) (u : Bool) (w : Bool) (rn : Reg) (rd : Reg) (sbz : BitVec 4) (rm : Reg)
  /-- `LDRH immediate offset` (R220). -/
  | ldrhImm (c : Cond) (p : Bool) (u : Bool) (w : Bool) (rn : Reg) (rd : Reg) (offH : BitVec 4) (offL : BitVec 4)
  /-- `LDRSB register offset` (R222). -/
  | ldrsbReg (c : Cond) (p : Bool) (u : Bool) (w : Bool) (rn : Reg) (rd : Reg) (sbz : BitVec 4) (rm : Reg)
  /-- `LDRSB immediate offset` (R222). -/
  | ldrsbImm (c : Cond) (p : Bool) (u : Bool) (w : Bool) (rn : Reg) (rd : Reg) (offH : BitVec 4) (offL : BitVec 4)
  /-- `LDRSH register offset` (R223). -/
  | ldrshReg (c : Cond) (p : Bool) (u : Bool) (w : Bool) (rn : Reg) (rd : Reg) (sbz : BitVec 4) (rm : Reg)
  /-- `LDRSH immediate offset` (R223). -/
  | ldrshImm (c : Cond) (p : Bool) (u : Bool) (w : Bool) (rn : Reg) (rd : Reg) (offH : BitVec 4) (offL : BitVec 4)
  /-- `AND immediate` (R174). -/
  | andImm (c : Cond) (sf : Bool) (rn : Reg) (rd : Reg) (rot : BitVec 4) (imm8 : BitVec 8)
  /-- `AND register shift by immediate` (R174). -/
  | andReg (c : Cond) (sf : Bool) (rn : Reg) (rd : Reg) (amt : BitVec 5) (ty : ShiftKind) (rm : Reg)
  /-- `AND register shift by register` (R174). -/
  | andRsr (c : Cond) (sf : Bool) (rn : Reg) (rd : Reg) (rs : Reg) (ty : ShiftKind) (rm : Reg)
  /-- `EOR immediate` (R175). -/
  | eorImm (c : Cond) (sf : Bool) (rn : Reg) (rd : Reg) (rot : BitVec 4) (imm8 : BitVec 8)
  /-- `EOR register shift by immediate` (R175). -/
  | eorReg (c : Cond) (sf : Bool) (rn : Reg) (rd : Reg) (amt : BitVec 5) (ty : ShiftKind) (rm : Reg)
  /-- `EOR register shift by register` (R175). -/
  | eorRsr (c : Cond) (sf : Bool) (rn : Reg) (rd : Reg) (rs : Reg) (ty : ShiftKind) (rm : Reg)
  /-- `SUB immediate` (R176). -/
  | subImm (c : Cond) (sf : Bool) (rn : Reg) (rd : Reg) (rot : BitVec 4) (imm8 : BitVec 8)
  /-- `SUB register shift by immediate` (R176). -/
  | subReg (c : Cond) (sf : Bool) (rn : Reg) (rd : Reg) (amt : BitVec 5) (ty : ShiftKind) (rm : Reg)
  /-- `SUB register shift by register` (R176). -/
  | subRsr (c : Cond) (sf : Bool) (rn : Reg) (rd : Reg) (rs : Reg) (ty : ShiftKind) (rm : Reg)
  /-- `RSB immediate` (R177). -/
  | rsbImm (c : Cond) (sf : Bool) (rn : Reg) (rd : Reg) (rot : BitVec 4) (imm8 : BitVec 8)
  /-- `RSB register shift by immediate` (R177). -/
  | rsbReg (c : Cond) (sf : Bool) (rn : Reg) (rd : Reg) (amt : BitVec 5) (ty : ShiftKind) (rm : Reg)
  /-- `RSB register shift by register` (R177). -/
  | rsbRsr (c : Cond) (sf : Bool) (rn : Reg) (rd : Reg) (rs : Reg) (ty : ShiftKind) (rm : Reg)
  /-- `ADD immediate` (R178). -/
  | addImm (c : Cond) (sf : Bool) (rn : Reg) (rd : Reg) (rot : BitVec 4) (imm8 : BitVec 8)
  /-- `ADD register shift by immediate` (R178). -/
  | addReg (c : Cond) (sf : Bool) (rn : Reg) (rd : Reg) (amt : BitVec 5) (ty : ShiftKind) (rm : Reg)
  /-- `ADD register shift by register` (R178). -/
  | addRsr (c : Cond) (sf : Bool) (rn : Reg) (rd : Reg) (rs : Reg) (ty : ShiftKind) (rm : Reg)
  /-- `ADC immediate` (R179). -/
  | adcImm (c : Cond) (sf : Bool) (rn : Reg) (rd : Reg) (rot : BitVec 4) (imm8 : BitVec 8)
  /-- `ADC register shift by immediate` (R179). -/
  | adcReg (c : Cond) (sf : Bool) (rn : Reg) (rd : Reg) (amt : BitVec 5) (ty : ShiftKind) (rm : Reg)
  /-- `ADC register shift by register` (R179). -/
  | adcRsr (c : Cond) (sf : Bool) (rn : Reg) (rd : Reg) (rs : Reg) (ty : ShiftKind) (rm : Reg)
  /-- `SBC immediate` (R180). -/
  | sbcImm (c : Cond) (sf : Bool) (rn : Reg) (rd : Reg) (rot : BitVec 4) (imm8 : BitVec 8)
  /-- `SBC register shift by immediate` (R180). -/
  | sbcReg (c : Cond) (sf : Bool) (rn : Reg) (rd : Reg) (amt : BitVec 5) (ty : ShiftKind) (rm : Reg)
  /-- `SBC register shift by register` (R180). -/
  | sbcRsr (c : Cond) (sf : Bool) (rn : Reg) (rd : Reg) (rs : Reg) (ty : ShiftKind) (rm : Reg)
  /-- `RSC immediate` (R181). -/
  | rscImm (c : Cond) (sf : Bool) (rn : Reg) (rd : Reg) (rot : BitVec 4) (imm8 : BitVec 8)
  /-- `RSC register shift by immediate` (R181). -/
  | rscReg (c : Cond) (sf : Bool) (rn : Reg) (rd : Reg) (amt : BitVec 5) (ty : ShiftKind) (rm : Reg)
  /-- `RSC register shift by register` (R181). -/
  | rscRsr (c : Cond) (sf : Bool) (rn : Reg) (rd : Reg) (rs : Reg) (ty : ShiftKind) (rm : Reg)
  /-- `TST immediate` (R182). -/
  | tstImm (c : Cond) (rn : Reg) (rd : Reg) (rot : BitVec 4) (imm8 : BitVec 8)
  /-- `TST register shift by immediate` (R182). -/
  | tstReg (c : Cond) (rn : Reg) (rd : Reg) (amt : BitVec 5) (ty : ShiftKind) (rm : Reg)
  /-- `TST register shift by register` (R182). -/
  | tstRsr (c : Cond) (rn : Reg) (rd : Reg) (rs : Reg) (ty : ShiftKind) (rm : Reg)
  /-- `TEQ immediate` (R183). -/
  | teqImm (c : Cond) (rn : Reg) (rd : Reg) (rot : BitVec 4) (imm8 : BitVec 8)
  /-- `TEQ register shift by immediate` (R183). -/
  | teqReg (c : Cond) (rn : Reg) (rd : Reg) (amt : BitVec 5) (ty : ShiftKind) (rm : Reg)
  /-- `TEQ register shift by register` (R183). -/
  | teqRsr (c : Cond) (rn : Reg) (rd : Reg) (rs : Reg) (ty : ShiftKind) (rm : Reg)
  /-- `CMP immediate` (R184). -/
  | cmpImm (c : Cond) (rn : Reg) (rd : Reg) (rot : BitVec 4) (imm8 : BitVec 8)
  /-- `CMP register shift by immediate` (R184). -/
  | cmpReg (c : Cond) (rn : Reg) (rd : Reg) (amt : BitVec 5) (ty : ShiftKind) (rm : Reg)
  /-- `CMP register shift by register` (R184). -/
  | cmpRsr (c : Cond) (rn : Reg) (rd : Reg) (rs : Reg) (ty : ShiftKind) (rm : Reg)
  /-- `CMN immediate` (R185). -/
  | cmnImm (c : Cond) (rn : Reg) (rd : Reg) (rot : BitVec 4) (imm8 : BitVec 8)
  /-- `CMN register shift by immediate` (R185). -/
  | cmnReg (c : Cond) (rn : Reg) (rd : Reg) (amt : BitVec 5) (ty : ShiftKind) (rm : Reg)
  /-- `CMN register shift by register` (R185). -/
  | cmnRsr (c : Cond) (rn : Reg) (rd : Reg) (rs : Reg) (ty : ShiftKind) (rm : Reg)
  /-- `ORR immediate` (R186). -/
  | orrImm (c : Cond) (sf : Bool) (rn : Reg) (rd : Reg) (rot : BitVec 4) (imm8 : BitVec 8)
  /-- `ORR register shift by immediate` (R186). -/
  | orrReg (c : Cond) (sf : Bool) (rn : Reg) (rd : Reg) (amt : BitVec 5) (ty : ShiftKind) (rm : Reg)
  /-- `ORR register shift by register` (R186). -/
  | orrRsr (c : Cond) (sf : Bool) (rn : Reg) (rd : Reg) (rs : Reg) (ty : ShiftKind) (rm : Reg)
  /-- `MOV immediate` (R187). -/
  | movImm (c : Cond) (sf : Bool) (rn : Reg) (rd : Reg) (rot : BitVec 4) (imm8 : BitVec 8)
  /-- `MOV register shift by immediate` (R187). -/
  | movReg (c : Cond) (sf : Bool) (rn : Reg) (rd : Reg) (amt : BitVec 5) (ty : ShiftKind) (rm : Reg)
  /-- `MOV register shift by register` (R187). -/
  | movRsr (c : Cond) (sf : Bool) (rn : Reg) (rd : Reg) (rs : Reg) (ty : ShiftKind) (rm : Reg)
  /-- `BIC immediate` (R188). -/
  | bicImm (c : Cond) (sf : Bool) (rn : Reg) (rd : Reg) (rot : BitVec 4) (imm8 : BitVec 8)
  /-- `BIC register shift by immediate` (R188). -/
  | bicReg (c : Cond) (sf : Bool) (rn : Reg) (rd : Reg) (amt : BitVec 5) (ty : ShiftKind) (rm : Reg)
  /-- `BIC register shift by register` (R188). -/
  | bicRsr (c : Cond) (sf : Bool) (rn : Reg) (rd : Reg) (rs : Reg) (ty : ShiftKind) (rm : Reg)
  /-- `MVN immediate` (R189). -/
  | mvnImm (c : Cond) (sf : Bool) (rn : Reg) (rd : Reg) (rot : BitVec 4) (imm8 : BitVec 8)
  /-- `MVN register shift by immediate` (R189). -/
  | mvnReg (c : Cond) (sf : Bool) (rn : Reg) (rd : Reg) (amt : BitVec 5) (ty : ShiftKind) (rm : Reg)
  /-- `MVN register shift by register` (R189). -/
  | mvnRsr (c : Cond) (sf : Bool) (rn : Reg) (rd : Reg) (rs : Reg) (ty : ShiftKind) (rm : Reg)
  /-- `LDRT immediate offset` (R215). -/
  | ldrtImm (c : Cond) (u : Bool) (rn : Reg) (rd : Reg) (imm12 : BitVec 12)
  /-- `LDRT register offset` (R215). -/
  | ldrtReg (c : Cond) (u : Bool) (rn : Reg) (rd : Reg) (amt : BitVec 5) (ty : ShiftKind) (rm : Reg)
  /-- `STRT immediate offset` (R216). -/
  | strtImm (c : Cond) (u : Bool) (rn : Reg) (rd : Reg) (imm12 : BitVec 12)
  /-- `STRT register offset` (R216). -/
  | strtReg (c : Cond) (u : Bool) (rn : Reg) (rd : Reg) (amt : BitVec 5) (ty : ShiftKind) (rm : Reg)
  /-- `LDRBT immediate offset` (R217). -/
  | ldrbtImm (c : Cond) (u : Bool) (rn : Reg) (rd : Reg) (imm12 : BitVec 12)
  /-- `LDRBT register offset` (R217). -/
  | ldrbtReg (c : Cond) (u : Bool) (rn : Reg) (rd : Reg) (amt : BitVec 5) (ty : ShiftKind) (rm : Reg)
  /-- `STRBT immediate offset` (R218). -/
  | strbtImm (c : Cond) (u : Bool) (rn : Reg) (rd : Reg) (imm12 : BitVec 12)
  /-- `STRBT register offset` (R218). -/
  | strbtReg (c : Cond) (u : Bool) (rn : Reg) (rd : Reg) (amt : BitVec 5) (ty : ShiftKind) (rm : Reg)
  /-- `LDR immediate offset` (R211). -/
  | ldrImm (c : Cond) (p : Bool) (u : Bool) (w : Bool) (rn : Reg) (rd : Reg) (imm12 : BitVec 12)
  /-- `LDR register offset` (R211). -/
  | ldrReg (c : Cond) (p : Bool) (u : Bool) (w : Bool) (rn : Reg) (rd : Reg) (amt : BitVec 5) (ty : ShiftKind) (rm : Reg)
  /-- `STR immediate offset` (R212). -/
  | strImm (c : Cond) (p : Bool) (u : Bool) (w : Bool) (rn : Reg) (rd : Reg) (imm12 : BitVec 12)
  /-- `STR register offset` (R212). -/
  | strReg (c : Cond) (p : Bool) (u : Bool) (w : Bool) (rn : Reg) (rd : Reg) (amt : BitVec 5) (ty : ShiftKind) (rm : Reg)
  /-- `LDRB immediate offset` (R213). -/
  | ldrbImm (c : Cond) (p : Bool) (u : Bool) (w : Bool) (rn : Reg) (rd : Reg) (imm12 : BitVec 12)
  /-- `LDRB register offset` (R213). -/
  | ldrbReg (c : Cond) (p : Bool) (u : Bool) (w : Bool) (rn : Reg) (rd : Reg) (amt : BitVec 5) (ty : ShiftKind) (rm : Reg)
  /-- `STRB immediate offset` (R214). -/
  | strbImm (c : Cond) (p : Bool) (u : Bool) (w : Bool) (rn : Reg) (rd : Reg) (imm12 : BitVec 12)
  /-- `STRB register offset` (R214). -/
  | strbReg (c : Cond) (p : Bool) (u : Bool) (w : Bool) (rn : Reg) (rd : Reg) (amt : BitVec 5) (ty : ShiftKind) (rm : Reg)
  /-- `UND bits 27 25  011 bit 4  1` (R270). -/
  | undSpace (c : Cond) (hi : BitVec 20) (lo : BitVec 4)
  /-- `LDM` (R241). -/
  | ldm (c : Cond) (p : Bool) (u : Bool) (sf : Bool) (w : Bool) (rn : Reg) (list : BitVec 16)
  /-- `STM` (R242). -/
  | stm (c : Cond) (p : Bool) (u : Bool) (sf : Bool) (w : Bool) (rn : Reg) (list : BitVec 16)
  /-- `B` (R250). -/
  | b (c : Cond) (imm24 : BitVec 24)
  /-- `BL` (R251). -/
  | bl (c : Cond) (imm24 : BitVec 24)
  /-- `SWI` (R260). -/
  | swi (c : Cond) (comment : BitVec 24)
  /-- `CDP` (R264). -/
  | cdp (c : Cond) (opc1 : BitVec 4) (crn : BitVec 4) (crd : BitVec 4) (cp : BitVec 4) (opc2 : BitVec 3) (crm : BitVec 4)
  /-- `MCR` (R265). -/
  | mcr (c : Cond) (opc1 : BitVec 3) (crn : BitVec 4) (rd : Reg) (cp : BitVec 4) (opc2 : BitVec 3) (crm : BitVec 4)
  /-- `MRC` (R266). -/
  | mrc (c : Cond) (opc1 : BitVec 3) (crn : BitVec 4) (rd : Reg) (cp : BitVec 4) (opc2 : BitVec 3) (crm : BitVec 4)
  /-- `LDC` (R267). -/
  | ldc (c : Cond) (p : Bool) (u : Bool) (n : Bool) (w : Bool) (rn : Reg) (crd : BitVec 4) (cp : BitVec 4) (imm8 : BitVec 8)
  /-- `STC` (R268). -/
  | stc (c : Cond) (p : Bool) (u : Bool) (n : Bool) (w : Bool) (rn : Reg) (crd : BitVec 4) (cp : BitVec 4) (imm8 : BitVec 8)
  /-- `UND every other word` (R270). -/
  | undOther (c : Cond) (body : BitVec 28)
  /-- `T.LSL immediate` (R281). -/
  | tLslImm (imm5 : BitVec 5) (rs : LReg) (rd : LReg)
  /-- `T.LSR immediate` (R282). -/
  | tLsrImm (imm5 : BitVec 5) (rs : LReg) (rd : LReg)
  /-- `T.ASR immediate` (R283). -/
  | tAsrImm (imm5 : BitVec 5) (rs : LReg) (rd : LReg)
  /-- `T.ADD register` (R284). -/
  | tAddReg (rn : LReg) (rs : LReg) (rd : LReg)
  /-- `T.SUB register` (R285). -/
  | tSubReg (rn : LReg) (rs : LReg) (rd : LReg)
  /-- `T.ADD 3-bit immediate` (R286). -/
  | tAddImm3 (imm3 : BitVec 3) (rs : LReg) (rd : LReg)
  /-- `T.SUB 3-bit immediate` (R287). -/
  | tSubImm3 (imm3 : BitVec 3) (rs : LReg) (rd : LReg)
  /-- `T.MOV 8-bit immediate` (R288). -/
  | tMovImm8 (rd : LReg) (imm8 : BitVec 8)
  /-- `T.CMP 8-bit immediate` (R289). -/
  | tCmpImm8 (rd : LReg) (imm8 : BitVec 8)
  /-- `T.ADD 8-bit immediate` (R290). -/
  | tAddImm8 (rd : LReg) (imm8 : BitVec 8)
  /-- `T.SUB 8-bit immediate` (R291). -/
  | tSubImm8 (rd : LReg) (imm8 : BitVec 8)
  /-- `T.AND register` (R292). -/
  | tAnd (rs : LReg) (rd : LReg)
  /-- `T.EOR register` (R293). -/
  | tEor (rs : LReg) (rd : LReg)
  /-- `T.LSL register` (R294). -/
  | tLslReg (rs : LReg) (rd : LReg)
  /-- `T.LSR register` (R295). -/
  | tLsrReg (rs : LReg) (rd : LReg)
  /-- `T.ASR register` (R296). -/
  | tAsrReg (rs : LReg) (rd : LReg)
  /-- `T.ADC register` (R297). -/
  | tAdc (rs : LReg) (rd : LReg)
  /-- `T.SBC register` (R298). -/
  | tSbc (rs : LReg) (rd : LReg)
  /-- `T.ROR register` (R299). -/
  | tRorReg (rs : LReg) (rd : LReg)
  /-- `T.TST register` (R300). -/
  | tTst (rs : LReg) (rd : LReg)
  /-- `T.NEG register` (R301). -/
  | tNeg (rs : LReg) (rd : LReg)
  /-- `T.CMP register` (R302). -/
  | tCmpReg (rs : LReg) (rd : LReg)
  /-- `T.CMN register` (R303). -/
  | tCmn (rs : LReg) (rd : LReg)
  /-- `T.ORR register` (R304). -/
  | tOrr (rs : LReg) (rd : LReg)
  /-- `T.MUL register` (R305). -/
  | tMul (rs : LReg) (rd : LReg)
  /-- `T.BIC register` (R306). -/
  | tBic (rs : LReg) (rd : LReg)
  /-- `T.MVN register` (R307). -/
  | tMvn (rs : LReg) (rd : LReg)
  /-- `T.ADD high registers` (R308). -/
  | tAddHi (rd : Reg) (rs : Reg)
  /-- `T.CMP high registers` (R309). -/
  | tCmpHi (rd : Reg) (rs : Reg)
  /-- `T.MOV high registers` (R310). -/
  | tMovHi (rd : Reg) (rs : Reg)
  /-- `T.BX` (R385). -/
  | tBx (rs : Reg) (sbz : BitVec 3)
  /-- `T.LDR pc-relative` (R341). -/
  | tLdrPc (rd : LReg) (imm8 : BitVec 8)
  /-- `T.STR register offset` (R342). -/
  | tStrReg (ro : LReg) (rb : LReg) (rd : LReg)
  /-- `T.STRB register offset` (R343). -/
  | tStrbReg (ro : LReg) (rb : LReg) (rd : LReg)
  /-- `T.LDR register offset` (R344). -/
  | tLdrReg (ro : LReg) (rb : LReg) (rd : LReg)
  /-- `T.LDRB register offset` (R345). -/
  | tLdrbReg (ro : LReg) (rb : LReg) (rd : LReg)
  /-- `T.STRH register offset` (R346). -/
  | tStrhReg (ro : LReg) (rb : LReg) (rd : LReg)
  /-- `T.LDSB register offset` (R347). -/
  | tLdsbReg (ro : LReg) (rb : LReg) (rd : LReg)
  /-- `T.LDRH register offset` (R348). -/
  | tLdrhReg (ro : LReg) (rb : LReg) (rd : LReg)
  /-- `T.LDSH register offset` (R349). -/
  | tLdshReg (ro : LReg) (rb : LReg) (rd : LReg)
  /-- `T.STR immediate offset` (R350). -/
  | tStrImm (imm5 : BitVec 5) (rb : LReg) (rd : LReg)
  /-- `T.LDR immediate offset` (R351). -/
  | tLdrImm (imm5 : BitVec 5) (rb : LReg) (rd : LReg)
  /-- `T.STRB immediate offset` (R352). -/
  | tStrbImm (imm5 : BitVec 5) (rb : LReg) (rd : LReg)
  /-- `T.LDRB immediate offset` (R353). -/
  | tLdrbImm (imm5 : BitVec 5) (rb : LReg) (rd : LReg)
  /-- `T.STRH immediate offset` (R354). -/
  | tStrhImm (imm5 : BitVec 5) (rb : LReg) (rd : LReg)
  /-- `T.LDRH immediate offset` (R355). -/
  | tLdrhImm (imm5 : BitVec 5) (rb : LReg) (rd : LReg)
  /-- `T.STR sp-relative` (R356). -/
  | tStrSp (rd : LReg) (imm8 : BitVec 8)
  /-- `T.LDR sp-relative` (R357). -/
  | tLdrSp (rd : LReg) (imm8 : BitVec 8)
  /-- `T.ADD Rd pc immediate` (R311). -/
  | tAddPc (rd : LReg) (imm8 : BitVec 8)
  /-- `T.ADD Rd sp immediate` (R312). -/
  | tAddSp (rd : LReg) (imm8 : BitVec 8)
  /-- `T.ADD sp immediate` (R313). -/
  | tAddSpImm (imm7 : BitVec 7)
  /-- `T.SUB sp immediate` (R314). -/
  | tSubSpImm (imm7 : BitVec 7)
  /-- `T.PUSH` (R358). -/
  | tPush (r : Bool) (rlist : BitVec 8)
  /-- `T.POP` (R359). -/
  | tPop (r : Bool) (rlist : BitVec 8)
  /-- `T.STMIA` (R360). -/
  | tStmia (rb : LReg) (rlist : BitVec 8)
  /-- `T.LDMIA` (R361). -/
  | tLdmia (rb : LReg) (rlist : BitVec 8)
  /-- `T.SWI` (R381). -/
  | tSwi (comment : BitVec 8)
  /-- `T.UND format 16 with cond  1110` (R386). -/
  | tUndCond (comment : BitVec 8)
  /-- `T.B<cond>` (R380). -/
  | tBcond (c : Cond) (imm8 : BitVec 8)
  /-- `T.B` (R382). -/
  | tB (imm11 : BitVec 11)
  /-- `T.BL first half` (R383). -/
  | tBlHi (imm11 : BitVec 11)
  /-- `T.BL second half` (R384). -/
  | tBlLo (imm11 : BitVec 11)
  /-- `T.UND every other word` (R386). -/
  | tUndOther (word : BitVec 16)
deriving DecidableEq, Repr

end Sys2Proof
end

