-- ==== Sys2Proof/Machine/Encoding.lean ====
section
/-! DEFINITION. The bit fields of an opcode: how a field is read and placed, and the codes of conditions, shift types
and registers (R11, R134, R139, R155); and the undefined spaces of R152 and R159. -/

namespace Sys2Proof

/-- The field of `len` bits of `w` that begins at bit `lo` (R11). -/
def bits (w lo len : Nat) : BitVec len := BitVec.ofNat len (w >>> lo)

/-- Bit `lo` of `w`. -/
def flag (w lo : Nat) : Bool := bits w lo 1 == 1#1

/-- `{x, y}`: `y` below `x` (R11). -/
def cat (x : Nat) {n : Nat} (y : BitVec n) : Nat := x * 2 ^ n + y.toNat

def regBits (r : Reg) : BitVec 4 := BitVec.ofFin (w := 4) r
def regOf (b : BitVec 4) : Reg := b.toFin
def lregBits (r : LReg) : BitVec 3 := BitVec.ofFin (w := 3) r
def lregOf (b : BitVec 3) : LReg := b.toFin

/-- The `H` bit of a format 5 register number (R155). -/
def regHigh (r : Reg) : BitVec 1 := (regBits r).extractLsb' 3 1
/-- The low three bits of a format 5 register number (R155). -/
def regLow (r : Reg) : BitVec 3 := (regBits r).extractLsb' 0 3
/-- `{H, low three bits}` (R155). -/
def regJoin (h : BitVec 1) (l : BitVec 3) : Reg := regOf (h ++ l)

/-- The code of a condition (R134). -/
def Cond.toBits : Cond → BitVec 4
  | .eq => 0 | .ne => 1 | .cs => 2 | .cc => 3 | .mi => 4 | .pl => 5 | .vs => 6 | .vc => 7
  | .hi => 8 | .ls => 9 | .ge => 10 | .lt => 11 | .gt => 12 | .le => 13 | .al => 14 | .nv => 15

/-- The condition of a code (R134). -/
def Cond.ofBits (b : BitVec 4) : Cond :=
  if b = 0 then .eq else if b = 1 then .ne else if b = 2 then .cs else if b = 3 then .cc
  else if b = 4 then .mi else if b = 5 then .pl else if b = 6 then .vs else if b = 7 then .vc
  else if b = 8 then .hi else if b = 9 then .ls else if b = 10 then .ge else if b = 11 then .lt
  else if b = 12 then .gt else if b = 13 then .le else if b = 14 then .al else .nv

/-- The code of a shift type (R139). -/
def ShiftKind.toBits : ShiftKind → BitVec 2
  | .lsl => 0 | .lsr => 1 | .asr => 2 | .ror => 3

/-- The shift type of a code (R139). -/
def ShiftKind.ofBits (b : BitVec 2) : ShiftKind :=
  if b = 0 then .lsl else if b = 1 then .lsr else if b = 2 then .asr else .ror

/-- R152 items 2 to 4: the bodies `bits[27:0]` of the full-variant words that match no row but the catch-all one. -/
def undefinedBody (body : BitVec 28) : Bool :=
  let b := body.toNat
  let extension := flag b 4 && flag b 7
  let status := bits b 23 2 == 0b10#2 && !flag b 20
  bits b 25 3 == 0b000#3 &&
    -- item 2: no multiply, multiply long, swap, halfword or signed transfer
    ((extension && bits b 5 2 == 0b00#2 &&
        !(bits b 22 3 == 0b000#3 || bits b 23 2 == 0b01#2 ||
          (bits b 23 2 == 0b10#2 && bits b 20 2 == 0b00#2 && bits b 8 4 == 0b0000#4))) ||
     (extension && (bits b 5 2 == 0b10#2 || bits b 5 2 == 0b11#2) && !flag b 20) ||
    -- item 3: no `MRS`, `MSR` register, `BX`
     (!extension && status &&
        !((!flag b 21 && bits b 16 4 == 0b1111#4 && bits b 0 12 == 0#12) ||
          (flag b 21 && bits b 12 4 == 0b1111#4 && bits b 4 8 == 0#8) ||
          (!flag b 22 && flag b 21 && bits b 4 16 == 0xFFF1#16)))) ||
  bits b 25 3 == 0b001#3 &&
    -- item 4: no `MSR` immediate
    (status && !(flag b 21 && bits b 12 4 == 0b1111#4))

/-- R159: the compact-variant words that match no row but the catch-all one (`0xDE00..0xDEFF` has a row of its own). -/
def undefinedHalf (h : BitVec 16) : Bool :=
  let n := h.toNat
  (decide (0xB100 ≤ n) && decide (n ≤ 0xB3FF)) || (decide (0xB600 ≤ n) && decide (n ≤ 0xBBFF)) ||
  (decide (0xBE00 ≤ n) && decide (n ≤ 0xBFFF)) || (decide (0xE800 ≤ n) && decide (n ≤ 0xEFFF)) ||
  (decide (0x4780 ≤ n) && decide (n ≤ 0x47FF))

end Sys2Proof
end

