-- ==== Sys2Proof/Machine/Parts.lean ====
section
/-! DEFINITION. The parts of the state that a parameter can also hold (R10 `FastBootState`): registers, status, the
devices' registers, the widths of an access; with their reset values. -/

namespace Sys2Proof.Machine

/-- The width of an access in bytes: 1, 2 or 4 (R12). -/
inductive Width
  | byte | half | word
deriving DecidableEq, Repr

/-! ## Registers and status of a core (R20 to R43) -/

/-- The seven privilege modes (R40). -/
inductive Mode
  | usr | fiq | irq | svc | abt | und | sys
deriving DecidableEq, Repr

/-- The six copies of `r13` and `r14` (R24); User and System mode share one. -/
inductive Bank
  | usr | fiq | irq | svc | abt | und
deriving DecidableEq, Repr

/-- One register in each of the six banks. -/
structure Banked where
  usr : Word
  fiq : Word
  irq : Word
  svc : Word
  abt : Word
  und : Word
deriving DecidableEq, Repr

/-- The 31 physical general registers (R24): `r0..r7`; `r8..r12` and `r8_fiq..r12_fiq`; `r13` and `r14` of each bank;
`r15`, which is the program counter (R30). -/
structure RegFile where
  low : Vector Word 8
  mid : Vector Word 5
  midFiq : Vector Word 5
  sp : Banked
  lr : Banked
  pc : Word
deriving DecidableEq, Repr

/-- The name of a physical general register. -/
inductive PhysReg
  | low (i : Fin 8)
  | mid (i : Fin 5)
  | midFiq (i : Fin 5)
  | sp (b : Bank)
  | lr (b : Bank)
  | pc
deriving DecidableEq, Repr

/-- `cpsr` (R36). Its reserved bits 27:8 read as zero and ignore writes (R41), and its mode field holds one of the seven
codes (R40, U12), so it is its fields. -/
structure Cpsr where
  n : Bool
  z : Bool
  c : Bool
  v : Bool
  i : Bool
  f : Bool
  t : Bool
  mode : Mode
deriving DecidableEq, Repr

/-- One `spsr_<m>` (R36, R42): it may hold any value of the mode field (R262). -/
structure Spsr where
  n : Bool
  z : Bool
  c : Bool
  v : Bool
  i : Bool
  f : Bool
  t : Bool
  m : BitVec 5
deriving DecidableEq, Repr

/-- The five saved status registers (R35). -/
structure Spsrs where
  fiq : Spsr
  irq : Spsr
  svc : Spsr
  abt : Spsr
  und : Spsr
deriving DecidableEq, Repr

/-! ## Devices (R44 to R49) -/

/-- InterruptState (R44): `IE`, `IF` (`pending`), `IME`. -/
structure Interrupts where
  enable : Half
  pending : Half
  master : Bool
deriving DecidableEq, Repr

/-- TimerState (R45) with the hidden divider (R49). -/
structure Timer where
  counter : Half
  reload : Half
  prescale : BitVec 2
  cascade : Bool
  irqEn : Bool
  enable : Bool
  div : Nat
deriving DecidableEq, Repr

/-- DmaChannel (R46): the programmed registers `SAD DAD CNT_L CNT_H`, the latches and the request flag (R49). -/
structure DmaChannel where
  sad : Word
  dad : Word
  cntL : Half
  cntH : Half
  src : Word
  dst : Word
  cnt : Nat
  req : Bool
deriving DecidableEq, Repr

/-! ## Reset values (R51, R52) -/

def Banked.zero : Banked := ⟨0, 0, 0, 0, 0, 0⟩

/-- R51 gives no register a reset value: zero, DESIGN CHOICE (log 1). `pc` is the reset vector. -/
def RegFile.reset : RegFile :=
  { low := Vector.replicate 8 0, mid := Vector.replicate 5 0, midFiq := Vector.replicate 5 0,
    sp := Banked.zero, lr := Banked.zero, pc := 0 }

/-- R51: Supervisor mode, both masks set, full variant; the condition codes zero, DESIGN CHOICE (log 1). -/
def Cpsr.reset : Cpsr :=
  { n := false, z := false, c := false, v := false, i := true, f := true, t := false, mode := .svc }

/-- R51 gives no saved status register a reset value: zero, DESIGN CHOICE (log 1). -/
def Spsr.zero : Spsr :=
  { n := false, z := false, c := false, v := false, i := false, f := false, t := false, m := 0 }

def Spsrs.zero : Spsrs := ⟨Spsr.zero, Spsr.zero, Spsr.zero, Spsr.zero, Spsr.zero⟩

def Interrupts.reset : Interrupts := { enable := 0, pending := 0, master := false }

def Timer.reset : Timer :=
  { counter := 0, reload := 0, prescale := 0, cascade := false, irqEn := false, enable := false, div := 0 }

def DmaChannel.reset : DmaChannel :=
  { sad := 0, dad := 0, cntL := 0, cntH := 0, src := 0, dst := 0, cnt := 0, req := false }

end Sys2Proof.Machine
end

