-- ==== Sys2Proof/Config.lean ====
section
/-! DEFINITION. What is fixed along a run: the free values the spec leaves under no law, and the type of the
implementation parameters of R10 (their default values are in Machine/Platform.lean). -/

namespace Sys2Proof

/-- A free flag: the `draw` of U1 and U2 (`cpsr.C`, `cpsr.V` after a multiply that sets flags).
Uninterpreted; applied to the counter `State.draws`, so that each execution takes a value of its own. -/
opaque Config.freeFlag : Nat → Bool

/-- A free word: the `draw` of R263 (`MRS Rd, SPSR` in User mode under `PRIV_POLICY = ignore`). -/
opaque Config.freeWord : Nat → BitVec 32

namespace Machine

/-- The names of the Bus regions of R84, and a name each for the further regions of a table that has more than those
(`RegionTable` is OPEN, R10). DESIGN CHOICE (log 4): a region is told by its name, where `last_region` is compared (R95)
and where fast boot looks for EWRAM and IWRAM (R546); rows that share a name count as one region. -/
inductive RegionName
  | boot | ewram | iwram | io | pal | vram | oam | rom0 | rom1 | rom2 | backup
  | other (k : Nat)
deriving DecidableEq, Repr

/-- What answers an access that resolves to the region (R72 `handler`). -/
inductive Handler
  | storage   -- RAM and ROM: the backing storage itself
  | renderer  -- PAL, VRAM, OAM: storage that belongs to the renderer collaborator (R84)
  | io        -- the device registers of R470
  | backup    -- the persistence collaborator's storage (R84, R85)
deriving DecidableEq, Repr

/-- What becomes of a write whose width the region does not accept (R85). -/
inductive NarrowWrite
  | ignored        -- OAM: a byte write is ignored
  | duplicateByte  -- PAL, VRAM: a byte `b` writes the halfword `{b, b}`
deriving DecidableEq, Repr

/-- One row of the wait table of R96 with fixed numbers: cycles per access by width and kind. -/
structure WaitRow where
  n1 : Nat
  s1 : Nat
  n2 : Nat
  s2 : Nat
  n4 : Nat
  s4 : Nat
deriving DecidableEq, Repr

/-- How an access to a region is priced (R96). -/
inductive WaitRule
  | fixed (row : WaitRow)
  | rom (k : Fin 3)   -- the ROMk row, computed from `WAITCNT`
  | backup            -- the BACKUP row, computed from `WAITCNT`
deriving DecidableEq, Repr

/-- A Bus region: the record of R72, and what R84 and R85 add to it. A region that accepts no width ignores every
write (BOOT, ROM0..2). The wait table already accounts for `busWidth` (R98). `narrow` is the rule of R85 for the widths a
region does not accept; `store` is where its backing storage begins in the numbering of memory cells (`State.mem`), one
place for ROM0, ROM1 and ROM2; `fold` is taken off an offset at or beyond `backing` (the VRAM fold of R84; 0 where there
is none); `ram` marks storage whose content is lost at power-on (R53). -/
structure Region where
  name : RegionName
  first : Nat
  last : Nat
  backing : Nat
  period : Nat
  busWidth : Width
  readWidths : List Width
  writeWidths : List Width
  wait : WaitRule
  openBus : Word
  handler : Handler
  narrow : NarrowWrite
  store : Nat
  fold : Nat
  ram : Bool
deriving DecidableEq, Repr

/-- `PRIV_POLICY` (R10, R444): what a privileged operation does in User mode. -/
inductive PrivPolicy
  | trap
  | ignore
deriving DecidableEq, Repr

/-- The internal-cycle table of R563, and the two cycles of R513 that begin a DMA transfer.
The multiply entries are what is added to the operand-dependent `m` of R207. -/
structure InternalCycles where
  shiftByRegister : Nat
  load : Nat
  swap : Nat
  mul : Nat
  mla : Nat
  mull : Nat
  mlal : Nat
  cp15 : Nat
  undefined : Nat
  interrupt : Nat
  dma : Nat
deriving DecidableEq, Repr

/-- `FastBootState` (R10, R546): the state fast boot installs in every core, in work RAM and in the devices. `work` is
the bytes of EWRAM and IWRAM that are not zero, by memory cell. -/
structure FastBoot where
  regs : RegFile
  cpsr : Cpsr
  spsrs : Spsrs
  seq : Bool
  halted : Bool
  work : List (Nat × Byte)
  irq : Interrupts
  timers : Vector Timer 4
  dma : Vector DmaChannel 4
  waitcnt : Half
  postFlag : Byte
deriving DecidableEq, Repr

/-- The implementation parameters of R10 that a run takes as an argument. A state carries them (`State.par`)
and no step changes them. The wait table, the cost of an unmapped access, `CLK_PERIOD` and the internal cycles are the
tables of the default cost function; the cost function itself (R569) is an argument of `stepWith`. -/
structure Params where
  /-- `RegionTable` with `WAIT` and `OPEN_BUS[region]` (R84, R96). -/
  regions : List Region
  /-- `OPEN_BUS` of unmapped addresses (R86). -/
  openBus : Word
  /-- Access cost at an unmapped address (R87). -/
  unmappedCost : Nat
  /-- `CLK_PERIOD[0]`. -/
  clk0 : Nat
  /-- `CLK_PERIOD[1]`. -/
  clk1 : Nat
  privPolicy : PrivPolicy
  cp15Open : Word
  lineCycles : Nat
  hblankStart : Nat
  linesPerFrame : Nat
  vblankLine : Nat
  internal : InternalCycles
  fastBoot : FastBoot
deriving DecidableEq, Repr

end Machine

end Sys2Proof
end

