-- ==== Sys2Proof/Machine/Platform.lean ====
section
/-! DEFINITION. The default platform: the values R10 gives the parameters (R84 region table, R96 wait table,
R471 signal intervals, R546 fast boot, R563 internal cycles). -/

namespace Sys2Proof.Machine

/-- Rows of R96 whose six numbers are equal. -/
def WaitRow.flat (k : Nat) : WaitRow := ⟨k, k, k, k, k, k⟩

/-- Size of the guest image the loader maps. DESIGN CHOICE (log 6): R84 leaves it to the loader; the whole window. -/
def imageSize : Nat := 0x02000000

/-- Size of the backup storage. DESIGN CHOICE (log 6): R84 leaves it to the loader; one whole period. -/
def backupSize : Nat := 0x10000

/-- Every width (R85). -/
def allWidths : List Width := [.byte, .half, .word]

/-- One region of R84 whose backing storage begins at its own first address: all widths readable, the widths of `writes`
writable (R85). -/
def ownRegion (name : RegionName) (first last backing period : Nat) (busWidth : Width) (writes : List Width)
    (wait : WaitRow) (handler : Handler) (ram : Bool) : Region :=
  { name := name, first := first, last := last, backing := backing, period := period, busWidth := busWidth,
    readWidths := allWidths, writeWidths := writes, wait := .fixed wait, openBus := 0, handler := handler,
    narrow := .ignored, store := first, fold := 0, ram := ram }

/-- One of the three windows on the guest image (R84): same backing storage, wait settings of its own. -/
def romWindow (name : RegionName) (first last : Nat) (k : Fin 3) : Region :=
  { name := name, first := first, last := last, backing := imageSize, period := 0x02000000, busWidth := .half,
    readWidths := allWidths, writeWidths := [], wait := .rom k, openBus := 0, handler := .storage,
    narrow := .ignored, store := 0x08000000, fold := 0, ram := false }

/-- The default platform region table (R84, R85, R96). -/
def defaultRegions : List Region :=
  [ ownRegion .boot 0x00000000 0x00003FFF 0x4000 0x4000 .word [] (WaitRow.flat 1) .storage false,
    ownRegion .ewram 0x02000000 0x02FFFFFF 0x40000 0x40000 .half allWidths ⟨3, 3, 3, 3, 6, 6⟩ .storage true,
    ownRegion .iwram 0x03000000 0x03FFFFFF 0x8000 0x8000 .word allWidths (WaitRow.flat 1) .storage true,
    ownRegion .io 0x04000000 0x040003FF 0x400 0x400 .word allWidths (WaitRow.flat 1) .io false,
    { ownRegion .pal 0x05000000 0x05FFFFFF 0x400 0x400 .half [.half, .word] ⟨1, 1, 1, 1, 2, 2⟩ .renderer true
      with narrow := .duplicateByte },
    { ownRegion .vram 0x06000000 0x06FFFFFF 0x18000 0x20000 .half [.half, .word] ⟨1, 1, 1, 1, 2, 2⟩ .renderer true
      with narrow := .duplicateByte, fold := 0x8000 },
    ownRegion .oam 0x07000000 0x07FFFFFF 0x400 0x400 .word [.half, .word] (WaitRow.flat 1) .renderer true,
    romWindow .rom0 0x08000000 0x09FFFFFF 0,
    romWindow .rom1 0x0A000000 0x0BFFFFFF 1,
    romWindow .rom2 0x0C000000 0x0DFFFFFF 2,
    { ownRegion .backup 0x0E000000 0x0FFFFFFF backupSize 0x10000 .byte allWidths (WaitRow.flat 5) .backup false
      with wait := .backup } ]

/-- R563, R513. -/
def defaultInternal : InternalCycles :=
  { shiftByRegister := 1, load := 1, swap := 1, mul := 0, mla := 1, mull := 1, mlal := 2, cp15 := 1,
    undefined := 1, interrupt := 1, dma := 2 }

/-- The table of R546: the entry point, System mode, the three stack pointers, the post-boot flag; every other
register zero, work RAM zero, every other device register at its reset value. -/
def defaultFastBoot : FastBoot :=
  { regs :=
      { low := Vector.replicate 8 0, mid := Vector.replicate 5 0, midFiq := Vector.replicate 5 0,
        sp := { Banked.zero with usr := 0x03007F00, irq := 0x03007FA0, svc := 0x03007FE0 }, lr := Banked.zero,
        pc := 0x08000000 },
    cpsr := { n := false, z := false, c := false, v := false, i := false, f := false, t := false, mode := .sys },
    spsrs := Spsrs.zero, seq := false, halted := false, work := [], irq := Interrupts.reset,
    timers := Vector.replicate 4 Timer.reset, dma := Vector.replicate 4 DmaChannel.reset, waitcnt := 0, postFlag := 1 }

/-- The parameters at the values of R10. -/
def defaultParams : Params :=
  { regions := defaultRegions, openBus := 0, unmappedCost := 1, clk0 := 1, clk1 := 1, privPolicy := .trap,
    cp15Open := 0, lineCycles := 1232, hblankStart := 960, linesPerFrame := 228, vblankLine := 160,
    internal := defaultInternal, fastBoot := defaultFastBoot }

/-- `PRESCALE[s]` (R10, R482): the divisor of a timer. -/
def prescaleDivisor (s : BitVec 2) : Nat :=
  if s = 0 then 1 else if s = 1 then 64 else if s = 2 then 256 else 1024

/-- `DMA_COUNT_BITS[ch]` (R10, R503). -/
def dmaCountBits (ch : Fin 4) : Nat := if ch = 3 then 16 else 14

/-- `DMA_SRC_MASK[ch]` (R10, R505). -/
def dmaSrcMask (ch : Fin 4) : Word := if ch = 0 then 0x07FFFFFF else 0x0FFFFFFF

/-- `DMA_DST_MASK[ch]` (R10, R505). -/
def dmaDstMask (ch : Fin 4) : Word := if ch = 3 then 0x0FFFFFFF else 0x07FFFFFF

end Sys2Proof.Machine
end

