-- ==== Sys2Proof/Machine/State.lean ====
section
/-! DEFINITION. The whole state of the machine as plain data (R20 to R54), why a step can stop, and the state after
reset. -/

namespace Sys2Proof.Machine

/-! ## One core (R20) -/

/-- Everything private to one core (R20, R49, R451). `time` is `t[c]` (R472). -/
structure Core where
  index : Nat
  regs : RegFile
  cpsr : Cpsr
  spsrs : Spsrs
  halted : Bool
  seq : Bool
  time : Nat
deriving DecidableEq, Repr

/-! ## Time (R47, R461) -/

/-- A stored entry of the Scheduler's pending set (R461): a collaborator's peripheral tick. -/
structure Tick where
  due : Nat
  id : Nat
deriving DecidableEq, Repr

/-- Scheduler state (R47, R49, R471). -/
structure Scheduler where
  now : Nat
  devNow : Nat
  line : Nat
  dot : Nat
  ticks : List Tick
deriving DecidableEq, Repr

/-! ## The surroundings (R530, R531) -/

/-- What a collaborator may call inside a callback (R531). -/
inductive CollabCall
  | request (source : Nat)              -- an interrupt source it owns (R428)
  | special (channel : Fin 4)           -- `check_trigger(Special(ch))`
  | schedule (due : Nat) (id : Nat)     -- `PeripheralTick(Collaborator(id))`
deriving DecidableEq, Repr

/-- A collaborator's answer to one callback: the value of a register read, what it calls, and the channels of
`FifoPairing(t)` at a timer overflow (R491, R531). The answers still to come are the model's inputs. -/
structure Answer where
  value : Word
  calls : List CollabCall
  fifo : List (Fin 4)
deriving DecidableEq, Repr

/-- The Scheduler's notifications (R471). -/
inductive Signal
  | hblankStart (line : Nat)
  | scanlineBoundary (line : Nat)
  | frameBoundary
deriving DecidableEq, Repr

/-- What crosses the interface to the collaborators (R530): signals, ticks, "register changed" notifications, reads of
their registers, accesses to backup storage, and accesses to the renderer's storage by memory cell (R84, log 34). -/
inductive Note
  | signal (s : Signal)
  | tick (id : Nat)
  | regWrite (offset : Nat) (w : Width) (value : Word)
  | regRead (offset : Nat) (w : Width)
  | backupWrite (offset : Nat) (value : Byte)
  | backupRead (offset : Nat)
  | videoWrite (cell : Nat) (w : Width) (value : Word)
  | videoRead (cell : Nat) (w : Width)
deriving DecidableEq, Repr

/-- What a step reports beside the next state (R13, R92, R410, R560): its cost so far, whether an exception was raised,
whether it touched a register. All at rest between steps but `raised` and `touched`, which tell of the last step. -/
structure Report where
  cost : Nat
  raised : Bool
  touched : Bool
deriving DecidableEq, Repr

/-! ## The machine -/

/-- The whole state. `core` is the core that runs next, `other` the second core of the dual-CPU variant (R3, R450).
`mem` is every byte of backing storage that does not hold the value an unlisted byte reads as. `draws` counts the free
values taken (log 3); `answers` and `outbox` are the interface to the collaborators (log 7). -/
structure State where
  par : Params
  core : Core
  other : Option Core
  mem : List Host.Cell
  lastRegion : Option RegionName
  irq : Interrupts
  timers : Vector Timer 4
  dma : Vector DmaChannel 4
  waitcnt : Half
  postFlag : Byte
  sched : Scheduler
  answers : List Answer
  outbox : List Note
  report : Report
  draws : Nat
deriving DecidableEq, Repr

/-! ## Why a step can stop -/

/-- No step faults: the machine "never stops by itself" (R548), every access of every address completes (R86), and the
exceptions of the spec are next states. -/
inductive Fault
deriving DecidableEq, Repr

/-- Why the spec gives a step no meaning (R13 `refuse`; 93_implementation_defined.md). Every refusal is safe: the model
stops where the spec leaves the hardware open. -/
inductive Refusal
  /-- An arm of `exec` that has no meaning yet. Raised by `exec` alone. Safe. -/
  | notModelled (mnemonic : String)
  /-- U3: `r15` as an operand of a multiply, or `RdHi = RdLo`. Raised by the multiplies. Safe. -/
  | multiplyOperand
  /-- U3: `r15` as a register of `SWP`, `SWPB`. Raised by them. Safe. -/
  | swapOperand
  /-- U4: `Rs = r15` as shift amount. Raised by the register-shift forms of data processing. Safe. -/
  | shiftAmountR15
  /-- U5: `Rd = r15` in a test instruction. Raised by `TST`, `TEQ`, `CMP`, `CMN`. Safe. -/
  | testDestinationR15
  /-- U6: `Rm = r15` as offset register. Raised by the register-offset transfers. Safe. -/
  | offsetR15
  /-- U6: `Rn = r15` with write-back, or as block-transfer base. Raised by transfers. Safe. -/
  | baseR15
  /-- U8: store with write-back and `Rd = Rn`. Raised by the single stores. Safe. -/
  | storeBaseWriteback
  /-- U9: halfword or signed transfer with `P = 0` and `W = 1`. Raised by that format. Safe. -/
  | halfwordPostWriteback
  /-- U10, U20: empty register list. Raised by the multiple transfers of both variants. Safe. -/
  | emptyList
  /-- U11: user-bank block transfer with write-back. Raised by `LDM`, `STM`. Safe. -/
  | userBankWriteback
  /-- U12: a value outside the seven mode codes for `cpsr.M`. Raised by `MSR` and the status restores. Safe. -/
  | illegalMode
  /-- U13: an access to `spsr` in System mode. Raised by `MRS`, `MSR`, the status restores. Safe. -/
  | noSpsr
  /-- U30: byte, halfword or signed load with `Rd = r15`. Raised by those loads. Safe. -/
  | narrowLoadR15
  /-- U40: `r15` as `Rd` of `MRS`, `Rm` of `MSR`, `Rd` of `MCR`. Raised by them. Safe. -/
  | systemOperandR15
deriving DecidableEq, Repr

/-- What a step or a meaning answers. -/
abbrev Outcome := Host.Outcome State Fault Refusal

/-! ## Reset (R51, R52) -/

/-- R51, R52: core `k` after reset. -/
def Core.reset (k : Nat) : Core :=
  { index := k, regs := RegFile.reset, cpsr := Cpsr.reset, spsrs := Spsrs.zero, halted := false, seq := false,
    time := 0 }

/-- The machine right after power-on: the single-CPU variant at the default parameters, no collaborator attached
(log 4, 5, 7). -/
def State.reset : State :=
  { par := defaultParams, core := Core.reset 0, other := none, mem := [], lastRegion := none,
    irq := Interrupts.reset, timers := Vector.replicate 4 Timer.reset, dma := Vector.replicate 4 DmaChannel.reset,
    waitcnt := 0, postFlag := 0, sched := { now := 0, devNow := 0, line := 0, dot := 0, ticks := [] },
    answers := [], outbox := [], report := { cost := 0, raised := false, touched := false }, draws := 0 }

end Sys2Proof.Machine
end

