-- ==== Sys2Proof/Machine/Memory.lean ====
section
/-! DEFINITION. Backing storage as a list of bytes in one canonical form, and the one place where byte order is decided
(R75, R76). A cell's key is `Region.store + offset` (R74), so that mirrors of a byte are one cell. -/

namespace Sys2Proof.Machine

/-- What a byte no one has written reads as. R53 gives no content to RAM after power-on and leaves the ROM images to
the loader: zero, DESIGN CHOICE (log 2). -/
def Memory.unwritten : Byte := 0

/-- The byte of a cell. -/
def Memory.read : List Host.Cell → Nat → Byte
  | [], _ => Memory.unwritten
  | (k, b) :: rest, a => if k = a then b else Memory.read rest a

/-- Put a byte in a cell, keeping the addresses rising and no cell that holds what an unlisted one reads as. -/
def Memory.write : List Host.Cell → Nat → Byte → List Host.Cell
  | [], a, v => if v = Memory.unwritten then [] else [(a, v)]
  | (k, b) :: rest, a, v =>
    if a < k then (if v = Memory.unwritten then (k, b) :: rest else (a, v) :: (k, b) :: rest)
    else if a = k then (if v = Memory.unwritten then rest else (a, v) :: rest)
    else (k, b) :: Memory.write rest a v

/-- The canonical form: addresses strictly rising, no cell equal to what an unlisted one reads as. -/
abbrev Memory.wf (m : List Host.Cell) : Prop :=
  m.Pairwise (fun x y => x.1 < y.1) ∧ ∀ c ∈ m, c.2 ≠ Memory.unwritten

/-- The bytes of an access (R12). -/
def Width.bytes : Width → Nat
  | .byte => 1
  | .half => 2
  | .word => 4

/-- The low `8n` bits of a value, zero above (R12, R86). -/
def Width.trim (w : Width) (v : Word) : Word :=
  match w with
  | .byte => v &&& 0x000000FF
  | .half => v &&& 0x0000FFFF
  | .word => v

/-- Byte lane `i` of a value (R76). -/
def lane (v : Word) (i : Nat) : Byte := v.extractLsb' (8 * i) 8

/-- A value from its four byte lanes, the lowest first (R76). -/
def ofLanes (b0 b1 b2 b3 : Byte) : Word := b3 ++ b2 ++ b1 ++ b0

/-- Little-endian read of an access's bytes, zero above its width (R76). -/
def Memory.load (m : List Host.Cell) (a : Nat) (w : Width) : Word :=
  match w with
  | .byte => ofLanes (Memory.read m a) 0 0 0
  | .half => ofLanes (Memory.read m a) (Memory.read m (a + 1)) 0 0
  | .word => ofLanes (Memory.read m a) (Memory.read m (a + 1)) (Memory.read m (a + 2)) (Memory.read m (a + 3))

/-- Little-endian write of an access's bytes (R76). -/
def Memory.store (m : List Host.Cell) (a : Nat) (w : Width) (v : Word) : List Host.Cell :=
  match w with
  | .byte => Memory.write m a (lane v 0)
  | .half => Memory.write (Memory.write m a (lane v 0)) (a + 1) (lane v 1)
  | .word =>
    Memory.write (Memory.write (Memory.write (Memory.write m a (lane v 0)) (a + 1) (lane v 1)) (a + 2) (lane v 2))
      (a + 3) (lane v 3)

end Sys2Proof.Machine
end

