-- ==== Sys2Proof/Machine/Registers.lean ====
section
/-! DEFINITION. The updates of the state, one for each piece of it, and the register file: banking (R24), the program
counter as `r15` (R30 to R33), the status registers as words (R36). -/

namespace Sys2Proof.Machine

/-! ## Updates, one field each -/

def State.setRegs (s : State) (r : RegFile) : State := { s with core := { s.core with regs := r } }
def State.setCpsr (s : State) (p : Cpsr) : State := { s with core := { s.core with cpsr := p } }
def State.setSpsrs (s : State) (p : Spsrs) : State := { s with core := { s.core with spsrs := p } }
def State.setHalted (s : State) (b : Bool) : State := { s with core := { s.core with halted := b } }
def State.setSeq (s : State) (b : Bool) : State := { s with core := { s.core with seq := b } }
def State.setTime (s : State) (t : Nat) : State := { s with core := { s.core with time := t } }
def State.setMem (s : State) (m : List Host.Cell) : State := { s with mem := m }
def State.setLastRegion (s : State) (r : Option RegionName) : State := { s with lastRegion := r }
def State.setIrq (s : State) (x : Interrupts) : State := { s with irq := x }
def State.setTimer (s : State) (t : Fin 4) (x : Timer) : State := { s with timers := s.timers.set t x }
def State.setDma (s : State) (ch : Fin 4) (x : DmaChannel) : State := { s with dma := s.dma.set ch x }
def State.setWaitcnt (s : State) (v : Half) : State := { s with waitcnt := v }
def State.setPostFlag (s : State) (v : Byte) : State := { s with postFlag := v }
def State.setSched (s : State) (x : Scheduler) : State := { s with sched := x }
def State.setAnswers (s : State) (a : List Answer) : State := { s with answers := a }
def State.note (s : State) (n : Note) : State := { s with outbox := s.outbox ++ [n] }
def State.addCost (s : State) (k : Nat) : State := { s with report := { s.report with cost := s.report.cost + k } }
def State.setRaised (s : State) : State := { s with report := { s.report with raised := true } }
def State.setTouched (s : State) : State := { s with report := { s.report with touched := true } }
def State.setDraws (s : State) (n : Nat) : State := { s with draws := n }

/-! ## Modes and banks (R24, R40) -/

/-- The code of a mode (R40). -/
def Mode.code : Mode → BitVec 5
  | .usr => 0b10000 | .fiq => 0b10001 | .irq => 0b10010 | .svc => 0b10011
  | .abt => 0b10111 | .und => 0b11011 | .sys => 0b11111

/-- The mode of a code; `none` for the codes R40 calls illegal. -/
def Mode.ofCode (b : BitVec 5) : Option Mode :=
  if b = 0b10000 then some .usr else if b = 0b10001 then some .fiq else if b = 0b10010 then some .irq
  else if b = 0b10011 then some .svc else if b = 0b10111 then some .abt else if b = 0b11011 then some .und
  else if b = 0b11111 then some .sys else none

/-- The bank of `r13` and `r14` a mode sees (R40). -/
def Mode.bank : Mode → Bank
  | .usr => .usr | .fiq => .fiq | .irq => .irq | .svc => .svc | .abt => .abt | .und => .und | .sys => .usr

def Banked.get (x : Banked) : Bank → Word
  | .usr => x.usr | .fiq => x.fiq | .irq => x.irq | .svc => x.svc | .abt => x.abt | .und => x.und

def Banked.set (x : Banked) (b : Bank) (v : Word) : Banked :=
  match b with
  | .usr => { x with usr := v } | .fiq => { x with fiq := v } | .irq => { x with irq := v }
  | .svc => { x with svc := v } | .abt => { x with abt := v } | .und => { x with und := v }

/-- `xm[m][i]`: the physical register mode `m` sees as register `i` (R24). -/
def physReg (m : Mode) (i : Reg) : PhysReg :=
  if h : i.val < 8 then .low ⟨i.val, h⟩
  else if h : i.val < 13 then
    let k : Fin 5 := ⟨i.val - 8, by omega⟩
    if m = .fiq then .midFiq k else .mid k
  else if i = 13 then .sp m.bank
  else if i = 14 then .lr m.bank
  else .pc

def RegFile.get (r : RegFile) : PhysReg → Word
  | .low i => r.low[i] | .mid i => r.mid[i] | .midFiq i => r.midFiq[i]
  | .sp b => r.sp.get b | .lr b => r.lr.get b | .pc => r.pc

def RegFile.set (r : RegFile) (p : PhysReg) (v : Word) : RegFile :=
  match p with
  | .low i => { r with low := r.low.set i v } | .mid i => { r with mid := r.mid.set i v }
  | .midFiq i => { r with midFiq := r.midFiq.set i v }
  | .sp b => { r with sp := r.sp.set b v } | .lr b => { r with lr := r.lr.set b v } | .pc => { r with pc := v }

/-! ## Registers of the executing core -/

/-- The address of the instruction being executed (R30). -/
def State.pc (s : State) : Word := s.core.regs.pc

/-- Put an address in `pc` as it stands: no alignment, no refill. -/
def State.setPc (s : State) (v : Word) : State := s.setRegs (s.core.regs.set .pc v)

/-- The instruction width of the current variant (R130). -/
def State.width (s : State) : Width := if s.core.cpsr.t then .half else .word

/-- The instruction length in bytes as an address step (R33). -/
def State.step (s : State) : Word := if s.core.cpsr.t then 2 else 4

/-- `xm[m][i]` of the executing core, `r15` as it stands. -/
def State.getMode (s : State) (m : Mode) (i : Reg) : Word := s.core.regs.get (physReg m i)

/-- Write `xm[m][i]`. -/
def State.setMode (s : State) (m : Mode) (i : Reg) (v : Word) : State :=
  s.setRegs (s.core.regs.set (physReg m i) v)

/-- `x[i]` (R12): `r15` reads `pc + 8` in the full variant, `pc + 4` in the compact one (R31). -/
def State.reg (s : State) (i : Reg) : Word :=
  if i = 15 then s.pc + (if s.core.cpsr.t then 4 else 8) else s.getMode s.core.cpsr.mode i

/-- `x[i]` where `r15` reads `pc + 12`: the register-shift form and the stores of `r15` (R31 a, b). -/
def State.regLate (s : State) (i : Reg) : Word := if i = 15 then s.pc + 12 else s.reg i

/-- `x[i] <- v` for a register that is not `r15`: a write of `r15` is a control transfer (R12, Ops `writePc`). -/
def State.setReg (s : State) (i : Reg) (v : Word) : State := s.setMode s.core.cpsr.mode i v

/-- A low register named by three bits (R27). -/
def lowReg (i : LReg) : Reg := i.castLE (by decide)

/-- The step's end when `pc` was not written (R33). -/
def State.advance (s : State) : State := s.setPc (s.pc + s.step)

/-! ## Status registers as words (R36) -/

/-- The layout of R36, reserved bits zero (R41). -/
def statusWord (n z c v i f t : Bool) (m : BitVec 5) : Word :=
  BitVec.ofBool n ++ BitVec.ofBool z ++ BitVec.ofBool c ++ BitVec.ofBool v ++ 0#20 ++ BitVec.ofBool i ++
    BitVec.ofBool f ++ BitVec.ofBool t ++ m

def Cpsr.toWord (p : Cpsr) : Word := statusWord p.n p.z p.c p.v p.i p.f p.t p.mode.code
def Spsr.toWord (p : Spsr) : Word := statusWord p.n p.z p.c p.v p.i p.f p.t p.m

/-- A saved status register holds any value; its reserved bits ignore the write (R41). -/
def Spsr.ofWord (w : Word) : Spsr :=
  { n := w.getLsbD 31, z := w.getLsbD 30, c := w.getLsbD 29, v := w.getLsbD 28, i := w.getLsbD 7, f := w.getLsbD 6,
    t := w.getLsbD 5, m := w.extractLsb' 0 5 }

/-- `cpsr <- spsr`: none when the mode field is illegal (U12). -/
def Spsr.restore (p : Spsr) : Option Cpsr :=
  (Mode.ofCode p.m).map fun m =>
    { n := p.n, z := p.z, c := p.c, v := p.v, i := p.i, f := p.f, t := p.t, mode := m }

/-- A word as `cpsr`: none when its mode field is illegal (U12). -/
def Cpsr.ofWord (w : Word) : Option Cpsr := (Spsr.ofWord w).restore

/-- What an exception entry saves (R410). -/
def Cpsr.save (p : Cpsr) : Spsr :=
  { n := p.n, z := p.z, c := p.c, v := p.v, i := p.i, f := p.f, t := p.t, m := p.mode.code }

/-- `spsr_<m>`; none in the two modes that have no saved status register (R42). -/
def Spsrs.get (x : Spsrs) : Mode → Option Spsr
  | .fiq => some x.fiq | .irq => some x.irq | .svc => some x.svc | .abt => some x.abt | .und => some x.und
  | .usr => none | .sys => none

/-- Write `spsr_<m>`; nothing in the two modes that have none. -/
def Spsrs.set (x : Spsrs) (m : Mode) (v : Spsr) : Spsrs :=
  match m with
  | .fiq => { x with fiq := v } | .irq => { x with irq := v } | .svc => { x with svc := v }
  | .abt => { x with abt := v } | .und => { x with und := v } | .usr => x | .sys => x

/-- `spsr` of the current mode (R35). -/
def State.spsr (s : State) : Option Spsr := s.core.spsrs.get s.core.cpsr.mode

end Sys2Proof.Machine
end

