-- ==== Sys2Proof/Machine/Devices.lean ====
section
/-! DEFINITION. The Interrupt Controller's input (R429), the DMA trigger latch (R506), and the calls a collaborator
makes inside a callback (R531). -/

namespace Sys2Proof.Machine

/-- `request(source)`: `IF[source] <- 1` (R429). `IF` has bits 13:0 (R426). -/
def State.request (s : State) (source : Nat) : State :=
  s.setIrq { s.irq with pending := s.irq.pending ||| ((1#16 <<< source) &&& 0x3FFF) }

/-! ## The control word of a DMA channel (R504) -/

def DmaChannel.dstMode (x : DmaChannel) : BitVec 2 := x.cntH.extractLsb' 5 2
def DmaChannel.srcMode (x : DmaChannel) : BitVec 2 := x.cntH.extractLsb' 7 2
def DmaChannel.repeats (x : DmaChannel) : Bool := x.cntH.getLsbD 9
def DmaChannel.wide (x : DmaChannel) : Bool := x.cntH.getLsbD 10
def DmaChannel.trigger (x : DmaChannel) : BitVec 2 := x.cntH.extractLsb' 12 2
def DmaChannel.irqEn (x : DmaChannel) : Bool := x.cntH.getLsbD 14
def DmaChannel.armed (x : DmaChannel) : Bool := x.cntH.getLsbD 15

/-- Latch a request for channel `ch` if it is armed with trigger `trig`; otherwise the trigger is lost (R506). -/
def State.latchRequest (trig : BitVec 2) (s : State) (ch : Fin 4) : State :=
  if s.dma[ch].armed && s.dma[ch].trigger == trig then s.setDma ch { s.dma[ch] with req := true } else s

/-- `check_trigger(VBlank)` (R506). -/
def State.checkVBlank (s : State) : State := [0, 1, 2, 3].foldl (State.latchRequest 1) s

/-- `check_trigger(HBlank)` (R506). -/
def State.checkHBlank (s : State) : State := [0, 1, 2, 3].foldl (State.latchRequest 2) s

/-- `check_trigger(Special(ch))` (R506). Channel 0 has no special trigger and is never requested (R514, U24). -/
def State.checkSpecial (s : State) (ch : Fin 4) : State := if ch = 0 then s else State.latchRequest 3 s ch

/-- The interrupt sources a collaborator owns (R428): VBlank, HBlank, scanline match, serial, keypad, cartridge. -/
def collaboratorSources : List Nat := [0, 1, 2, 7, 12, 13]

/-- One call of a collaborator (R531). A call it has no right to make does nothing. -/
def State.collabCall (s : State) (c : CollabCall) : State :=
  match c with
  | .request source => if collaboratorSources.contains source then s.request source else s
  | .special ch => s.checkSpecial ch
  | .schedule due id =>
    if s.sched.devNow ≤ due then s.setSched { s.sched with ticks := s.sched.ticks ++ [{ due := due, id := id }] } else s

/-- Take the collaborator's answer to the callback being made; none is left when no collaborator is attached (log 7). -/
def State.takeAnswer (s : State) : Option Answer × State :=
  match s.answers with
  | [] => (none, s)
  | a :: rest => (some a, s.setAnswers rest)

/-- A callback (R531): the note goes out, the answer's calls are made, its value is handed back. With no collaborator
attached all inputs are empty, and what a read gives then is the region's to say (R86, R531). -/
def State.callback (s : State) (n : Note) : Option Word × State :=
  match (s.note n).takeAnswer with
  | (none, s) => (none, s)
  | (some a, s) => (some a.value, a.calls.foldl State.collabCall s)

end Sys2Proof.Machine
end

