-- ==== Sys2Proof/Machine/Timers.lean ====
section
/-! DEFINITION. The Timer Units (R480 to R493). -/

namespace Sys2Proof.Machine

/-- A timer that counts cycles: enabled and not cascading; timer 0 has no predecessor and always counts cycles
(R483, R489). -/
def State.countsCycles (s : State) (t : Fin 4) : Bool :=
  s.timers[t].enable && !(s.timers[t].cascade && decide (0 < t.val))

/-- `FifoPairing(t)` (R491): the channels the audio collaborator names, of which only 1 and 2 count; none without one. -/
def State.fifoPairing (s : State) : State :=
  match s.takeAnswer with
  | (none, s) => s
  | (some a, s) => (a.fifo.filter fun ch => ch = 1 || ch = 2).foldl State.checkSpecial s

/-- `increment(t)` and `overflow(t)` (R483, R484) for the first timer of the list, the timers after it being its
successors: an overflow reloads, requests interrupt `3 + t`, pairs with DMA, and increments an enabled cascading
successor (R485). -/
def State.increment (s : State) : List (Fin 4) → State
  | [] => s
  | t :: rest =>
    let x := s.timers[t]
    if x.counter = 0xFFFF then
      let s := s.setTimer t { x with counter := x.reload }
      let s := if x.irqEn then s.request (3 + t.val) else s
      let s := s.fifoPairing
      match rest with
      | [] => s
      | u :: _ => if s.timers[u].enable && s.timers[u].cascade then s.increment rest else s
    else s.setTimer t { x with counter := x.counter + 1 }

/-- `tick_one_cycle(t)` (R483) for the first timer of the list. -/
def State.tickOne (s : State) : List (Fin 4) → State
  | [] => s
  | t :: rest =>
    let x := s.timers[t]
    if s.countsCycles t then
      if prescaleDivisor x.prescale ≤ x.div + 1 then (s.setTimer t { x with div := 0 }).increment (t :: rest)
      else s.setTimer t { x with div := x.div + 1 }
    else s

/-- One global cycle of all timers, by index ascending (R463, R465). -/
def State.tickTimers (s : State) : State :=
  [[0, 1, 2, 3], [1, 2, 3], [2, 3], [3]].foldl State.tickOne s

/-- `TMtCNT_H` as read (R482): reserved bits zero. -/
def Timer.control (x : Timer) : Half :=
  0#8 ++ BitVec.ofBool x.enable ++ BitVec.ofBool x.irqEn ++ 0#3 ++ BitVec.ofBool x.cascade ++ x.prescale

/-- A write of `TMtCNT_H` (R482, R486): the enable edge reloads the counter and clears the divider; a change of
prescale while enabled clears the divider. -/
def Timer.writeControl (x : Timer) (v : Half) : Timer :=
  let en := v.getLsbD 7
  let pre := v.extractLsb' 0 2
  let edge := en && !x.enable
  { counter := if edge then x.reload else x.counter
    reload := x.reload
    prescale := pre
    cascade := v.getLsbD 2
    irqEn := v.getLsbD 6
    enable := en
    div := if edge || (en && pre != x.prescale) then 0 else x.div }

/-- R493: the cycle at which a timer that counts cycles overflows next. -/
def State.nextOverflow (s : State) (t : Fin 4) : Nat :=
  let x := s.timers[t]
  let p := prescaleDivisor x.prescale
  s.sched.devNow + (p - x.div) + (0xFFFF - x.counter.toNat) * p

end Sys2Proof.Machine
end

