-- ==== Sys2Proof/Machine/DmaControl.lean ====
section
/-! DEFINITION. The DMA channels' registers: counts, arming and disarming (R503 to R505, R511). -/

namespace Sys2Proof.Machine

/-- The transfer count of `CNT_L` (R503): its low bits, zero meaning the maximum. -/
def dmaCount (ch : Fin 4) (cntL : Half) : Nat :=
  let n := cntL.toNat % 2 ^ dmaCountBits ch
  if n = 0 then 2 ^ dmaCountBits ch else n

/-- `& ~(w - 1)` for a unit of 4 (`wide`) or 2 bytes (R505, R508). -/
def alignUnit (wide : Bool) (a : Word) : Word := if wide then a &&& 0xFFFFFFFC else a &&& 0xFFFFFFFE

/-- The source latch (R505). -/
def DmaChannel.latchSrc (ch : Fin 4) (x : DmaChannel) : Word := alignUnit x.wide (x.sad &&& dmaSrcMask ch)

/-- The destination latch (R505, R511). -/
def DmaChannel.latchDst (ch : Fin 4) (x : DmaChannel) : Word := alignUnit x.wide (x.dad &&& dmaDstMask ch)

/-- The bits of `CNT_H` that are stored (R504): 4:0 read zero. -/
def dmaControlMask : Half := 0xFFE0

/-- A write of `CNT_H` (R505): bit 15 from 0 to 1 arms and latches, a clear bit 15 disarms, otherwise only the control
fields change. -/
def DmaChannel.writeControl (ch : Fin 4) (x : DmaChannel) (v : Half) : DmaChannel :=
  let y := { x with cntH := v &&& dmaControlMask }
  if !y.armed then { y with req := false }
  else if x.armed then y
  else { y with src := y.latchSrc ch, dst := y.latchDst ch, cnt := dmaCount ch x.cntL, req := y.trigger == 0 }

/-- `reload(ch)` (R511), by the programmed unit width and destination mode, after a FIFO refill too. DEDUCED (log 32). -/
def DmaChannel.reload (ch : Fin 4) (x : DmaChannel) : DmaChannel :=
  { x with cnt := dmaCount ch x.cntL, dst := if x.dstMode = 3 then x.latchDst ch else x.dst }

end Sys2Proof.Machine
end

