-- ==== Sys2Proof/Machine/Io.lean ====
section
/-! DEFINITION. The register handlers of the IO region (R89, R90, R470): which register covers an offset, what a byte of
it reads as, and what a write does. Registers are handled as the halfwords they are made of. -/

namespace Sys2Proof.Machine

/-- Who makes a Bus access: `HALTCNT` tells them apart (R448). -/
inductive Requester
  | core | dma
deriving DecidableEq, Repr

/-- The halfwords of the in-scope device registers (R470). -/
inductive IoHalf
  | dmaSadLow (ch : Fin 4)
  | dmaSadHigh (ch : Fin 4)
  | dmaDadLow (ch : Fin 4)
  | dmaDadHigh (ch : Fin 4)
  | dmaCntL (ch : Fin 4)
  | dmaCntH (ch : Fin 4)
  | timerCntL (t : Fin 4)
  | timerCntH (t : Fin 4)
  | interruptEnable
  | interruptFlags
  | waitControl
  | masterLow
  | masterHigh
  | postHalt
deriving DecidableEq, Repr

/-- The halfword register at an even offset of the IO region; none where R470 assigns nothing (R90). -/
def ioHalf (off : Nat) : Option IoHalf :=
  if 0xB0 ≤ off ∧ off < 0xE0 then
    let ch := Fin.ofNat 4 ((off - 0xB0) / 12)
    let sub := (off - 0xB0) % 12
    if sub = 0 then some (.dmaSadLow ch) else if sub = 2 then some (.dmaSadHigh ch)
    else if sub = 4 then some (.dmaDadLow ch) else if sub = 6 then some (.dmaDadHigh ch)
    else if sub = 8 then some (.dmaCntL ch) else some (.dmaCntH ch)
  else if 0x100 ≤ off ∧ off < 0x110 then
    let t := Fin.ofNat 4 ((off - 0x100) / 4)
    if (off - 0x100) % 4 = 0 then some (.timerCntL t) else some (.timerCntH t)
  else if off = 0x200 then some .interruptEnable
  else if off = 0x202 then some .interruptFlags
  else if off = 0x204 then some .waitControl
  else if off = 0x208 then some .masterLow
  else if off = 0x20A then some .masterHigh
  else if off = 0x300 then some .postHalt
  else none

/-- The offsets whose registers belong to collaborators (R470): renderer and audio, serial and keypad. -/
def isCollaborator (off : Nat) : Bool :=
  decide (off < 0xB0) || (decide (0x120 ≤ off) && decide (off < 0x160))

/-- Byte `0` (low) or `1` (high) of a halfword. -/
def halfByte (v : Half) (high : Bool) : Byte := if high then v.extractLsb' 8 8 else v.extractLsb' 0 8

/-- A halfword with the bytes a write covers replaced (R89). -/
def mergeHalf (old new : Half) (low high : Bool) : Half :=
  (if high then halfByte new true else halfByte old true) ++ (if low then halfByte new false else halfByte old false)

/-- What a byte of a register reads as; none for a write-only register (R448, R501 to R503, U26). -/
def IoHalf.readByte (r : IoHalf) (high : Bool) (s : State) : Option Byte :=
  match r with
  | .dmaSadLow _ | .dmaSadHigh _ | .dmaDadLow _ | .dmaDadHigh _ | .dmaCntL _ => none
  | .dmaCntH ch => some (halfByte s.dma[ch].cntH high)
  | .timerCntL t => some (halfByte s.timers[t].counter high)
  | .timerCntH t => some (halfByte s.timers[t].control high)
  | .interruptEnable => some (halfByte s.irq.enable high)
  | .interruptFlags => some (halfByte s.irq.pending high)
  | .waitControl => some (halfByte s.waitcnt high)
  | .masterLow => some (halfByte (0#15 ++ BitVec.ofBool s.irq.master) high)
  | .masterHigh => some 0
  | .postHalt => if high then none else some s.postFlag

/-- The low or high halfword of a 32-bit register replaced. -/
def setLowHalf (w : Word) (v : Half) : Word := w.extractLsb' 16 16 ++ v
def setHighHalf (w : Word) (v : Half) : Word := v ++ w.extractLsb' 0 16

/-- A write of the low and/or high byte of a halfword register, with the register's side effect (R89). -/
def IoHalf.write (r : IoHalf) (req : Requester) (v : Half) (low high : Bool) (s : State) : State :=
  match r with
  | .dmaSadLow ch =>
    let x := s.dma[ch]
    s.setDma ch { x with sad := setLowHalf x.sad (mergeHalf (x.sad.extractLsb' 0 16) v low high) }
  | .dmaSadHigh ch =>
    let x := s.dma[ch]
    s.setDma ch { x with sad := setHighHalf x.sad (mergeHalf (x.sad.extractLsb' 16 16) v low high) }
  | .dmaDadLow ch =>
    let x := s.dma[ch]
    s.setDma ch { x with dad := setLowHalf x.dad (mergeHalf (x.dad.extractLsb' 0 16) v low high) }
  | .dmaDadHigh ch =>
    let x := s.dma[ch]
    s.setDma ch { x with dad := setHighHalf x.dad (mergeHalf (x.dad.extractLsb' 16 16) v low high) }
  | .dmaCntL ch =>
    let x := s.dma[ch]
    s.setDma ch { x with cntL := mergeHalf x.cntL v low high }
  | .dmaCntH ch =>
    let x := s.dma[ch]
    s.setDma ch (x.writeControl ch (mergeHalf x.cntH v low high))
  | .timerCntL t =>
    let x := s.timers[t]
    s.setTimer t { x with reload := mergeHalf x.reload v low high }
  | .timerCntH t =>
    let x := s.timers[t]
    s.setTimer t (x.writeControl (mergeHalf x.control v low high))
  | .interruptEnable => s.setIrq { s.irq with enable := mergeHalf s.irq.enable v low high &&& 0x3FFF }
  | .interruptFlags => s.setIrq { s.irq with pending := s.irq.pending &&& ~~~(mergeHalf 0 v low high) }
  | .waitControl => s.setWaitcnt (mergeHalf s.waitcnt v low high &&& 0x5FFF)
  | .masterLow => if low then s.setIrq { s.irq with master := v.getLsbD 0 } else s
  | .masterHigh => s
  | .postHalt =>
    let s := if low then s.setPostFlag (halfByte v false) else s
    if high && !v.getLsbD 15 && req == .core then s.setHalted true else s

/-- One byte lane of a read: the register's byte, or the region's open-bus byte of that lane (R89). -/
def ioReadByte (r : Region) (s : State) (off i : Nat) : Byte :=
  match ioHalf (off + i - (off + i) % 2) with
  | none => lane r.openBus i
  | some h => (h.readByte (decide ((off + i) % 2 = 1)) s).getD (lane r.openBus i)

/-- A write of one halfword of the IO region, of which it covers the low and/or high byte. -/
def ioWriteHalf (req : Requester) (off : Nat) (v : Half) (low high : Bool) (s : State) : State :=
  match ioHalf off with
  | none => s
  | some h => h.write req v low high s

/-- A read of the IO region (R89): a collaborator's register reads what the collaborator supplies (R470), open bus of
the region when none is attached (R86, R531); every other lane by lane. -/
def ioRead (r : Region) (off : Nat) (w : Width) (s : State) : Word × State :=
  if isCollaborator off then
    let (v, s) := s.callback (.regRead off w)
    (w.trim (v.getD r.openBus), s)
  else
    let b := ioReadByte r s off
    (match w with
      | .byte => ofLanes (b 0) 0 0 0
      | .half => ofLanes (b 0) (b 1) 0 0
      | .word => ofLanes (b 0) (b 1) (b 2) (b 3), s)

/-- A write of the IO region (R89): forwarded to the collaborator that owns the register (R470), or presented to the
registers it covers, the lower address first. -/
def ioWrite (req : Requester) (off : Nat) (w : Width) (v : Word) (s : State) : State :=
  if isCollaborator off then (s.callback (.regWrite off w (w.trim v))).2
  else
    match w with
    | .byte =>
      if off % 2 = 0 then ioWriteHalf req off (v.extractLsb' 0 16) true false s
      else ioWriteHalf req (off - 1) (v.extractLsb' 0 8 ++ 0#8) false true s
    | .half => ioWriteHalf req off (v.extractLsb' 0 16) true true s
    | .word => ioWriteHalf req (off + 2) (v.extractLsb' 16 16) true true
        (ioWriteHalf req off (v.extractLsb' 0 16) true true s)

end Sys2Proof.Machine
end

