-- ==== Sys2Proof/Machine/Bus.lean ====
section
/-! DEFINITION. The Bus: region lookup and mirroring (R73, R74, R84), access cost (R93 to R98), the read and write
contract (R87, R88), and the aligned loads and stores of every instruction (R78 to R82). -/

namespace Sys2Proof.Machine

/-- Whether an access is sequential (R94). -/
inductive AccessKind
  | n | s
deriving DecidableEq, Repr

/-! ## Regions -/

/-- `lookup(addr)` (R73). -/
def lookup (regions : List Region) (a : Word) : Option Region :=
  regions.find? fun r => decide (r.first ≤ a.toNat) && decide (a.toNat ≤ r.last)

/-- The offset into backing storage: the address modulo the region's period, folded (R74, R84). -/
def Region.offset (r : Region) (a : Word) : Nat :=
  let off := (a.toNat - r.first) % r.period
  if r.backing ≤ off then off - r.fold else off

/-- The access of width `w` at offset `off` lies inside the backing storage (R87, R88). -/
def Region.holds (r : Region) (off : Nat) (w : Width) : Bool := decide (off + w.bytes ≤ r.backing)

/-- The region can be read at offset `off` by width `w` (R72, R87). -/
def Region.readable (r : Region) (off : Nat) (w : Width) : Bool := r.readWidths.contains w && r.holds off w

/-- A write at offset `off` by width `w` is not turned away before the width rule (R88): the region does not ignore
writes, and the offset is valid. -/
def Region.writable (r : Region) (off : Nat) (w : Width) : Bool := !r.writeWidths.isEmpty && r.holds off w

/-! ## Cost -/

/-- The two-bit selectors of `WAITCNT` (R97). -/
def waitSelect (sel : BitVec 2) : Nat := if sel = 0 then 4 else if sel = 1 then 3 else if sel = 2 then 2 else 8

/-- `WB` (R97). -/
def waitBackup (c : Half) : Nat := waitSelect (c.extractLsb' 0 2)

/-- `WN[k]` (R97). -/
def waitN (c : Half) (k : Fin 3) : Nat :=
  waitSelect (if k = 0 then c.extractLsb' 2 2 else if k = 1 then c.extractLsb' 5 2 else c.extractLsb' 8 2)

/-- `WS[k]` (R97). -/
def waitS (c : Half) (k : Fin 3) : Nat :=
  if k = 0 then (if c.getLsbD 4 then 1 else 2)
  else if k = 1 then (if c.getLsbD 7 then 1 else 4)
  else (if c.getLsbD 10 then 1 else 8)

/-- `WAIT[region][width][kind]` (R96). -/
def WaitRule.cost (rule : WaitRule) (waitcnt : Half) (w : Width) (k : AccessKind) : Nat :=
  match rule with
  | .fixed row =>
    match w, k with
    | .byte, .n => row.n1 | .byte, .s => row.s1
    | .half, .n => row.n2 | .half, .s => row.s2
    | .word, .n => row.n4 | .word, .s => row.s4
  | .rom i =>
    match w, k with
    | .word, .n => (1 + waitN waitcnt i) + (1 + waitS waitcnt i)
    | .word, .s => 2 * (1 + waitS waitcnt i)
    | _, .n => 1 + waitN waitcnt i
    | _, .s => 1 + waitS waitcnt i
  | .backup => 1 + waitBackup waitcnt

/-- The kind an access is charged as: S only in the region of the most recent access (R95). -/
def State.charged (s : State) (r : Region) (k : AccessKind) : AccessKind :=
  match k with
  | .n => .n
  | .s => if s.lastRegion = some r.name then .s else .n

/-- Charge one access and make its region the most recent one (R87, R95, R96). -/
def State.charge (s : State) (a : Word) (w : Width) (k : AccessKind) : State :=
  match lookup s.par.regions a with
  | none => (s.addCost s.par.unmappedCost).setLastRegion none
  | some r => (s.addCost (r.wait.cost s.waitcnt w (s.charged r k))).setLastRegion (some r.name)

/-! ## The contract -/

/-- The persistence collaborator's read (R85, R102): its byte in every lane, the stored one when none is attached
(log 8). -/
def backupRead (r : Region) (off : Nat) (w : Width) (s : State) : Word × State :=
  let (v, s) := s.callback (.backupRead off)
  let b := match v with
    | none => Memory.read s.mem (r.store + off)
    | some v => lane v 0
  (w.trim (ofLanes b b b b), s)

/-- The persistence collaborator's write (R85): the low byte at the offset. -/
def backupWrite (r : Region) (off : Nat) (v : Word) (s : State) : State :=
  ((s.setMem (Memory.write s.mem (r.store + off) (lane v 0))).callback (.backupWrite off (lane v 0))).2

/-- What a read answers once it is charged (R87); a width the region cannot be read by is an invalid access (R72). The
renderer's storage answers its bytes, whatever the renderer does with the access (R84, log 34). -/
def State.readRegion (s : State) (r : Region) (a : Word) (w : Width) : Word × State :=
  let off := r.offset a
  if r.readable off w then
    match r.handler with
    | .storage => (Memory.load s.mem (r.store + off) w, s)
    | .renderer => (Memory.load s.mem (r.store + off) w, (s.setTouched.callback (.videoRead (r.store + off) w)).2)
    | .io => ioRead r off w s.setTouched
    | .backup => backupRead r off w s.setTouched
  else (w.trim r.openBus, s)

/-- `MemRead(addr, n)` (R87). The value is zero above its width. -/
def State.busRead (s : State) (a : Word) (w : Width) (k : AccessKind) : Word × State :=
  let s := s.charge a w k
  match lookup s.par.regions a with
  | none => (w.trim s.par.openBus, s)
  | some r => s.readRegion r a w

/-- The cells a write covers, and the value it puts there, after the width rule (R85); none for a write that changes
nothing. -/
def Region.target (r : Region) (a : Word) (w : Width) (v : Word) : Option (Nat × Width × Word) :=
  let off := r.offset a
  if !r.writable off w then none
  else if r.writeWidths.contains w then some (r.store + off, w, v)
  else
    match r.narrow, w with
    | .duplicateByte, .byte => some (r.store + (off - off % 2), .half, ofLanes (lane v 0) (lane v 0) 0 0)
    | _, _ => none

/-- The store of a write to storage. -/
def State.put (s : State) (t : Option (Nat × Width × Word)) : State :=
  match t with
  | none => s
  | some (cell, w, v) => s.setMem (Memory.store s.mem cell w v)

/-- The renderer's part of a write: it learns what was stored (R84, log 34). -/
def videoWrite (t : Option (Nat × Width × Word)) (s : State) : State :=
  match t with
  | none => s
  | some (cell, w, v) => (s.callback (.videoWrite cell w (w.trim v))).2

/-- What a write does once it is charged (R88): nothing where the region ignores writes or the offset is invalid; a
write the width rule drops still touches a collaborator's region (log 22). -/
def State.writeRegion (s : State) (req : Requester) (r : Region) (a : Word) (w : Width) (v : Word) : State :=
  let off := r.offset a
  if r.writable off w then
    match r.handler with
    | .storage => s.put (r.target a w v)
    | .renderer => videoWrite (r.target a w v) (s.setTouched.put (r.target a w v))
    | .io => if r.writeWidths.contains w then ioWrite req off w v s.setTouched else s.setTouched
    | .backup => if r.writeWidths.contains w then backupWrite r off v s.setTouched else s.setTouched
  else s

/-- `MemWrite(addr, n, v)` (R88). -/
def State.busWrite (s : State) (req : Requester) (a : Word) (w : Width) (v : Word) (k : AccessKind) : State :=
  let s := s.charge a w k
  match lookup s.par.regions a with
  | none => s
  | some r => s.writeRegion req r a w v

/-! ## Aligned accesses (R78 to R82) -/

def alignWord (a : Word) : Word := a &&& 0xFFFFFFFC
def alignHalf (a : Word) : Word := a &&& 0xFFFFFFFE

/-- The address an access of width `w` puts on the Bus (R78). -/
def Width.align (w : Width) (a : Word) : Word :=
  match w with
  | .byte => a
  | .half => alignHalf a
  | .word => alignWord a

/-- `LoadWord(a)` (R79, R340): the aligned word rotated so that the byte at `a` is lowest. -/
def State.loadWord (s : State) (a : Word) : Word × State :=
  let (v, s) := s.busRead (alignWord a) .word .n
  (v.rotateRight (8 * (a.extractLsb' 0 2).toNat), s)

/-- `LoadHalf(a)` (R80, R340). -/
def State.loadHalf (s : State) (a : Word) : Word × State :=
  let (v, s) := s.busRead (alignHalf a) .half .n
  (if a.getLsbD 0 then v.rotateRight 8 else v, s)

/-- An unsigned byte load (R213). -/
def State.loadByte (s : State) (a : Word) : Word × State := s.busRead a .byte .n

/-- A signed byte load (R222). -/
def State.loadSignedByte (s : State) (a : Word) : Word × State :=
  let (v, s) := s.busRead a .byte .n
  ((v.extractLsb' 0 8).signExtend 32, s)

/-- A signed halfword load (R81): the signed byte at an odd address. -/
def State.loadSignedHalf (s : State) (a : Word) : Word × State :=
  if a.getLsbD 0 then s.loadSignedByte a
  else
    let (v, s) := s.busRead (alignHalf a) .half .n
    ((v.extractLsb' 0 16).signExtend 32, s)

/-- A store by the executing core: force-aligned, never rotated (R82). -/
def State.storeData (s : State) (a : Word) (w : Width) (v : Word) (k : AccessKind) : State :=
  s.busWrite .core (w.align a) w v k

end Sys2Proof.Machine
end

