-- ==== Sys2Proof/Machine/Transfer.lean ====
section
/-! DEFINITION. A DMA transfer (R507 to R514). -/

namespace Sys2Proof.Machine

/-- `stepof(mode) * w` (R507): what one unit adds to an address. -/
def dmaStep (mode : BitVec 2) (w : Width) : Word :=
  let n := BitVec.ofNat 32 w.bytes
  if mode = 1 then 0 - n else if mode = 2 then 0 else n

/-- One unit: a read and a write through the Bus, then both latches step (R507, R508, R515). -/
def State.dmaUnit (s : State) (ch : Fin 4) (w : Width) (srcMode dstMode : BitVec 2) (k : AccessKind) : State :=
  let (v, s) := s.busRead (w.align s.dma[ch].src) w k
  let s := s.busWrite .dma (w.align s.dma[ch].dst) w v k
  let x := s.dma[ch]
  s.setDma ch { x with src := x.src + dmaStep srcMode w, dst := x.dst + dmaStep dstMode w }

/-- The units of a transfer: the first proposed N, the later ones S (R513). -/
def State.dmaUnits (s : State) (ch : Fin 4) (w : Width) (srcMode dstMode : BitVec 2) : Nat → AccessKind → State
  | 0, _ => s
  | n + 1, k => (s.dmaUnit ch w srcMode dstMode k).dmaUnits ch w srcMode dstMode n .s

/-- `completion(ch)` (R510). -/
def State.dmaCompletion (s : State) (ch : Fin 4) : State :=
  let s := if s.dma[ch].irqEn then s.request (8 + ch.val) else s
  let x := s.dma[ch]
  s.setDma ch (if x.repeats && x.trigger != 0 then x.reload ch else { x with cntH := x.cntH &&& 0x7FFF })

/-- Channels 1 and 2 with trigger 3 refill an audio FIFO (R514). -/
def DmaChannel.isFifo (ch : Fin 4) (x : DmaChannel) : Bool := x.trigger == 3 && (ch == 1 || ch == 2)

/-- `transfer(ch)` (R507); its cost is left in the report, in global cycles (R513). -/
def State.dmaTransfer (s : State) (ch : Fin 4) : State :=
  let x := s.dma[ch]
  let fifo := x.isFifo ch
  let w : Width := if fifo || x.wide then .word else .half
  let n := if fifo then 4 else x.cnt
  let dstMode := if fifo then 2 else x.dstMode
  let s := (s.addCost s.par.internal.dma).dmaUnits ch w x.srcMode dstMode n .n
  let y := s.dma[ch]
  (s.setDma ch { y with req := false, cnt := y.cnt - n }).dmaCompletion ch

/-- The channel a checkpoint runs: the lowest that is enabled and requested (R467, R512). -/
def State.dmaReady (s : State) : Option (Fin 4) :=
  [0, 1, 2, 3].find? fun ch => s.dma[ch].armed && s.dma[ch].req

end Sys2Proof.Machine
end

