-- ==== Sys2Proof/Machine/Ops.lean ====
section
/-! DEFINITION. The shared operations of instructions: control transfer and refill (R32, R566), taking an exception
(R402, R410) and returning from one (R416), the privileged-operation policy (R444), the condition gate (R133). Memory
and register accesses are in Bus.lean and Registers.lean. -/

namespace Sys2Proof.Machine

/-! ## Control transfer -/

/-- The refill of R566: two opcode-width accesses at the new `pc`, accounting only; the next fetch is sequential. -/
def State.refill (s : State) : State :=
  ((s.charge s.pc s.width .n).charge (s.pc + s.step) s.width .s).setSeq true

/-- The alignment of a written `pc` by the variant after the write (R32). -/
def State.alignPc (s : State) (v : Word) : Word := if s.core.cpsr.t then alignHalf v else alignWord v

/-- `pc <- v` (R32, R566). -/
def State.writePc (s : State) (v : Word) : State := (s.setPc (s.alignPc v)).refill

/-- `x[i] <- v` at the end of an instruction: a control transfer for `r15`, else the register and the next instruction
(R12, R33). -/
def State.finishReg (s : State) (i : Reg) (v : Word) : State :=
  if i = 15 then s.writePc v else (s.setReg i v).advance

/-! ## Exceptions -/

/-- The exception kinds of R402; the aborts and the fast interrupt have no source (R404). -/
inductive ExceptionKind
  | reset | undefined | software | prefetchAbort | dataAbort | interrupt | fastInterrupt
deriving DecidableEq, Repr

/-- The mode entered (R402). -/
def ExceptionKind.mode : ExceptionKind → Mode
  | .reset => .svc | .undefined => .und | .software => .svc | .prefetchAbort => .abt | .dataAbort => .abt
  | .interrupt => .irq | .fastInterrupt => .fiq

/-- The vector (R402, R403). -/
def ExceptionKind.vector : ExceptionKind → Word
  | .reset => 0x00 | .undefined => 0x04 | .software => 0x08 | .prefetchAbort => 0x0C | .dataAbort => 0x10
  | .interrupt => 0x18 | .fastInterrupt => 0x1C

/-- Whether entry masks fast interrupts (R402, R410). -/
def ExceptionKind.setsF : ExceptionKind → Bool
  | .reset => true | .fastInterrupt => true
  | .undefined => false | .software => false | .prefetchAbort => false | .dataAbort => false | .interrupt => false

/-- Exception entry (R410): the old status into the saved status register of the mode entered, the return address into
its `r14`, full variant, interrupts masked, `pc` at the vector, refill. -/
def State.enterException (s : State) (k : ExceptionKind) (ret : Word) : State :=
  let old := s.core.cpsr
  let s := s.setCpsr { old with mode := k.mode, t := false, i := true, f := old.f || k.setsF }
  let s := s.setSpsrs (s.core.spsrs.set k.mode old.save)
  let s := s.setReg 14 ret
  (s.setPc k.vector).refill.setRaised

/-- `raise UndefinedInstruction` (R405, R411, R413, R563). -/
def State.takeUndefined (s : State) : State :=
  (s.addCost s.par.internal.undefined).enterException .undefined (s.pc + s.step)

/-- `raise SoftwareInterrupt` (R406, R411, R413). -/
def State.takeSoftware (s : State) : State := s.enterException .software (s.pc + s.step)

/-- Hardware interrupt entry (R408, R411, R413): the return address is the next instruction's plus 4 in both
variants. -/
def State.takeInterrupt (s : State) : State :=
  (s.addCost s.par.internal.interrupt).enterException .interrupt (s.pc + 4)

/-- Return from an exception (R416): `cpsr <- spsr`, then `pc <- v` aligned by the restored variant. -/
def State.exceptionReturn (s : State) (v : Word) : Outcome :=
  match s.spsr with
  | none => .refused .noSpsr
  | some p =>
    match p.restore with
    | none => .refused .illegalMode
    | some c => .next ((s.setCpsr c).writePc v)

/-! ## Gates -/

/-- A privileged operation (R263, R444): its effect in a privileged mode; in User mode the undefined-instruction
exception, or the unprivileged part under `PRIV_POLICY = ignore`. -/
def State.privileged (s : State) (ignored effect : State → Outcome) : Outcome :=
  if s.core.cpsr.mode = .usr then
    match s.par.privPolicy with
    | .trap => .next s.takeUndefined
    | .ignore => ignored s
  else effect s

/-- The condition table (R134). -/
def condHolds (c : Cond) (p : Cpsr) : Bool :=
  match c with
  | .eq => p.z | .ne => !p.z | .cs => p.c | .cc => !p.c | .mi => p.n | .pl => !p.n | .vs => p.v | .vc => !p.v
  | .hi => p.c && !p.z | .ls => !p.c || p.z | .ge => p.n == p.v | .lt => p.n != p.v
  | .gt => !p.z && (p.n == p.v) | .le => p.z || (p.n != p.v) | .al => true | .nv => false

/-- A full-variant instruction under its condition (R133): a false one only advances `pc`. -/
def State.when (s : State) (c : Cond) (effect : State → Outcome) : Outcome :=
  if condHolds c s.core.cpsr then effect s else .next s.advance

end Sys2Proof.Machine
end

