-- ==== Sys2Proof/Machine/Flags.lean ====
section
/-! DEFINITION. Every flag computation: the sums of R12, the logical and arithmetic recipes of R171, R172 and R280, the
multiplies' of R200. -/

namespace Sys2Proof.Machine

/-- A result and the condition codes that go with it. -/
structure AluResult where
  value : Word
  n : Bool
  z : Bool
  c : Bool
  v : Bool
deriving DecidableEq, Repr

/-- `AddWithCarry(a, b, cin)` (R12) with the arithmetic recipe (R172): N and Z from the result, C the unsigned carry, V
the signed overflow. -/
def addWithCarry (a b : Word) (cin : Bool) : AluResult :=
  let u := a.toNat + b.toNat + cin.toNat
  let r := BitVec.ofNat 32 u
  { value := r
    n := r.msb
    z := r == 0
    c := decide (2 ^ 32 ≤ u)
    v := a.msb == b.msb && r.msb != a.msb }

/-- The logical recipe (R171, R280): C as given, V kept. -/
def logical (r : Word) (c : Bool) (p : Cpsr) : AluResult :=
  { value := r, n := r.msb, z := r == 0, c := c, v := p.v }

/-- Write all four condition codes; I, F, T and the mode stay. -/
def State.setFlags (s : State) (x : AluResult) : State :=
  s.setCpsr { s.core.cpsr with n := x.n, z := x.z, c := x.c, v := x.v }

/-- The flags of a 32-bit multiply (R200): N and Z from the result, C a free value (U1), V kept. -/
def State.setMulFlags (s : State) (r : Word) : State :=
  (s.setCpsr { s.core.cpsr with n := r.msb, z := r == 0, c := Config.freeFlag s.draws }).setDraws (s.draws + 1)

/-- The flags of a long multiply (R200): N and Z from the 64-bit result, C and V free values (U2). -/
def State.setMullFlags (s : State) (r : BitVec 64) : State :=
  (s.setCpsr { s.core.cpsr with
    n := r.msb, z := r == 0, c := Config.freeFlag s.draws, v := Config.freeFlag (s.draws + 1) }).setDraws (s.draws + 2)

end Sys2Proof.Machine
end

