-- ==== Sys2Proof/Machine/Operands.lean ====
section
/-! DEFINITION. Every operand form: the three forms of operand2 (R138 to R140), the shifted offset and the addressing
modes of single transfers (R145, R146, R210), the lists and addresses of block transfers (R240). -/

namespace Sys2Proof.Machine

/-- A shifter result: the value and the carry-out. -/
structure Shifted where
  value : Word
  carry : Bool
deriving DecidableEq, Repr

/-- Operand2, immediate form (R138). -/
def immOperand (rot : BitVec 4) (imm8 : BitVec 8) (cin : Bool) : Shifted :=
  let v := (imm8.setWidth 32).rotateRight (2 * rot.toNat)
  { value := v, carry := if rot = 0 then cin else v.msb }

/-- ASR by 32 or more: every bit the sign (R139, R140). -/
def signFill (m : Word) : Word := if m.msb then 0xFFFFFFFF else 0

/-- Operand2, register shifted by an immediate amount (R139): amount 0 means no shift for LSL, 32 for LSR and ASR,
rotate-with-extend for ROR. -/
def shiftImm (ty : ShiftKind) (amt : BitVec 5) (m : Word) (cin : Bool) : Shifted :=
  let k := amt.toNat
  match ty with
  | .lsl => if k = 0 then ⟨m, cin⟩ else ⟨m <<< k, m.getLsbD (32 - k)⟩
  | .lsr => if k = 0 then ⟨0, m.msb⟩ else ⟨m >>> k, m.getLsbD (k - 1)⟩
  | .asr => if k = 0 then ⟨signFill m, m.msb⟩ else ⟨m.sshiftRight k, m.getLsbD (k - 1)⟩
  | .ror => if k = 0 then ⟨BitVec.ofBool cin ++ m.extractLsb' 1 31, m.getLsbD 0⟩
            else ⟨m.rotateRight k, m.getLsbD (k - 1)⟩

/-- Operand2, register shifted by the low byte of a register (R140; the compact forms R294 to R296, R299). -/
def shiftReg (ty : ShiftKind) (amount : Word) (m : Word) (cin : Bool) : Shifted :=
  let k := (amount.extractLsb' 0 8).toNat
  if k = 0 then ⟨m, cin⟩
  else
    match ty with
    | .lsl => if k < 32 then ⟨m <<< k, m.getLsbD (32 - k)⟩
              else if k = 32 then ⟨0, m.getLsbD 0⟩ else ⟨0, false⟩
    | .lsr => if k < 32 then ⟨m >>> k, m.getLsbD (k - 1)⟩
              else if k = 32 then ⟨0, m.msb⟩ else ⟨0, false⟩
    | .asr => if k < 32 then ⟨m.sshiftRight k, m.getLsbD (k - 1)⟩ else ⟨signFill m, m.msb⟩
    | .ror => if k % 32 = 0 then ⟨m, m.msb⟩ else ⟨m.rotateRight (k % 32), m.getLsbD (k % 32 - 1)⟩

/-- Operand2 of a register-by-immediate instruction (R139). -/
def State.regOperand (s : State) (amt : BitVec 5) (ty : ShiftKind) (rm : Reg) : Shifted :=
  shiftImm ty amt (s.reg rm) s.core.cpsr.c

/-- Operand2 of a register-by-register instruction (R140): `r15` as `Rm` reads `pc + 12`. -/
def State.rsrOperand (s : State) (rs : Reg) (ty : ShiftKind) (rm : Reg) : Shifted :=
  shiftReg ty (s.reg rs) (s.regLate rm) s.core.cpsr.c

/-! ## Single transfers -/

/-- The effective address (R210). -/
def transferAddr (p u : Bool) (base off : Word) : Word :=
  if p then (if u then base + off else base - off) else base

/-- The written-back base (R210). -/
def transferBase (u : Bool) (base off : Word) : Word := if u then base + off else base - off

/-- Whether the base is written back (R210): `W = 1`, or any post-indexed form. -/
def writesBack (p w : Bool) : Bool := !p || w

/-- The 8-bit offset of the halfword format (R145). -/
def halfOffset (offH offL : BitVec 4) : Word := (offH ++ offL).setWidth 32

/-- The compact variant's word-scaled and halfword-scaled unsigned offsets (R156, R157). -/
def scaled (n : Nat) {k : Nat} (imm : BitVec k) : Word := BitVec.ofNat 32 (imm.toNat * n)

/-- `(pc + 4) & ~2` (R31 c): the base of the compact pc-relative forms. -/
def State.pcRelative (s : State) : Word := (s.pc + 4) &&& 0xFFFFFFFD

/-! ## Block transfers -/

/-- The registers of a list, ascending (R240). -/
def listRegs (list : BitVec 16) : List Reg := (List.finRange 16).filter fun i => list.getLsbD i.val

/-- The low registers of a compact list, ascending (R157). -/
def lowListRegs (list : BitVec 8) : List Reg := (List.finRange 16).filter fun i => list.getLsbD i.val

/-- `4n`. -/
def blockBytes (n : Nat) : Word := BitVec.ofNat 32 (4 * n)

/-- The lowest address of a block transfer of `n` words (R240). -/
def blockStart (p u : Bool) (base : Word) (n : Nat) : Word :=
  if u then (if p then base + 4 else base)
  else (if p then base - blockBytes n else base - blockBytes n + 4)

/-- The written-back base of a block transfer (R240). -/
def blockBase (u : Bool) (base : Word) (n : Nat) : Word :=
  if u then base + blockBytes n else base - blockBytes n

/-- The kind of the `k`-th access of a multiple transfer (R562). -/
def blockKind (k : Nat) : AccessKind := if k = 0 then .n else .s

end Sys2Proof.Machine
end

