-- ==== Sys2Proof/Machine/BlockTransfer.lean ====
section
/-! DEFINITION. Multiple transfers: the loops both variants share, and `LDM` and `STM` (R240 to R246). -/

namespace Sys2Proof.Machine

/-- Load words at rising addresses into registers of mode `m` (R241); `k` counts the accesses made. -/
def State.loadMany (s : State) (m : Mode) : List Reg → Word → Nat → State
  | [], _, _ => s
  | i :: rest, a, k =>
    let (v, s) := s.busRead (alignWord a) .word (blockKind k)
    (s.setMode m i v).loadMany m rest (a + 4) (k + 1)

/-- Store words at rising addresses (R242). -/
def State.storeMany (s : State) : List Word → Word → Nat → State
  | [], _, _ => s
  | v :: rest, a, k => (s.storeData a .word v (blockKind k)).storeMany rest (a + 4) (k + 1)

/-- The values a block store puts out, ascending (R242, R244): `r15` as `pc + 12`; a base that is written back and is
not the first register of the list as the written-back base `wb`; every other register from mode `m`. -/
def State.storeValues (s : State) (m : Mode) (base : Option (Reg × Word)) : List Reg → Nat → List Word
  | [], _ => []
  | i :: rest, k =>
    (if i = 15 then s.pc + 12
     else
      match base with
      | some (rn, wb) => if i = rn && k != 0 then wb else s.getMode m i
      | none => s.getMode m i) :: s.storeValues m base rest (k + 1)

/-- The registers of a list but `r15`. -/
def lowPart (regs : List Reg) : List Reg := regs.filter (· ≠ 15)

/-- The load of `r15` that ends a multiple load: the word and the state after its access (R241). -/
def State.loadLast (s : State) (a : Word) (k : Nat) : Word × State := s.busRead (alignWord a) .word (blockKind k)

/-- What `LDM` and `STM` refuse: base `r15` (U6), empty list (U10), user bank with write-back (U11). -/
def blockRefusal (rn : Reg) (list : BitVec 16) (userBank w : Bool) : Option Refusal :=
  if rn = 15 then some .baseR15
  else if list = 0 then some .emptyList
  else if userBank && w then some .userBankWriteback
  else none

/-- The end of an `LDM` (R241, R243): the base, the registers, one internal cycle, and `r15` last. `ret` says what its
load does. -/
def State.ldmBody (s : State) (m : Mode) (p u w : Bool) (rn : Reg) (list : BitVec 16) (ret : State → Word → Outcome) :
    Outcome :=
  let regs := listRegs list
  let base := s.reg rn
  let start := blockStart p u base regs.length
  let low := lowPart regs
  let s := if w then s.setReg rn (blockBase u base regs.length) else s
  let s := (s.loadMany m low start 0).addCost s.par.internal.load
  if list.getLsbD 15 then
    let (v, s) := s.loadLast (start + blockBytes low.length) low.length
    ret s v
  else .next s.advance

/-- `LDM` (R241, R243): the S bit with `r15` in the list restores the status, a privileged operation; without it, it
names the User bank. -/
def execLdm (c : Cond) (p u sf w : Bool) (rn : Reg) (list : BitVec 16) (s : State) : Outcome :=
  s.when c fun s =>
    match blockRefusal rn list (sf && !list.getLsbD 15) w with
    | some r => .refused r
    | none =>
      if sf && list.getLsbD 15 then
        s.privileged
          (fun s => s.ldmBody s.core.cpsr.mode p u w rn list (fun s v => .next (s.writePc v)))
          (fun s => s.ldmBody s.core.cpsr.mode p u w rn list State.exceptionReturn)
      else
        s.ldmBody (if sf then .usr else s.core.cpsr.mode) p u w rn list (fun s v => .next (s.writePc v))

/-- `STM` (R242, R243, R244); the next fetch is non-sequential (R567). -/
def execStm (c : Cond) (p u sf w : Bool) (rn : Reg) (list : BitVec 16) (s : State) : Outcome :=
  s.when c fun s =>
    match blockRefusal rn list sf w with
    | some r => .refused r
    | none =>
      let regs := listRegs list
      let base := s.reg rn
      let wb := blockBase u base regs.length
      let m := if sf then Mode.usr else s.core.cpsr.mode
      let vs := s.storeValues m (if w then some (rn, wb) else none) regs 0
      let s := s.storeMany vs (blockStart p u base regs.length) 0
      let s := if w then s.setReg rn wb else s
      .next (s.setSeq false).advance

end Sys2Proof.Machine
end

