-- ==== Sys2Proof/Machine/Branch.lean ====
section
/-! DEFINITION. The branches of the full variant (R250 to R255). -/

namespace Sys2Proof.Machine

/-- `pc + 8 + (sext_32(imm24) << 2)` (R148). -/
def State.branchTarget (s : State) (imm24 : BitVec 24) : Word := s.pc + 8 + (imm24.signExtend 32 <<< 2)

/-- `BX`, `T.BX`: the variant from bit 0, then `pc` aligned by it (R252, R385). -/
def State.exchange (s : State) (v : Word) : State :=
  (s.setCpsr { s.core.cpsr with t := v.getLsbD 0 }).writePc v

/-- `B` (R250). -/
def execB (c : Cond) (imm24 : BitVec 24) (s : State) : Outcome :=
  s.when c fun s => .next (s.writePc (s.branchTarget imm24))

/-- `BL` (R251). -/
def execBl (c : Cond) (imm24 : BitVec 24) (s : State) : Outcome :=
  s.when c fun s => .next ((s.setReg 14 (s.pc + 4)).writePc (s.branchTarget imm24))

/-- `BX` (R252). -/
def execBx (c : Cond) (rm : Reg) (s : State) : Outcome := s.when c fun s => .next (s.exchange (s.reg rm))

end Sys2Proof.Machine
end

