-- ==== Sys2Proof/Machine/Multiply.lean ====
section
/-! DEFINITION. The multiplies of the full variant (R200 to R208). -/

namespace Sys2Proof.Machine

/-- The top `k` bits of the multiplier are all zeros, or (`signed`) all ones. -/
def quietTop (signed : Bool) (s : Word) (k : Nat) : Bool :=
  s >>> (32 - k) == 0 || (signed && s.sshiftRight (32 - k) == 0xFFFFFFFF)

/-- `m` (R207): how many bytes of the multiplier count; `signed` also lets leading ones count as quiet. -/
def multiplyCycles (signed : Bool) (s : Word) : Nat :=
  if quietTop signed s 24 then 1 else if quietTop signed s 16 then 2 else if quietTop signed s 8 then 3 else 4

/-- `MUL`, `MLA`: refused with `r15` (U3), else the product and its flags (R200, R207). -/
def State.multiply (s : State) (sf : Bool) (rd rs rm rn : Reg) (accumulate : Bool) : Outcome :=
  if rd = 15 || rs = 15 || rm = 15 || (accumulate && rn = 15) then .refused .multiplyOperand
  else
    let r := s.reg rm * s.reg rs + (if accumulate then s.reg rn else 0)
    let t := s.addCost (multiplyCycles true (s.reg rs) + (if accumulate then s.par.internal.mla else s.par.internal.mul))
    let t := t.setReg rd r
    .next ((if sf then t.setMulFlags r else t).advance)

/-- The exact 64-bit product of R203 to R206. -/
def longProduct (signed : Bool) (a b : Word) : BitVec 64 :=
  if signed then a.signExtend 64 * b.signExtend 64 else a.setWidth 64 * b.setWidth 64

/-- The long multiplies: refused with `r15` or `RdHi = RdLo` (U3), else both halves and the flags (R200, R207). -/
def State.multiplyLong (s : State) (signed accumulate sf : Bool) (rdHi rdLo rs rm : Reg) : Outcome :=
  if rdHi = 15 || rdLo = 15 || rs = 15 || rm = 15 || rdHi = rdLo then .refused .multiplyOperand
  else
    let p := longProduct signed (s.reg rm) (s.reg rs) + (if accumulate then s.reg rdHi ++ s.reg rdLo else 0)
    let t := s.addCost
      (multiplyCycles signed (s.reg rs) + (if accumulate then s.par.internal.mlal else s.par.internal.mull))
    let t := (t.setReg rdLo (p.extractLsb' 0 32)).setReg rdHi (p.extractLsb' 32 32)
    .next ((if sf then t.setMullFlags p else t).advance)

/-- `MUL` (R201); the `Rn` field is ignored (R153). -/
def execMul (c : Cond) (sf : Bool) (rd rn rs rm : Reg) (s : State) : Outcome :=
  s.when c fun s => s.multiply sf rd rs rm rn false

/-- `MLA` (R202). -/
def execMla (c : Cond) (sf : Bool) (rd rn rs rm : Reg) (s : State) : Outcome :=
  s.when c fun s => s.multiply sf rd rs rm rn true

/-- `UMULL` (R203). -/
def execUmull (c : Cond) (sf : Bool) (rdHi rdLo rs rm : Reg) (s : State) : Outcome :=
  s.when c fun s => s.multiplyLong false false sf rdHi rdLo rs rm

/-- `UMLAL` (R204). -/
def execUmlal (c : Cond) (sf : Bool) (rdHi rdLo rs rm : Reg) (s : State) : Outcome :=
  s.when c fun s => s.multiplyLong false true sf rdHi rdLo rs rm

/-- `SMULL` (R205). -/
def execSmull (c : Cond) (sf : Bool) (rdHi rdLo rs rm : Reg) (s : State) : Outcome :=
  s.when c fun s => s.multiplyLong true false sf rdHi rdLo rs rm

/-- `SMLAL` (R206). -/
def execSmlal (c : Cond) (sf : Bool) (rdHi rdLo rs rm : Reg) (s : State) : Outcome :=
  s.when c fun s => s.multiplyLong true true sf rdHi rdLo rs rm

end Sys2Proof.Machine
end

