-- ==== Sys2Proof/Machine/CompactAlu.lean ====
section
/-! DEFINITION. The compact variant's arithmetic, logic, shift and move instructions (R280 to R315). They have no
condition and cost their fetch, but for the internal cycles stated (R315). -/

namespace Sys2Proof.Machine

/-- Write a register and the flags. -/
def State.tWrite (s : State) (rd : LReg) (r : AluResult) : Outcome :=
  .next ((s.setReg (lowReg rd) r.value).setFlags r).advance

/-- Write the flags only. -/
def State.tTest (s : State) (r : AluResult) : Outcome := .next (s.setFlags r).advance

/-- Write a register and no flag. -/
def State.tMove (s : State) (rd : Reg) (v : Word) : Outcome := .next (s.finishReg rd v)

/-- A low register's value. -/
def State.low (s : State) (i : LReg) : Word := s.reg (lowReg i)

/-- The logical recipe with C unchanged (R280). -/
def State.logicalKeepC (s : State) (r : Word) : AluResult := logical r s.core.cpsr.c s.core.cpsr

/-- A shifter result with the logical recipe (R280). -/
def State.shifted (s : State) (x : Shifted) : AluResult := logical x.value x.carry s.core.cpsr

/-- Format 4 shift by register: one internal cycle (R315). -/
def State.tShift (s : State) (ty : ShiftKind) (rd rs : LReg) : Outcome :=
  (s.addCost s.par.internal.shiftByRegister).tWrite rd (s.shifted (shiftReg ty (s.low rs) (s.low rd) s.core.cpsr.c))

/-! ## Format 1 -/

/-- `T.LSL Rd, Rs, #imm5` (R281). -/
def execTLslImm (imm5 : BitVec 5) (rs rd : LReg) (s : State) : Outcome :=
  s.tWrite rd (s.shifted (shiftImm .lsl imm5 (s.low rs) s.core.cpsr.c))

/-- `T.LSR Rd, Rs, #imm5` (R282). -/
def execTLsrImm (imm5 : BitVec 5) (rs rd : LReg) (s : State) : Outcome :=
  s.tWrite rd (s.shifted (shiftImm .lsr imm5 (s.low rs) s.core.cpsr.c))

/-- `T.ASR Rd, Rs, #imm5` (R283). -/
def execTAsrImm (imm5 : BitVec 5) (rs rd : LReg) (s : State) : Outcome :=
  s.tWrite rd (s.shifted (shiftImm .asr imm5 (s.low rs) s.core.cpsr.c))

/-! ## Format 2 -/

/-- `T.ADD Rd, Rs, Rn` (R284). -/
def execTAddReg (rn rs rd : LReg) (s : State) : Outcome := s.tWrite rd (addWithCarry (s.low rs) (s.low rn) false)

/-- `T.SUB Rd, Rs, Rn` (R285). -/
def execTSubReg (rn rs rd : LReg) (s : State) : Outcome := s.tWrite rd (addWithCarry (s.low rs) (~~~s.low rn) true)

/-- `T.ADD Rd, Rs, #imm3` (R286). -/
def execTAddImm3 (imm3 : BitVec 3) (rs rd : LReg) (s : State) : Outcome :=
  s.tWrite rd (addWithCarry (s.low rs) (imm3.setWidth 32) false)

/-- `T.SUB Rd, Rs, #imm3` (R287). -/
def execTSubImm3 (imm3 : BitVec 3) (rs rd : LReg) (s : State) : Outcome :=
  s.tWrite rd (addWithCarry (s.low rs) (~~~imm3.setWidth 32) true)

/-! ## Format 3 -/

/-- `T.MOV Rd, #imm8` (R288). -/
def execTMovImm8 (rd : LReg) (imm8 : BitVec 8) (s : State) : Outcome :=
  s.tWrite rd (s.logicalKeepC (imm8.setWidth 32))

/-- `T.CMP Rd, #imm8` (R289). -/
def execTCmpImm8 (rd : LReg) (imm8 : BitVec 8) (s : State) : Outcome :=
  s.tTest (addWithCarry (s.low rd) (~~~imm8.setWidth 32) true)

/-- `T.ADD Rd, #imm8` (R290). -/
def execTAddImm8 (rd : LReg) (imm8 : BitVec 8) (s : State) : Outcome :=
  s.tWrite rd (addWithCarry (s.low rd) (imm8.setWidth 32) false)

/-- `T.SUB Rd, #imm8` (R291). -/
def execTSubImm8 (rd : LReg) (imm8 : BitVec 8) (s : State) : Outcome :=
  s.tWrite rd (addWithCarry (s.low rd) (~~~imm8.setWidth 32) true)

/-! ## Format 4 -/

/-- `T.AND Rd, Rs` (R292). -/
def execTAnd (rs rd : LReg) (s : State) : Outcome := s.tWrite rd (s.logicalKeepC (s.low rd &&& s.low rs))

/-- `T.EOR Rd, Rs` (R293). -/
def execTEor (rs rd : LReg) (s : State) : Outcome := s.tWrite rd (s.logicalKeepC (s.low rd ^^^ s.low rs))

/-- `T.LSL Rd, Rs` (R294). -/
def execTLslReg (rs rd : LReg) (s : State) : Outcome := s.tShift .lsl rd rs

/-- `T.LSR Rd, Rs` (R295). -/
def execTLsrReg (rs rd : LReg) (s : State) : Outcome := s.tShift .lsr rd rs

/-- `T.ASR Rd, Rs` (R296). -/
def execTAsrReg (rs rd : LReg) (s : State) : Outcome := s.tShift .asr rd rs

/-- `T.ADC Rd, Rs` (R297). -/
def execTAdc (rs rd : LReg) (s : State) : Outcome := s.tWrite rd (addWithCarry (s.low rd) (s.low rs) s.core.cpsr.c)

/-- `T.SBC Rd, Rs` (R298). -/
def execTSbc (rs rd : LReg) (s : State) : Outcome := s.tWrite rd (addWithCarry (s.low rd) (~~~s.low rs) s.core.cpsr.c)

/-- `T.ROR Rd, Rs` (R299). -/
def execTRorReg (rs rd : LReg) (s : State) : Outcome := s.tShift .ror rd rs

/-- `T.TST Rd, Rs` (R300). -/
def execTTst (rs rd : LReg) (s : State) : Outcome := s.tTest (s.logicalKeepC (s.low rd &&& s.low rs))

/-- `T.NEG Rd, Rs` (R301). -/
def execTNeg (rs rd : LReg) (s : State) : Outcome := s.tWrite rd (addWithCarry 0 (~~~s.low rs) true)

/-- `T.CMP Rd, Rs` (R302). -/
def execTCmpReg (rs rd : LReg) (s : State) : Outcome := s.tTest (addWithCarry (s.low rd) (~~~s.low rs) true)

/-- `T.CMN Rd, Rs` (R303). -/
def execTCmn (rs rd : LReg) (s : State) : Outcome := s.tTest (addWithCarry (s.low rd) (s.low rs) false)

/-- `T.ORR Rd, Rs` (R304). -/
def execTOrr (rs rd : LReg) (s : State) : Outcome := s.tWrite rd (s.logicalKeepC (s.low rd ||| s.low rs))

/-- `T.MUL Rd, Rs` (R305): C is a free value (U1); `m` from the old `Rd` (R315). -/
def execTMul (rs rd : LReg) (s : State) : Outcome :=
  let r := s.low rd * s.low rs
  let t := s.addCost (multiplyCycles true (s.low rd) + s.par.internal.mul)
  .next ((t.setReg (lowReg rd) r).setMulFlags r).advance

/-- `T.BIC Rd, Rs` (R306). -/
def execTBic (rs rd : LReg) (s : State) : Outcome := s.tWrite rd (s.logicalKeepC (s.low rd &&& ~~~s.low rs))

/-- `T.MVN Rd, Rs` (R307). -/
def execTMvn (rs rd : LReg) (s : State) : Outcome := s.tWrite rd (s.logicalKeepC (~~~s.low rs))

/-! ## Format 5 -/

/-- `T.ADD Rd, Rs`, high registers (R308): no flag; `Rd = r15` is a branch. -/
def execTAddHi (rd rs : Reg) (s : State) : Outcome := s.tMove rd (s.reg rd + s.reg rs)

/-- `T.CMP Rd, Rs`, high registers (R309). -/
def execTCmpHi (rd rs : Reg) (s : State) : Outcome := s.tTest (addWithCarry (s.reg rd) (~~~s.reg rs) true)

/-- `T.MOV Rd, Rs`, high registers (R310): no flag; `Rd = r15` is a branch. -/
def execTMovHi (rd rs : Reg) (s : State) : Outcome := s.tMove rd (s.reg rs)

/-! ## Formats 12 and 13 -/

/-- `T.ADD Rd, pc, #imm` (R311). -/
def execTAddPc (rd : LReg) (imm8 : BitVec 8) (s : State) : Outcome :=
  s.tMove (lowReg rd) (s.pcRelative + scaled 4 imm8)

/-- `T.ADD Rd, sp, #imm` (R312). -/
def execTAddSp (rd : LReg) (imm8 : BitVec 8) (s : State) : Outcome := s.tMove (lowReg rd) (s.reg 13 + scaled 4 imm8)

/-- `T.ADD sp, #imm` (R313). -/
def execTAddSpImm (imm7 : BitVec 7) (s : State) : Outcome := s.tMove 13 (s.reg 13 + scaled 4 imm7)

/-- `T.SUB sp, #imm` (R314). -/
def execTSubSpImm (imm7 : BitVec 7) (s : State) : Outcome := s.tMove 13 (s.reg 13 - scaled 4 imm7)

end Sys2Proof.Machine
end

