-- ==== Sys2Proof/Machine/CompactBranch.lean ====
section
/-! DEFINITION. The compact variant's branches, software interrupt and undefined words (R380 to R387). -/

namespace Sys2Proof.Machine

/-- `T.B<cond>` (R380). -/
def execTBcond (c : Cond) (imm8 : BitVec 8) (s : State) : Outcome :=
  if condHolds c s.core.cpsr then .next (s.writePc (s.pc + 4 + (imm8.signExtend 32 <<< 1))) else .next s.advance

/-- `T.SWI` (R381): the comment is not read. -/
def execTSwi (_comment : BitVec 8) (s : State) : Outcome := .next s.takeSoftware

/-- `T.B` (R382). -/
def execTB (imm11 : BitVec 11) (s : State) : Outcome := .next (s.writePc (s.pc + 4 + (imm11.signExtend 32 <<< 1)))

/-- `T.BL`, first half (R383): an instruction of its own. -/
def execTBlHi (imm11 : BitVec 11) (s : State) : Outcome :=
  .next (s.setReg 14 (s.pc + 4 + (imm11.signExtend 32 <<< 12))).advance

/-- `T.BL`, second half (R384): bit 0 of the return address is set. -/
def execTBlLo (imm11 : BitVec 11) (s : State) : Outcome :=
  .next ((s.setReg 14 ((s.pc + 2) ||| 1)).writePc (s.reg 14 + (imm11.setWidth 32 <<< 1)))

/-- `T.BX` (R385); `bits[2:0]` are ignored (U17). -/
def execTBx (rs : Reg) (_sbz : BitVec 3) (s : State) : Outcome := .next (s.exchange (s.reg rs))

/-- `T.UND`, format 16 with condition 1110 (R386). -/
def execTUndCond (_comment : BitVec 8) (s : State) : Outcome := .next s.takeUndefined

/-- `T.UND`, every other word (R386). -/
def execTUndOther (_word : BitVec 16) (s : State) : Outcome := .next s.takeUndefined

end Sys2Proof.Machine
end

