-- ==== Sys2Proof/Machine/CompactMemory.lean ====
section
/-! DEFINITION. The compact variant's loads, stores and multiple transfers (R340 to R362). -/

namespace Sys2Proof.Machine

/-- A compact load (R340, R362): the access, one internal cycle, the register. -/
def State.tLoad (s : State) (load : State → Word → Word × State) (rd : LReg) (a : Word) : Outcome :=
  let (v, t) := load s a
  .next ((t.addCost s.par.internal.load).setReg (lowReg rd) v).advance

/-- A compact store (R340, R362): the access; the next fetch is non-sequential (R567). -/
def State.tStore (s : State) (w : Width) (rd : LReg) (a : Word) : Outcome :=
  .next ((s.storeData a w (s.low rd) .n).setSeq false).advance

/-! ## Formats 6 to 11 -/

/-- `T.LDR Rd, [pc, #imm]` (R341); the address is always aligned. -/
def execTLdrPc (rd : LReg) (imm8 : BitVec 8) (s : State) : Outcome :=
  s.tLoad State.loadWord rd (s.pcRelative + scaled 4 imm8)

/-- `T.STR Rd, [Rb, Ro]` (R342). -/
def execTStrReg (ro rb rd : LReg) (s : State) : Outcome := s.tStore .word rd (s.low rb + s.low ro)

/-- `T.STRB Rd, [Rb, Ro]` (R343). -/
def execTStrbReg (ro rb rd : LReg) (s : State) : Outcome := s.tStore .byte rd (s.low rb + s.low ro)

/-- `T.LDR Rd, [Rb, Ro]` (R344). -/
def execTLdrReg (ro rb rd : LReg) (s : State) : Outcome := s.tLoad State.loadWord rd (s.low rb + s.low ro)

/-- `T.LDRB Rd, [Rb, Ro]` (R345). -/
def execTLdrbReg (ro rb rd : LReg) (s : State) : Outcome := s.tLoad State.loadByte rd (s.low rb + s.low ro)

/-- `T.STRH Rd, [Rb, Ro]` (R346). -/
def execTStrhReg (ro rb rd : LReg) (s : State) : Outcome := s.tStore .half rd (s.low rb + s.low ro)

/-- `T.LDSB Rd, [Rb, Ro]` (R347). -/
def execTLdsbReg (ro rb rd : LReg) (s : State) : Outcome := s.tLoad State.loadSignedByte rd (s.low rb + s.low ro)

/-- `T.LDRH Rd, [Rb, Ro]` (R348). -/
def execTLdrhReg (ro rb rd : LReg) (s : State) : Outcome := s.tLoad State.loadHalf rd (s.low rb + s.low ro)

/-- `T.LDSH Rd, [Rb, Ro]` (R349). -/
def execTLdshReg (ro rb rd : LReg) (s : State) : Outcome := s.tLoad State.loadSignedHalf rd (s.low rb + s.low ro)

/-- `T.STR Rd, [Rb, #imm]` (R350). -/
def execTStrImm (imm5 : BitVec 5) (rb rd : LReg) (s : State) : Outcome := s.tStore .word rd (s.low rb + scaled 4 imm5)

/-- `T.LDR Rd, [Rb, #imm]` (R351). -/
def execTLdrImm (imm5 : BitVec 5) (rb rd : LReg) (s : State) : Outcome :=
  s.tLoad State.loadWord rd (s.low rb + scaled 4 imm5)

/-- `T.STRB Rd, [Rb, #imm]` (R352). -/
def execTStrbImm (imm5 : BitVec 5) (rb rd : LReg) (s : State) : Outcome :=
  s.tStore .byte rd (s.low rb + scaled 1 imm5)

/-- `T.LDRB Rd, [Rb, #imm]` (R353). -/
def execTLdrbImm (imm5 : BitVec 5) (rb rd : LReg) (s : State) : Outcome :=
  s.tLoad State.loadByte rd (s.low rb + scaled 1 imm5)

/-- `T.STRH Rd, [Rb, #imm]` (R354). -/
def execTStrhImm (imm5 : BitVec 5) (rb rd : LReg) (s : State) : Outcome :=
  s.tStore .half rd (s.low rb + scaled 2 imm5)

/-- `T.LDRH Rd, [Rb, #imm]` (R355). -/
def execTLdrhImm (imm5 : BitVec 5) (rb rd : LReg) (s : State) : Outcome :=
  s.tLoad State.loadHalf rd (s.low rb + scaled 2 imm5)

/-- `T.STR Rd, [sp, #imm]` (R356). -/
def execTStrSp (rd : LReg) (imm8 : BitVec 8) (s : State) : Outcome := s.tStore .word rd (s.reg 13 + scaled 4 imm8)

/-- `T.LDR Rd, [sp, #imm]` (R357). -/
def execTLdrSp (rd : LReg) (imm8 : BitVec 8) (s : State) : Outcome :=
  s.tLoad State.loadWord rd (s.reg 13 + scaled 4 imm8)

/-! ## Formats 14 and 15 -/

/-- `T.PUSH` (R358); an empty list is refused (U20). -/
def execTPush (r : Bool) (rlist : BitVec 8) (s : State) : Outcome :=
  let regs := lowListRegs rlist ++ (if r then [14] else [])
  if regs = [] then .refused .emptyList
  else
    let start := s.reg 13 - blockBytes regs.length
    let s := s.storeMany (s.storeValues s.core.cpsr.mode none regs 0) start 0
    .next ((s.setReg 13 start).setSeq false).advance

/-- `T.POP` (R359): `pc` stays in the compact variant; an empty list is refused (U20). -/
def execTPop (r : Bool) (rlist : BitVec 8) (s : State) : Outcome :=
  let regs := lowListRegs rlist
  let start := s.reg 13
  if regs = [] && !r then .refused .emptyList
  else
    let s := (s.loadMany s.core.cpsr.mode regs start 0).addCost s.par.internal.load
    if r then
      let (v, s) := s.loadLast (start + blockBytes regs.length) regs.length
      .next ((s.setReg 13 (start + blockBytes (regs.length + 1))).writePc v)
    else .next (s.setReg 13 (start + blockBytes regs.length)).advance

/-- `T.STMIA` (R360, U21); an empty list is refused (U20). -/
def execTStmia (rb : LReg) (rlist : BitVec 8) (s : State) : Outcome :=
  let regs := lowListRegs rlist
  if regs = [] then .refused .emptyList
  else
    let start := s.low rb
    let wb := start + blockBytes regs.length
    let s := s.storeMany (s.storeValues s.core.cpsr.mode (some (lowReg rb, wb)) regs 0) start 0
    .next ((s.setReg (lowReg rb) wb).setSeq false).advance

/-- `T.LDMIA` (R361, U22): the loaded value of the base stays; an empty list is refused (U20). -/
def execTLdmia (rb : LReg) (rlist : BitVec 8) (s : State) : Outcome :=
  let regs := lowListRegs rlist
  if regs = [] then .refused .emptyList
  else
    let start := s.low rb
    let s := s.setReg (lowReg rb) (start + blockBytes regs.length)
    .next ((s.loadMany s.core.cpsr.mode regs start 0).addCost s.par.internal.load).advance

end Sys2Proof.Machine
end

