-- ==== Sys2Proof/Machine/DataProcessing.lean ====
section
/-! DEFINITION. The sixteen data-processing instructions of the full variant (R170 to R191), each in its three forms of
operand2. -/

namespace Sys2Proof.Machine

/-! ## The common procedure (R170) -/

/-- The end of an instruction that writes `Rd` (R170, R173); `extra` is its internal cycles (R190). With `Rd = r15` the
S bit means a status restore, a privileged operation; where that traps in User mode, `extra` is not charged beside the
trap's own cycle. DEDUCED (log 30). -/
def State.dpWrite (s : State) (extra : Nat) (sf : Bool) (rd : Reg) (r : AluResult) : Outcome :=
  if rd = 15 then
    if sf then
      s.privileged (fun s => .next ((s.addCost extra).writePc r.value))
        (fun s => (s.addCost extra).exceptionReturn r.value)
    else .next ((s.addCost extra).writePc r.value)
  else
    let s := (s.addCost extra).setReg rd r.value
    .next ((if sf then s.setFlags r else s).advance)

/-- The end of a test instruction (R170): flags only; `Rd = r15` is refused (U5). -/
def State.dpTest (s : State) (extra : Nat) (rd : Reg) (r : AluResult) : Outcome :=
  if rd = 15 then .refused .testDestinationR15 else .next ((s.addCost extra).setFlags r).advance

/-- What an opcode computes from the first operand, operand2 and the status before it. -/
abbrev AluOp := Word → Shifted → Cpsr → AluResult

/-- Immediate form (R138). -/
def State.dpImm (s : State) (alu : AluOp) (c : Cond) (sf : Bool) (rn rd : Reg) (rot : BitVec 4) (imm8 : BitVec 8) :
    Outcome :=
  s.when c fun s => s.dpWrite 0 sf rd (alu (s.reg rn) (immOperand rot imm8 s.core.cpsr.c) s.core.cpsr)

/-- Register form, shifted by an immediate (R139). -/
def State.dpReg (s : State) (alu : AluOp) (c : Cond) (sf : Bool) (rn rd : Reg) (amt : BitVec 5) (ty : ShiftKind)
    (rm : Reg) : Outcome :=
  s.when c fun s => s.dpWrite 0 sf rd (alu (s.reg rn) (s.regOperand amt ty rm) s.core.cpsr)

/-- Register form, shifted by a register (R140): `Rs = r15` is refused (U4), `r15` reads `pc + 12`, one internal
cycle. -/
def State.dpRsr (s : State) (alu : AluOp) (c : Cond) (sf : Bool) (rn rd rs : Reg) (ty : ShiftKind) (rm : Reg) :
    Outcome :=
  s.when c fun s =>
    if rs = 15 then .refused .shiftAmountR15
    else s.dpWrite s.par.internal.shiftByRegister sf rd (alu (s.regLate rn) (s.rsrOperand rs ty rm) s.core.cpsr)

/-- Test instruction, immediate form. -/
def State.testImm (s : State) (alu : AluOp) (c : Cond) (rn rd : Reg) (rot : BitVec 4) (imm8 : BitVec 8) : Outcome :=
  s.when c fun s => s.dpTest 0 rd (alu (s.reg rn) (immOperand rot imm8 s.core.cpsr.c) s.core.cpsr)

/-- Test instruction, register form. -/
def State.testReg (s : State) (alu : AluOp) (c : Cond) (rn rd : Reg) (amt : BitVec 5) (ty : ShiftKind) (rm : Reg) :
    Outcome :=
  s.when c fun s => s.dpTest 0 rd (alu (s.reg rn) (s.regOperand amt ty rm) s.core.cpsr)

/-- Test instruction, register-shift form. -/
def State.testRsr (s : State) (alu : AluOp) (c : Cond) (rn rd rs : Reg) (ty : ShiftKind) (rm : Reg) : Outcome :=
  s.when c fun s =>
    if rs = 15 then .refused .shiftAmountR15
    else s.dpTest s.par.internal.shiftByRegister rd (alu (s.regLate rn) (s.rsrOperand rs ty rm) s.core.cpsr)

/-! ## What each opcode computes (R174 to R189) -/

/-- AND (R174). -/
def aluAnd : AluOp := fun a op p => logical (a &&& op.value) op.carry p

/-- EOR (R175). -/
def aluEor : AluOp := fun a op p => logical (a ^^^ op.value) op.carry p

/-- SUB (R176). -/
def aluSub : AluOp := fun a op _ => addWithCarry a (~~~op.value) true

/-- RSB (R177). -/
def aluRsb : AluOp := fun a op _ => addWithCarry op.value (~~~a) true

/-- ADD (R178). -/
def aluAdd : AluOp := fun a op _ => addWithCarry a op.value false

/-- ADC (R179). -/
def aluAdc : AluOp := fun a op p => addWithCarry a op.value p.c

/-- SBC (R180). -/
def aluSbc : AluOp := fun a op p => addWithCarry a (~~~op.value) p.c

/-- RSC (R181). -/
def aluRsc : AluOp := fun a op p => addWithCarry op.value (~~~a) p.c

/-- TST (R182). -/
def aluTst : AluOp := fun a op p => logical (a &&& op.value) op.carry p

/-- TEQ (R183). -/
def aluTeq : AluOp := fun a op p => logical (a ^^^ op.value) op.carry p

/-- CMP (R184). -/
def aluCmp : AluOp := fun a op _ => addWithCarry a (~~~op.value) true

/-- CMN (R185). -/
def aluCmn : AluOp := fun a op _ => addWithCarry a op.value false

/-- ORR (R186). -/
def aluOrr : AluOp := fun a op p => logical (a ||| op.value) op.carry p

/-- MOV (R187). -/
def aluMov : AluOp := fun _ op p => logical op.value op.carry p

/-- BIC (R188). -/
def aluBic : AluOp := fun a op p => logical (a &&& ~~~op.value) op.carry p

/-- MVN (R189). -/
def aluMvn : AluOp := fun _ op p => logical (~~~op.value) op.carry p

/-! ## The instructions -/

/-- `AND` with an immediate (R174). -/
def execAndImm (c : Cond) (sf : Bool) (rn rd : Reg) (rot : BitVec 4) (imm8 : BitVec 8) (s : State) : Outcome :=
  s.dpImm aluAnd c sf rn rd rot imm8

/-- `AND` with a register shifted by an immediate (R174). -/
def execAndReg (c : Cond) (sf : Bool) (rn rd : Reg) (amt : BitVec 5) (ty : ShiftKind) (rm : Reg) (s : State) : Outcome :=
  s.dpReg aluAnd c sf rn rd amt ty rm

/-- `AND` with a register shifted by a register (R174). -/
def execAndRsr (c : Cond) (sf : Bool) (rn rd rs : Reg) (ty : ShiftKind) (rm : Reg) (s : State) : Outcome :=
  s.dpRsr aluAnd c sf rn rd rs ty rm

/-- `EOR` with an immediate (R175). -/
def execEorImm (c : Cond) (sf : Bool) (rn rd : Reg) (rot : BitVec 4) (imm8 : BitVec 8) (s : State) : Outcome :=
  s.dpImm aluEor c sf rn rd rot imm8

/-- `EOR` with a register shifted by an immediate (R175). -/
def execEorReg (c : Cond) (sf : Bool) (rn rd : Reg) (amt : BitVec 5) (ty : ShiftKind) (rm : Reg) (s : State) : Outcome :=
  s.dpReg aluEor c sf rn rd amt ty rm

/-- `EOR` with a register shifted by a register (R175). -/
def execEorRsr (c : Cond) (sf : Bool) (rn rd rs : Reg) (ty : ShiftKind) (rm : Reg) (s : State) : Outcome :=
  s.dpRsr aluEor c sf rn rd rs ty rm

/-- `SUB` with an immediate (R176). -/
def execSubImm (c : Cond) (sf : Bool) (rn rd : Reg) (rot : BitVec 4) (imm8 : BitVec 8) (s : State) : Outcome :=
  s.dpImm aluSub c sf rn rd rot imm8

/-- `SUB` with a register shifted by an immediate (R176). -/
def execSubReg (c : Cond) (sf : Bool) (rn rd : Reg) (amt : BitVec 5) (ty : ShiftKind) (rm : Reg) (s : State) : Outcome :=
  s.dpReg aluSub c sf rn rd amt ty rm

/-- `SUB` with a register shifted by a register (R176). -/
def execSubRsr (c : Cond) (sf : Bool) (rn rd rs : Reg) (ty : ShiftKind) (rm : Reg) (s : State) : Outcome :=
  s.dpRsr aluSub c sf rn rd rs ty rm

/-- `RSB` with an immediate (R177). -/
def execRsbImm (c : Cond) (sf : Bool) (rn rd : Reg) (rot : BitVec 4) (imm8 : BitVec 8) (s : State) : Outcome :=
  s.dpImm aluRsb c sf rn rd rot imm8

/-- `RSB` with a register shifted by an immediate (R177). -/
def execRsbReg (c : Cond) (sf : Bool) (rn rd : Reg) (amt : BitVec 5) (ty : ShiftKind) (rm : Reg) (s : State) : Outcome :=
  s.dpReg aluRsb c sf rn rd amt ty rm

/-- `RSB` with a register shifted by a register (R177). -/
def execRsbRsr (c : Cond) (sf : Bool) (rn rd rs : Reg) (ty : ShiftKind) (rm : Reg) (s : State) : Outcome :=
  s.dpRsr aluRsb c sf rn rd rs ty rm

/-- `ADD` with an immediate (R178). -/
def execAddImm (c : Cond) (sf : Bool) (rn rd : Reg) (rot : BitVec 4) (imm8 : BitVec 8) (s : State) : Outcome :=
  s.dpImm aluAdd c sf rn rd rot imm8

/-- `ADD` with a register shifted by an immediate (R178). -/
def execAddReg (c : Cond) (sf : Bool) (rn rd : Reg) (amt : BitVec 5) (ty : ShiftKind) (rm : Reg) (s : State) : Outcome :=
  s.dpReg aluAdd c sf rn rd amt ty rm

/-- `ADD` with a register shifted by a register (R178). -/
def execAddRsr (c : Cond) (sf : Bool) (rn rd rs : Reg) (ty : ShiftKind) (rm : Reg) (s : State) : Outcome :=
  s.dpRsr aluAdd c sf rn rd rs ty rm

/-- `ADC` with an immediate (R179). -/
def execAdcImm (c : Cond) (sf : Bool) (rn rd : Reg) (rot : BitVec 4) (imm8 : BitVec 8) (s : State) : Outcome :=
  s.dpImm aluAdc c sf rn rd rot imm8

/-- `ADC` with a register shifted by an immediate (R179). -/
def execAdcReg (c : Cond) (sf : Bool) (rn rd : Reg) (amt : BitVec 5) (ty : ShiftKind) (rm : Reg) (s : State) : Outcome :=
  s.dpReg aluAdc c sf rn rd amt ty rm

/-- `ADC` with a register shifted by a register (R179). -/
def execAdcRsr (c : Cond) (sf : Bool) (rn rd rs : Reg) (ty : ShiftKind) (rm : Reg) (s : State) : Outcome :=
  s.dpRsr aluAdc c sf rn rd rs ty rm

/-- `SBC` with an immediate (R180). -/
def execSbcImm (c : Cond) (sf : Bool) (rn rd : Reg) (rot : BitVec 4) (imm8 : BitVec 8) (s : State) : Outcome :=
  s.dpImm aluSbc c sf rn rd rot imm8

/-- `SBC` with a register shifted by an immediate (R180). -/
def execSbcReg (c : Cond) (sf : Bool) (rn rd : Reg) (amt : BitVec 5) (ty : ShiftKind) (rm : Reg) (s : State) : Outcome :=
  s.dpReg aluSbc c sf rn rd amt ty rm

/-- `SBC` with a register shifted by a register (R180). -/
def execSbcRsr (c : Cond) (sf : Bool) (rn rd rs : Reg) (ty : ShiftKind) (rm : Reg) (s : State) : Outcome :=
  s.dpRsr aluSbc c sf rn rd rs ty rm

/-- `RSC` with an immediate (R181). -/
def execRscImm (c : Cond) (sf : Bool) (rn rd : Reg) (rot : BitVec 4) (imm8 : BitVec 8) (s : State) : Outcome :=
  s.dpImm aluRsc c sf rn rd rot imm8

/-- `RSC` with a register shifted by an immediate (R181). -/
def execRscReg (c : Cond) (sf : Bool) (rn rd : Reg) (amt : BitVec 5) (ty : ShiftKind) (rm : Reg) (s : State) : Outcome :=
  s.dpReg aluRsc c sf rn rd amt ty rm

/-- `RSC` with a register shifted by a register (R181). -/
def execRscRsr (c : Cond) (sf : Bool) (rn rd rs : Reg) (ty : ShiftKind) (rm : Reg) (s : State) : Outcome :=
  s.dpRsr aluRsc c sf rn rd rs ty rm

/-- `TST` with an immediate (R182). -/
def execTstImm (c : Cond) (rn rd : Reg) (rot : BitVec 4) (imm8 : BitVec 8) (s : State) : Outcome :=
  s.testImm aluTst c rn rd rot imm8

/-- `TST` with a register shifted by an immediate (R182). -/
def execTstReg (c : Cond) (rn rd : Reg) (amt : BitVec 5) (ty : ShiftKind) (rm : Reg) (s : State) : Outcome :=
  s.testReg aluTst c rn rd amt ty rm

/-- `TST` with a register shifted by a register (R182). -/
def execTstRsr (c : Cond) (rn rd rs : Reg) (ty : ShiftKind) (rm : Reg) (s : State) : Outcome :=
  s.testRsr aluTst c rn rd rs ty rm

/-- `TEQ` with an immediate (R183). -/
def execTeqImm (c : Cond) (rn rd : Reg) (rot : BitVec 4) (imm8 : BitVec 8) (s : State) : Outcome :=
  s.testImm aluTeq c rn rd rot imm8

/-- `TEQ` with a register shifted by an immediate (R183). -/
def execTeqReg (c : Cond) (rn rd : Reg) (amt : BitVec 5) (ty : ShiftKind) (rm : Reg) (s : State) : Outcome :=
  s.testReg aluTeq c rn rd amt ty rm

/-- `TEQ` with a register shifted by a register (R183). -/
def execTeqRsr (c : Cond) (rn rd rs : Reg) (ty : ShiftKind) (rm : Reg) (s : State) : Outcome :=
  s.testRsr aluTeq c rn rd rs ty rm

/-- `CMP` with an immediate (R184). -/
def execCmpImm (c : Cond) (rn rd : Reg) (rot : BitVec 4) (imm8 : BitVec 8) (s : State) : Outcome :=
  s.testImm aluCmp c rn rd rot imm8

/-- `CMP` with a register shifted by an immediate (R184). -/
def execCmpReg (c : Cond) (rn rd : Reg) (amt : BitVec 5) (ty : ShiftKind) (rm : Reg) (s : State) : Outcome :=
  s.testReg aluCmp c rn rd amt ty rm

/-- `CMP` with a register shifted by a register (R184). -/
def execCmpRsr (c : Cond) (rn rd rs : Reg) (ty : ShiftKind) (rm : Reg) (s : State) : Outcome :=
  s.testRsr aluCmp c rn rd rs ty rm

/-- `CMN` with an immediate (R185). -/
def execCmnImm (c : Cond) (rn rd : Reg) (rot : BitVec 4) (imm8 : BitVec 8) (s : State) : Outcome :=
  s.testImm aluCmn c rn rd rot imm8

/-- `CMN` with a register shifted by an immediate (R185). -/
def execCmnReg (c : Cond) (rn rd : Reg) (amt : BitVec 5) (ty : ShiftKind) (rm : Reg) (s : State) : Outcome :=
  s.testReg aluCmn c rn rd amt ty rm

/-- `CMN` with a register shifted by a register (R185). -/
def execCmnRsr (c : Cond) (rn rd rs : Reg) (ty : ShiftKind) (rm : Reg) (s : State) : Outcome :=
  s.testRsr aluCmn c rn rd rs ty rm

/-- `ORR` with an immediate (R186). -/
def execOrrImm (c : Cond) (sf : Bool) (rn rd : Reg) (rot : BitVec 4) (imm8 : BitVec 8) (s : State) : Outcome :=
  s.dpImm aluOrr c sf rn rd rot imm8

/-- `ORR` with a register shifted by an immediate (R186). -/
def execOrrReg (c : Cond) (sf : Bool) (rn rd : Reg) (amt : BitVec 5) (ty : ShiftKind) (rm : Reg) (s : State) : Outcome :=
  s.dpReg aluOrr c sf rn rd amt ty rm

/-- `ORR` with a register shifted by a register (R186). -/
def execOrrRsr (c : Cond) (sf : Bool) (rn rd rs : Reg) (ty : ShiftKind) (rm : Reg) (s : State) : Outcome :=
  s.dpRsr aluOrr c sf rn rd rs ty rm

/-- `MOV` with an immediate (R187). -/
def execMovImm (c : Cond) (sf : Bool) (rn rd : Reg) (rot : BitVec 4) (imm8 : BitVec 8) (s : State) : Outcome :=
  s.dpImm aluMov c sf rn rd rot imm8

/-- `MOV` with a register shifted by an immediate (R187). -/
def execMovReg (c : Cond) (sf : Bool) (rn rd : Reg) (amt : BitVec 5) (ty : ShiftKind) (rm : Reg) (s : State) : Outcome :=
  s.dpReg aluMov c sf rn rd amt ty rm

/-- `MOV` with a register shifted by a register (R187). -/
def execMovRsr (c : Cond) (sf : Bool) (rn rd rs : Reg) (ty : ShiftKind) (rm : Reg) (s : State) : Outcome :=
  s.dpRsr aluMov c sf rn rd rs ty rm

/-- `BIC` with an immediate (R188). -/
def execBicImm (c : Cond) (sf : Bool) (rn rd : Reg) (rot : BitVec 4) (imm8 : BitVec 8) (s : State) : Outcome :=
  s.dpImm aluBic c sf rn rd rot imm8

/-- `BIC` with a register shifted by an immediate (R188). -/
def execBicReg (c : Cond) (sf : Bool) (rn rd : Reg) (amt : BitVec 5) (ty : ShiftKind) (rm : Reg) (s : State) : Outcome :=
  s.dpReg aluBic c sf rn rd amt ty rm

/-- `BIC` with a register shifted by a register (R188). -/
def execBicRsr (c : Cond) (sf : Bool) (rn rd rs : Reg) (ty : ShiftKind) (rm : Reg) (s : State) : Outcome :=
  s.dpRsr aluBic c sf rn rd rs ty rm

/-- `MVN` with an immediate (R189). -/
def execMvnImm (c : Cond) (sf : Bool) (rn rd : Reg) (rot : BitVec 4) (imm8 : BitVec 8) (s : State) : Outcome :=
  s.dpImm aluMvn c sf rn rd rot imm8

/-- `MVN` with a register shifted by an immediate (R189). -/
def execMvnReg (c : Cond) (sf : Bool) (rn rd : Reg) (amt : BitVec 5) (ty : ShiftKind) (rm : Reg) (s : State) : Outcome :=
  s.dpReg aluMvn c sf rn rd amt ty rm

/-- `MVN` with a register shifted by a register (R189). -/
def execMvnRsr (c : Cond) (sf : Bool) (rn rd rs : Reg) (ty : ShiftKind) (rm : Reg) (s : State) : Outcome :=
  s.dpRsr aluMvn c sf rn rd rs ty rm

end Sys2Proof.Machine
end

