-- ==== Sys2Proof/Machine/LoadStore.lean ====
section
/-! DEFINITION. Single load/store, halfword and signed transfers, swap (R210 to R227). -/

namespace Sys2Proof.Machine

/-- The addressing part all single transfers share (R210): refused where the base is `r15` and written back (U6). -/
def baseRefused (p w : Bool) (rn : Reg) : Bool := writesBack p w && rn = 15

/-- Write-back (R210). -/
def State.writeBack (s : State) (p w u : Bool) (rn : Reg) (base off : Word) : State :=
  if writesBack p w then s.setReg rn (transferBase u base off) else s

/-- A single load (R211, R213, R220, R222, R223, R226): the data access, one internal cycle, write-back, then the
register, so that the loaded value stays (U7). `wide`: the form that may load `r15` (U30). -/
def State.singleLoad (s : State) (wide : Bool) (load : State → Word → Word × State) (p u w : Bool) (rn rd : Reg)
    (off : Word) : Outcome :=
  if baseRefused p w rn then .refused .baseR15
  else if rd = 15 && !wide then .refused .narrowLoadR15
  else
    let base := s.reg rn
    let (v, t) := load s (transferAddr p u base off)
    .next (((t.addCost s.par.internal.load).writeBack p w u rn base off).finishReg rd v)

/-- A single store (R212, R214, R221, R226): `r15` stores `pc + 12`; write-back with `Rd = Rn` is refused (U8); the
next fetch is non-sequential (R567). -/
def State.singleStore (s : State) (width : Width) (p u w : Bool) (rn rd : Reg) (off : Word) : Outcome :=
  if baseRefused p w rn then .refused .baseR15
  else if writesBack p w && rd = rn then .refused .storeBaseWriteback
  else
    let base := s.reg rn
    let t := s.storeData (transferAddr p u base off) width (s.regLate rd) .n
    .next ((t.writeBack p w u rn base off).setSeq false).advance

/-- The offset of the register forms: `Rm = r15` is refused (U6). -/
def withOffsetReg (rm : Reg) (effect : Outcome) : Outcome :=
  if rm = 15 then .refused .offsetR15 else effect

/-- The halfword format refuses `P = 0` with `W = 1` (U9). -/
def halfwordForm (p w : Bool) (effect : Outcome) : Outcome :=
  if !p && w then .refused .halfwordPostWriteback else effect

/-- A swap (R224, R225): read, write, one internal cycle, then the register; `r15` is refused (U3). -/
def State.swap (s : State) (load : State → Word → Word × State) (width : Width) (rn rd rm : Reg) : Outcome :=
  if rn = 15 || rd = 15 || rm = 15 then .refused .swapOperand
  else
    let a := s.reg rn
    let (v, t) := load s a
    let t := (t.storeData a width (s.reg rm) .n).addCost s.par.internal.swap
    .next ((t.setReg rd v).setSeq false).advance

/-! ## Word and byte transfers -/

/-- `LDR`, immediate offset (R211). -/
def execLdrImm (c : Cond) (p u w : Bool) (rn rd : Reg) (imm12 : BitVec 12) (s : State) : Outcome :=
  s.when c fun s => s.singleLoad true State.loadWord p u w rn rd (imm12.setWidth 32)

/-- `LDR`, register offset (R211). -/
def execLdrReg (c : Cond) (p u w : Bool) (rn rd : Reg) (amt : BitVec 5) (ty : ShiftKind) (rm : Reg) (s : State) : Outcome :=
  s.when c fun s =>
    withOffsetReg rm (s.singleLoad true State.loadWord p u w rn rd (s.regOperand amt ty rm).value)

/-- `STR`, immediate offset (R212). -/
def execStrImm (c : Cond) (p u w : Bool) (rn rd : Reg) (imm12 : BitVec 12) (s : State) : Outcome :=
  s.when c fun s => s.singleStore .word p u w rn rd (imm12.setWidth 32)

/-- `STR`, register offset (R212). -/
def execStrReg (c : Cond) (p u w : Bool) (rn rd : Reg) (amt : BitVec 5) (ty : ShiftKind) (rm : Reg) (s : State) : Outcome :=
  s.when c fun s =>
    withOffsetReg rm (s.singleStore .word p u w rn rd (s.regOperand amt ty rm).value)

/-- `LDRB`, immediate offset (R213). -/
def execLdrbImm (c : Cond) (p u w : Bool) (rn rd : Reg) (imm12 : BitVec 12) (s : State) : Outcome :=
  s.when c fun s => s.singleLoad false State.loadByte p u w rn rd (imm12.setWidth 32)

/-- `LDRB`, register offset (R213). -/
def execLdrbReg (c : Cond) (p u w : Bool) (rn rd : Reg) (amt : BitVec 5) (ty : ShiftKind) (rm : Reg) (s : State) : Outcome :=
  s.when c fun s =>
    withOffsetReg rm (s.singleLoad false State.loadByte p u w rn rd (s.regOperand amt ty rm).value)

/-- `STRB`, immediate offset (R214). -/
def execStrbImm (c : Cond) (p u w : Bool) (rn rd : Reg) (imm12 : BitVec 12) (s : State) : Outcome :=
  s.when c fun s => s.singleStore .byte p u w rn rd (imm12.setWidth 32)

/-- `STRB`, register offset (R214). -/
def execStrbReg (c : Cond) (p u w : Bool) (rn rd : Reg) (amt : BitVec 5) (ty : ShiftKind) (rm : Reg) (s : State) : Outcome :=
  s.when c fun s =>
    withOffsetReg rm (s.singleStore .byte p u w rn rd (s.regOperand amt ty rm).value)

/-- `LDRT`, immediate offset (R215): the plain post-indexed transfer (U38). -/
def execLdrtImm (c : Cond) (u : Bool) (rn rd : Reg) (imm12 : BitVec 12) (s : State) : Outcome :=
  s.when c fun s => s.singleLoad true State.loadWord false u true rn rd (imm12.setWidth 32)

/-- `LDRT`, register offset (R215): the plain post-indexed transfer (U38). -/
def execLdrtReg (c : Cond) (u : Bool) (rn rd : Reg) (amt : BitVec 5) (ty : ShiftKind) (rm : Reg) (s : State) : Outcome :=
  s.when c fun s =>
    withOffsetReg rm (s.singleLoad true State.loadWord false u true rn rd (s.regOperand amt ty rm).value)

/-- `STRT`, immediate offset (R216): the plain post-indexed transfer (U38). -/
def execStrtImm (c : Cond) (u : Bool) (rn rd : Reg) (imm12 : BitVec 12) (s : State) : Outcome :=
  s.when c fun s => s.singleStore .word false u true rn rd (imm12.setWidth 32)

/-- `STRT`, register offset (R216): the plain post-indexed transfer (U38). -/
def execStrtReg (c : Cond) (u : Bool) (rn rd : Reg) (amt : BitVec 5) (ty : ShiftKind) (rm : Reg) (s : State) : Outcome :=
  s.when c fun s =>
    withOffsetReg rm (s.singleStore .word false u true rn rd (s.regOperand amt ty rm).value)

/-- `LDRBT`, immediate offset (R217): the plain post-indexed transfer (U38). -/
def execLdrbtImm (c : Cond) (u : Bool) (rn rd : Reg) (imm12 : BitVec 12) (s : State) : Outcome :=
  s.when c fun s => s.singleLoad false State.loadByte false u true rn rd (imm12.setWidth 32)

/-- `LDRBT`, register offset (R217): the plain post-indexed transfer (U38). -/
def execLdrbtReg (c : Cond) (u : Bool) (rn rd : Reg) (amt : BitVec 5) (ty : ShiftKind) (rm : Reg) (s : State) : Outcome :=
  s.when c fun s =>
    withOffsetReg rm (s.singleLoad false State.loadByte false u true rn rd (s.regOperand amt ty rm).value)

/-- `STRBT`, immediate offset (R218): the plain post-indexed transfer (U38). -/
def execStrbtImm (c : Cond) (u : Bool) (rn rd : Reg) (imm12 : BitVec 12) (s : State) : Outcome :=
  s.when c fun s => s.singleStore .byte false u true rn rd (imm12.setWidth 32)

/-- `STRBT`, register offset (R218): the plain post-indexed transfer (U38). -/
def execStrbtReg (c : Cond) (u : Bool) (rn rd : Reg) (amt : BitVec 5) (ty : ShiftKind) (rm : Reg) (s : State) : Outcome :=
  s.when c fun s =>
    withOffsetReg rm (s.singleStore .byte false u true rn rd (s.regOperand amt ty rm).value)

/-! ## Halfword and signed transfers -/

/-- `LDRH`, immediate offset (R220). -/
def execLdrhImm (c : Cond) (p u w : Bool) (rn rd : Reg) (offH offL : BitVec 4) (s : State) : Outcome :=
  s.when c fun s => halfwordForm p w (s.singleLoad false State.loadHalf p u w rn rd (halfOffset offH offL))

/-- `LDRH`, register offset (R220). -/
def execLdrhReg (c : Cond) (p u w : Bool) (rn rd : Reg) (_sbz : BitVec 4) (rm : Reg) (s : State) : Outcome :=
  s.when c fun s =>
    halfwordForm p w (withOffsetReg rm (s.singleLoad false State.loadHalf p u w rn rd (s.reg rm)))

/-- `STRH`, immediate offset (R221). -/
def execStrhImm (c : Cond) (p u w : Bool) (rn rd : Reg) (offH offL : BitVec 4) (s : State) : Outcome :=
  s.when c fun s => halfwordForm p w (s.singleStore .half p u w rn rd (halfOffset offH offL))

/-- `STRH`, register offset (R221). -/
def execStrhReg (c : Cond) (p u w : Bool) (rn rd : Reg) (_sbz : BitVec 4) (rm : Reg) (s : State) : Outcome :=
  s.when c fun s =>
    halfwordForm p w (withOffsetReg rm (s.singleStore .half p u w rn rd (s.reg rm)))

/-- `LDRSB`, immediate offset (R222). -/
def execLdrsbImm (c : Cond) (p u w : Bool) (rn rd : Reg) (offH offL : BitVec 4) (s : State) : Outcome :=
  s.when c fun s => halfwordForm p w (s.singleLoad false State.loadSignedByte p u w rn rd (halfOffset offH offL))

/-- `LDRSB`, register offset (R222). -/
def execLdrsbReg (c : Cond) (p u w : Bool) (rn rd : Reg) (_sbz : BitVec 4) (rm : Reg) (s : State) : Outcome :=
  s.when c fun s =>
    halfwordForm p w (withOffsetReg rm (s.singleLoad false State.loadSignedByte p u w rn rd (s.reg rm)))

/-- `LDRSH`, immediate offset (R223). -/
def execLdrshImm (c : Cond) (p u w : Bool) (rn rd : Reg) (offH offL : BitVec 4) (s : State) : Outcome :=
  s.when c fun s => halfwordForm p w (s.singleLoad false State.loadSignedHalf p u w rn rd (halfOffset offH offL))

/-- `LDRSH`, register offset (R223). -/
def execLdrshReg (c : Cond) (p u w : Bool) (rn rd : Reg) (_sbz : BitVec 4) (rm : Reg) (s : State) : Outcome :=
  s.when c fun s =>
    halfwordForm p w (withOffsetReg rm (s.singleLoad false State.loadSignedHalf p u w rn rd (s.reg rm)))

/-! ## Swap -/

/-- `SWP` (R224). -/
def execSwp (c : Cond) (rn rd rm : Reg) (s : State) : Outcome :=
  s.when c fun s => s.swap State.loadWord .word rn rd rm

/-- `SWPB` (R225). -/
def execSwpb (c : Cond) (rn rd rm : Reg) (s : State) : Outcome :=
  s.when c fun s => s.swap State.loadByte .byte rn rd rm

end Sys2Proof.Machine
end

