-- ==== Sys2Proof/WellFormed.lean ====
section
/-! DEFINITION. Which terms of `Instr` stand for an opcode: the constraints between fields that the row order of the
opcode table implies (R135). -/

namespace Sys2Proof

/-- `P = 0` with `W = 1` selects the user-access forms, never the plain ones (R146). -/
def plainTransfer (p w : Bool) : Bool := p || !w

/-- The `MCR` word that is `WFI` (R149, R269). -/
def isWfi (opc1 : BitVec 3) (crn cp : BitVec 4) (opc2 : BitVec 3) (crm : BitVec 4) : Bool :=
  opc1 == 0 && crn == 7 && cp == 15 && opc2 == 4 && crm == 0

/-- An instruction is well formed when its opcode decodes to it. -/
def Instr.wf : Instr → Bool
  | .ldrImm _ p _ w .. | .ldrReg _ p _ w .. | .strImm _ p _ w .. | .strReg _ p _ w ..
  | .ldrbImm _ p _ w .. | .ldrbReg _ p _ w .. | .strbImm _ p _ w .. | .strbReg _ p _ w .. => plainTransfer p w
  | .mcr _ opc1 crn _ cp opc2 crm => !isWfi opc1 crn cp opc2 crm
  | .undOther _ body => undefinedBody body
  | .tBcond c _ => c != .al && c != .nv
  | .tUndOther word => undefinedHalf word
  | _ => true

end Sys2Proof
end

