-- ==== Sys2Proof/Machine/System.lean ====
section
/-! DEFINITION. The system instructions of the full variant (R260 to R272). -/

namespace Sys2Proof.Machine

/-! ## Software interrupt and undefined -/

/-- `SWI` (R260): the comment is not read. -/
def execSwi (c : Cond) (_comment : BitVec 24) (s : State) : Outcome := s.when c fun s => .next s.takeSoftware

/-- `UND`, `bits[27:25] = 011` with `bits[4] = 1` (R270): none of its fields is read. -/
def execUndSpace (c : Cond) (_hi : BitVec 20) (_lo : BitVec 4) (s : State) : Outcome :=
  s.when c fun s => .next s.takeUndefined

/-- `UND`, every other word (R270). -/
def execUndOther (c : Cond) (_body : BitVec 28) (s : State) : Outcome := s.when c fun s => .next s.takeUndefined

/-! ## Status register moves -/

/-- The end of an `MRS`: `Rd = r15` is refused (U40). -/
def State.mrsWrite (s : State) (rd : Reg) (v : Word) : Outcome :=
  if rd = 15 then .refused .systemOperandR15 else .next (s.setReg rd v).advance

/-- `MRS` (R261): `spsr` is a privileged read (R263), refused in System mode (U13); `Rd = r15` is refused (U40). -/
def execMrs (c : Cond) (r : Bool) (rd : Reg) (s : State) : Outcome :=
  s.when c fun s =>
    if r then
      s.privileged
        (fun s => (s.setDraws (s.draws + 1)).mrsWrite rd (Config.freeWord s.draws))
        (fun s =>
          match s.spsr with
          | none => .refused .noSpsr
          | some x => s.mrsWrite rd x.toWord)
    else s.mrsWrite rd s.core.cpsr.toWord

/-- The bits a field mask selects, reserved bits never (R262). -/
def fieldMask (mask : BitVec 4) : Word :=
  ((if mask.getLsbD 3 then 0xFF000000 else 0) ||| (if mask.getLsbD 2 then 0x00FF0000 else 0) |||
    (if mask.getLsbD 1 then 0x0000FF00 else 0) ||| (if mask.getLsbD 0 then 0x000000FF else 0)) &&& 0xF00000FF

/-- `(old & ~mask) | (operand & mask)` (R262). -/
def mergeStatus (old operand mask : Word) : Word := (old &&& ~~~mask) ||| (operand &&& mask)

/-- The write of `cpsr` under a mask (R262): `T` is never written (U16); an illegal mode is refused (U12). -/
def State.writeCpsr (s : State) (operand mask : Word) : Outcome :=
  match Cpsr.ofWord (mergeStatus s.core.cpsr.toWord operand (mask &&& ~~~0x00000020#32)) with
  | none => .refused .illegalMode
  | some p => .next (s.setCpsr p).advance

/-- `MSR` of an operand (R262). To `cpsr`: the control field is privileged, and User mode writes the condition codes
only. To `spsr`: privileged, refused in System mode (U13). -/
def State.msr (s : State) (r : Bool) (mask : BitVec 4) (operand : Word) : Outcome :=
  if r then
    s.privileged (fun s => .next s.advance) (fun s =>
      match s.spsr with
      | none => .refused .noSpsr
      | some x =>
        .next (s.setSpsrs (s.core.spsrs.set s.core.cpsr.mode
          (Spsr.ofWord (mergeStatus x.toWord operand (fieldMask mask))))).advance)
  else if mask.getLsbD 0 then
    s.privileged (fun s => s.writeCpsr operand (fieldMask mask &&& 0xF0000000)) (fun s => s.writeCpsr operand (fieldMask mask))
  else s.writeCpsr operand (fieldMask mask)

/-- `MSR` of a register (R262); `Rm = r15` is refused (U40). -/
def execMsrReg (c : Cond) (r : Bool) (mask : BitVec 4) (rm : Reg) (s : State) : Outcome :=
  s.when c fun s => if rm = 15 then .refused .systemOperandR15 else s.msr r mask (s.reg rm)

/-- `MSR` of an immediate, assembled as in R138 (R262). -/
def execMsrImm (c : Cond) (r : Bool) (mask rot : BitVec 4) (imm8 : BitVec 8) (s : State) : Outcome :=
  s.when c fun s => s.msr r mask (immOperand rot imm8 false).value

/-! ## Coprocessor instructions -/

/-- `CDP` (R264): no coprocessor answers. -/
def execCdp (c : Cond) (_opc1 _crn _crd _cp : BitVec 4) (_opc2 : BitVec 3) (_crm : BitVec 4) (s : State) : Outcome :=
  s.when c fun s => .next s.takeUndefined

/-- `LDC` (R267): no coprocessor answers; no memory access, no write-back. -/
def execLdc (c : Cond) (_p _u _n _w : Bool) (_rn : Reg) (_crd _cp : BitVec 4) (_imm8 : BitVec 8) (s : State) : Outcome :=
  s.when c fun s => .next s.takeUndefined

/-- `STC` (R268): no coprocessor answers; no memory access, no write-back. -/
def execStc (c : Cond) (_p _u _n _w : Bool) (_rn : Reg) (_crd _cp : BitVec 4) (_imm8 : BitVec 8) (s : State) : Outcome :=
  s.when c fun s => .next s.takeUndefined

/-- A register move of the system-control unit, `cp = 15`: privileged (R263), one internal cycle (R272); any other
coprocessor is undefined (R265, R266). -/
def State.cp15 (s : State) (cp : BitVec 4) (ignored effect : State → Outcome) : Outcome :=
  if cp = 15 then
    s.privileged (fun s => ignored (s.addCost s.par.internal.cp15)) (fun s => effect (s.addCost s.par.internal.cp15))
  else .next s.takeUndefined

/-- `MRC`'s destination (R266): `r15` names the condition codes. -/
def State.mrcWrite (s : State) (rd : Reg) (v : Word) : State :=
  if rd = 15 then
    s.setCpsr { s.core.cpsr with n := v.getLsbD 31, z := v.getLsbD 30, c := v.getLsbD 29, v := v.getLsbD 28 }
  else s.setReg rd v

/-- `MCR` (R265, R271): a write of the system-control unit changes nothing; the `WFI`
word halts (R269); `Rd = r15` is refused (U40). -/
def execMcr (c : Cond) (opc1 : BitVec 3) (crn : BitVec 4) (rd : Reg) (cp : BitVec 4) (opc2 : BitVec 3) (crm : BitVec 4) (s : State) : Outcome :=
  s.when c fun s =>
    s.cp15 cp (fun s => .next s.advance)
      (fun s =>
        if isWfi opc1 crn cp opc2 crm then .next (s.setHalted true).advance
        else if rd = 15 then .refused .systemOperandR15 else .next s.advance)

/-- `MRC` (R266, R271): every system-control register reads `CP15_OPEN`; with `Rd = r15` the condition codes take it, in
User mode under `PRIV_POLICY = ignore` too. DEDUCED for that policy (log 31). -/
def execMrc (c : Cond) (_opc1 : BitVec 3) (_crn : BitVec 4) (rd : Reg) (cp : BitVec 4) (_opc2 : BitVec 3) (_crm : BitVec 4) (s : State) : Outcome :=
  s.when c fun s =>
    s.cp15 cp (fun s => .next (s.mrcWrite rd s.par.cp15Open).advance)
      (fun s => .next (s.mrcWrite rd s.par.cp15Open).advance)

/-- `WFI` (R269): the core halts after this step; `Rd` is ignored. -/
def execWfi (c : Cond) (_rd : Reg) (s : State) : Outcome :=
  s.when c fun s =>
    s.cp15 15 (fun s => .next s.advance) (fun s => .next (s.setHalted true).advance)

end Sys2Proof.Machine
end

