-- ==== Sys2Proof/Machine/Dispatch.lean ====
section
/-! DEFINITION. The meaning of every instruction, one call each, in the order of spec/opcode_table.json. -/

namespace Sys2Proof.Machine

/-- The effect of one instruction on a state whose `pc` is its address and whose report holds its fetch cost. -/
def exec (i : Instr) (s : State) : Host.Outcome State Fault Refusal :=
  match i with
  | .bx c rm => Sys2Proof.Machine.execBx c rm s
  | .wfi c rd => Sys2Proof.Machine.execWfi c rd s
  | .mrs c r rd => Sys2Proof.Machine.execMrs c r rd s
  | .msrReg c r mask rm => Sys2Proof.Machine.execMsrReg c r mask rm s
  | .msrImm c r mask rot imm8 => Sys2Proof.Machine.execMsrImm c r mask rot imm8 s
  | .swp c rn rd rm => Sys2Proof.Machine.execSwp c rn rd rm s
  | .swpb c rn rd rm => Sys2Proof.Machine.execSwpb c rn rd rm s
  | .mul c sf rd rn rs rm => Sys2Proof.Machine.execMul c sf rd rn rs rm s
  | .mla c sf rd rn rs rm => Sys2Proof.Machine.execMla c sf rd rn rs rm s
  | .umull c sf rdHi rdLo rs rm => Sys2Proof.Machine.execUmull c sf rdHi rdLo rs rm s
  | .umlal c sf rdHi rdLo rs rm => Sys2Proof.Machine.execUmlal c sf rdHi rdLo rs rm s
  | .smull c sf rdHi rdLo rs rm => Sys2Proof.Machine.execSmull c sf rdHi rdLo rs rm s
  | .smlal c sf rdHi rdLo rs rm => Sys2Proof.Machine.execSmlal c sf rdHi rdLo rs rm s
  | .strhReg c p u w rn rd sbz rm => Sys2Proof.Machine.execStrhReg c p u w rn rd sbz rm s
  | .strhImm c p u w rn rd offH offL => Sys2Proof.Machine.execStrhImm c p u w rn rd offH offL s
  | .ldrhReg c p u w rn rd sbz rm => Sys2Proof.Machine.execLdrhReg c p u w rn rd sbz rm s
  | .ldrhImm c p u w rn rd offH offL => Sys2Proof.Machine.execLdrhImm c p u w rn rd offH offL s
  | .ldrsbReg c p u w rn rd sbz rm => Sys2Proof.Machine.execLdrsbReg c p u w rn rd sbz rm s
  | .ldrsbImm c p u w rn rd offH offL => Sys2Proof.Machine.execLdrsbImm c p u w rn rd offH offL s
  | .ldrshReg c p u w rn rd sbz rm => Sys2Proof.Machine.execLdrshReg c p u w rn rd sbz rm s
  | .ldrshImm c p u w rn rd offH offL => Sys2Proof.Machine.execLdrshImm c p u w rn rd offH offL s
  | .andImm c sf rn rd rot imm8 => Sys2Proof.Machine.execAndImm c sf rn rd rot imm8 s
  | .andReg c sf rn rd amt ty rm => Sys2Proof.Machine.execAndReg c sf rn rd amt ty rm s
  | .andRsr c sf rn rd rs ty rm => Sys2Proof.Machine.execAndRsr c sf rn rd rs ty rm s
  | .eorImm c sf rn rd rot imm8 => Sys2Proof.Machine.execEorImm c sf rn rd rot imm8 s
  | .eorReg c sf rn rd amt ty rm => Sys2Proof.Machine.execEorReg c sf rn rd amt ty rm s
  | .eorRsr c sf rn rd rs ty rm => Sys2Proof.Machine.execEorRsr c sf rn rd rs ty rm s
  | .subImm c sf rn rd rot imm8 => Sys2Proof.Machine.execSubImm c sf rn rd rot imm8 s
  | .subReg c sf rn rd amt ty rm => Sys2Proof.Machine.execSubReg c sf rn rd amt ty rm s
  | .subRsr c sf rn rd rs ty rm => Sys2Proof.Machine.execSubRsr c sf rn rd rs ty rm s
  | .rsbImm c sf rn rd rot imm8 => Sys2Proof.Machine.execRsbImm c sf rn rd rot imm8 s
  | .rsbReg c sf rn rd amt ty rm => Sys2Proof.Machine.execRsbReg c sf rn rd amt ty rm s
  | .rsbRsr c sf rn rd rs ty rm => Sys2Proof.Machine.execRsbRsr c sf rn rd rs ty rm s
  | .addImm c sf rn rd rot imm8 => Sys2Proof.Machine.execAddImm c sf rn rd rot imm8 s
  | .addReg c sf rn rd amt ty rm => Sys2Proof.Machine.execAddReg c sf rn rd amt ty rm s
  | .addRsr c sf rn rd rs ty rm => Sys2Proof.Machine.execAddRsr c sf rn rd rs ty rm s
  | .adcImm c sf rn rd rot imm8 => Sys2Proof.Machine.execAdcImm c sf rn rd rot imm8 s
  | .adcReg c sf rn rd amt ty rm => Sys2Proof.Machine.execAdcReg c sf rn rd amt ty rm s
  | .adcRsr c sf rn rd rs ty rm => Sys2Proof.Machine.execAdcRsr c sf rn rd rs ty rm s
  | .sbcImm c sf rn rd rot imm8 => Sys2Proof.Machine.execSbcImm c sf rn rd rot imm8 s
  | .sbcReg c sf rn rd amt ty rm => Sys2Proof.Machine.execSbcReg c sf rn rd amt ty rm s
  | .sbcRsr c sf rn rd rs ty rm => Sys2Proof.Machine.execSbcRsr c sf rn rd rs ty rm s
  | .rscImm c sf rn rd rot imm8 => Sys2Proof.Machine.execRscImm c sf rn rd rot imm8 s
  | .rscReg c sf rn rd amt ty rm => Sys2Proof.Machine.execRscReg c sf rn rd amt ty rm s
  | .rscRsr c sf rn rd rs ty rm => Sys2Proof.Machine.execRscRsr c sf rn rd rs ty rm s
  | .tstImm c rn rd rot imm8 => Sys2Proof.Machine.execTstImm c rn rd rot imm8 s
  | .tstReg c rn rd amt ty rm => Sys2Proof.Machine.execTstReg c rn rd amt ty rm s
  | .tstRsr c rn rd rs ty rm => Sys2Proof.Machine.execTstRsr c rn rd rs ty rm s
  | .teqImm c rn rd rot imm8 => Sys2Proof.Machine.execTeqImm c rn rd rot imm8 s
  | .teqReg c rn rd amt ty rm => Sys2Proof.Machine.execTeqReg c rn rd amt ty rm s
  | .teqRsr c rn rd rs ty rm => Sys2Proof.Machine.execTeqRsr c rn rd rs ty rm s
  | .cmpImm c rn rd rot imm8 => Sys2Proof.Machine.execCmpImm c rn rd rot imm8 s
  | .cmpReg c rn rd amt ty rm => Sys2Proof.Machine.execCmpReg c rn rd amt ty rm s
  | .cmpRsr c rn rd rs ty rm => Sys2Proof.Machine.execCmpRsr c rn rd rs ty rm s
  | .cmnImm c rn rd rot imm8 => Sys2Proof.Machine.execCmnImm c rn rd rot imm8 s
  | .cmnReg c rn rd amt ty rm => Sys2Proof.Machine.execCmnReg c rn rd amt ty rm s
  | .cmnRsr c rn rd rs ty rm => Sys2Proof.Machine.execCmnRsr c rn rd rs ty rm s
  | .orrImm c sf rn rd rot imm8 => Sys2Proof.Machine.execOrrImm c sf rn rd rot imm8 s
  | .orrReg c sf rn rd amt ty rm => Sys2Proof.Machine.execOrrReg c sf rn rd amt ty rm s
  | .orrRsr c sf rn rd rs ty rm => Sys2Proof.Machine.execOrrRsr c sf rn rd rs ty rm s
  | .movImm c sf rn rd rot imm8 => Sys2Proof.Machine.execMovImm c sf rn rd rot imm8 s
  | .movReg c sf rn rd amt ty rm => Sys2Proof.Machine.execMovReg c sf rn rd amt ty rm s
  | .movRsr c sf rn rd rs ty rm => Sys2Proof.Machine.execMovRsr c sf rn rd rs ty rm s
  | .bicImm c sf rn rd rot imm8 => Sys2Proof.Machine.execBicImm c sf rn rd rot imm8 s
  | .bicReg c sf rn rd amt ty rm => Sys2Proof.Machine.execBicReg c sf rn rd amt ty rm s
  | .bicRsr c sf rn rd rs ty rm => Sys2Proof.Machine.execBicRsr c sf rn rd rs ty rm s
  | .mvnImm c sf rn rd rot imm8 => Sys2Proof.Machine.execMvnImm c sf rn rd rot imm8 s
  | .mvnReg c sf rn rd amt ty rm => Sys2Proof.Machine.execMvnReg c sf rn rd amt ty rm s
  | .mvnRsr c sf rn rd rs ty rm => Sys2Proof.Machine.execMvnRsr c sf rn rd rs ty rm s
  | .ldrtImm c u rn rd imm12 => Sys2Proof.Machine.execLdrtImm c u rn rd imm12 s
  | .ldrtReg c u rn rd amt ty rm => Sys2Proof.Machine.execLdrtReg c u rn rd amt ty rm s
  | .strtImm c u rn rd imm12 => Sys2Proof.Machine.execStrtImm c u rn rd imm12 s
  | .strtReg c u rn rd amt ty rm => Sys2Proof.Machine.execStrtReg c u rn rd amt ty rm s
  | .ldrbtImm c u rn rd imm12 => Sys2Proof.Machine.execLdrbtImm c u rn rd imm12 s
  | .ldrbtReg c u rn rd amt ty rm => Sys2Proof.Machine.execLdrbtReg c u rn rd amt ty rm s
  | .strbtImm c u rn rd imm12 => Sys2Proof.Machine.execStrbtImm c u rn rd imm12 s
  | .strbtReg c u rn rd amt ty rm => Sys2Proof.Machine.execStrbtReg c u rn rd amt ty rm s
  | .ldrImm c p u w rn rd imm12 => Sys2Proof.Machine.execLdrImm c p u w rn rd imm12 s
  | .ldrReg c p u w rn rd amt ty rm => Sys2Proof.Machine.execLdrReg c p u w rn rd amt ty rm s
  | .strImm c p u w rn rd imm12 => Sys2Proof.Machine.execStrImm c p u w rn rd imm12 s
  | .strReg c p u w rn rd amt ty rm => Sys2Proof.Machine.execStrReg c p u w rn rd amt ty rm s
  | .ldrbImm c p u w rn rd imm12 => Sys2Proof.Machine.execLdrbImm c p u w rn rd imm12 s
  | .ldrbReg c p u w rn rd amt ty rm => Sys2Proof.Machine.execLdrbReg c p u w rn rd amt ty rm s
  | .strbImm c p u w rn rd imm12 => Sys2Proof.Machine.execStrbImm c p u w rn rd imm12 s
  | .strbReg c p u w rn rd amt ty rm => Sys2Proof.Machine.execStrbReg c p u w rn rd amt ty rm s
  | .undSpace c hi lo => Sys2Proof.Machine.execUndSpace c hi lo s
  | .ldm c p u sf w rn list => Sys2Proof.Machine.execLdm c p u sf w rn list s
  | .stm c p u sf w rn list => Sys2Proof.Machine.execStm c p u sf w rn list s
  | .b c imm24 => Sys2Proof.Machine.execB c imm24 s
  | .bl c imm24 => Sys2Proof.Machine.execBl c imm24 s
  | .swi c comment => Sys2Proof.Machine.execSwi c comment s
  | .cdp c opc1 crn crd cp opc2 crm => Sys2Proof.Machine.execCdp c opc1 crn crd cp opc2 crm s
  | .mcr c opc1 crn rd cp opc2 crm => Sys2Proof.Machine.execMcr c opc1 crn rd cp opc2 crm s
  | .mrc c opc1 crn rd cp opc2 crm => Sys2Proof.Machine.execMrc c opc1 crn rd cp opc2 crm s
  | .ldc c p u n w rn crd cp imm8 => Sys2Proof.Machine.execLdc c p u n w rn crd cp imm8 s
  | .stc c p u n w rn crd cp imm8 => Sys2Proof.Machine.execStc c p u n w rn crd cp imm8 s
  | .undOther c body => Sys2Proof.Machine.execUndOther c body s
  | .tLslImm imm5 rs rd => Sys2Proof.Machine.execTLslImm imm5 rs rd s
  | .tLsrImm imm5 rs rd => Sys2Proof.Machine.execTLsrImm imm5 rs rd s
  | .tAsrImm imm5 rs rd => Sys2Proof.Machine.execTAsrImm imm5 rs rd s
  | .tAddReg rn rs rd => Sys2Proof.Machine.execTAddReg rn rs rd s
  | .tSubReg rn rs rd => Sys2Proof.Machine.execTSubReg rn rs rd s
  | .tAddImm3 imm3 rs rd => Sys2Proof.Machine.execTAddImm3 imm3 rs rd s
  | .tSubImm3 imm3 rs rd => Sys2Proof.Machine.execTSubImm3 imm3 rs rd s
  | .tMovImm8 rd imm8 => Sys2Proof.Machine.execTMovImm8 rd imm8 s
  | .tCmpImm8 rd imm8 => Sys2Proof.Machine.execTCmpImm8 rd imm8 s
  | .tAddImm8 rd imm8 => Sys2Proof.Machine.execTAddImm8 rd imm8 s
  | .tSubImm8 rd imm8 => Sys2Proof.Machine.execTSubImm8 rd imm8 s
  | .tAnd rs rd => Sys2Proof.Machine.execTAnd rs rd s
  | .tEor rs rd => Sys2Proof.Machine.execTEor rs rd s
  | .tLslReg rs rd => Sys2Proof.Machine.execTLslReg rs rd s
  | .tLsrReg rs rd => Sys2Proof.Machine.execTLsrReg rs rd s
  | .tAsrReg rs rd => Sys2Proof.Machine.execTAsrReg rs rd s
  | .tAdc rs rd => Sys2Proof.Machine.execTAdc rs rd s
  | .tSbc rs rd => Sys2Proof.Machine.execTSbc rs rd s
  | .tRorReg rs rd => Sys2Proof.Machine.execTRorReg rs rd s
  | .tTst rs rd => Sys2Proof.Machine.execTTst rs rd s
  | .tNeg rs rd => Sys2Proof.Machine.execTNeg rs rd s
  | .tCmpReg rs rd => Sys2Proof.Machine.execTCmpReg rs rd s
  | .tCmn rs rd => Sys2Proof.Machine.execTCmn rs rd s
  | .tOrr rs rd => Sys2Proof.Machine.execTOrr rs rd s
  | .tMul rs rd => Sys2Proof.Machine.execTMul rs rd s
  | .tBic rs rd => Sys2Proof.Machine.execTBic rs rd s
  | .tMvn rs rd => Sys2Proof.Machine.execTMvn rs rd s
  | .tAddHi rd rs => Sys2Proof.Machine.execTAddHi rd rs s
  | .tCmpHi rd rs => Sys2Proof.Machine.execTCmpHi rd rs s
  | .tMovHi rd rs => Sys2Proof.Machine.execTMovHi rd rs s
  | .tBx rs sbz => Sys2Proof.Machine.execTBx rs sbz s
  | .tLdrPc rd imm8 => Sys2Proof.Machine.execTLdrPc rd imm8 s
  | .tStrReg ro rb rd => Sys2Proof.Machine.execTStrReg ro rb rd s
  | .tStrbReg ro rb rd => Sys2Proof.Machine.execTStrbReg ro rb rd s
  | .tLdrReg ro rb rd => Sys2Proof.Machine.execTLdrReg ro rb rd s
  | .tLdrbReg ro rb rd => Sys2Proof.Machine.execTLdrbReg ro rb rd s
  | .tStrhReg ro rb rd => Sys2Proof.Machine.execTStrhReg ro rb rd s
  | .tLdsbReg ro rb rd => Sys2Proof.Machine.execTLdsbReg ro rb rd s
  | .tLdrhReg ro rb rd => Sys2Proof.Machine.execTLdrhReg ro rb rd s
  | .tLdshReg ro rb rd => Sys2Proof.Machine.execTLdshReg ro rb rd s
  | .tStrImm imm5 rb rd => Sys2Proof.Machine.execTStrImm imm5 rb rd s
  | .tLdrImm imm5 rb rd => Sys2Proof.Machine.execTLdrImm imm5 rb rd s
  | .tStrbImm imm5 rb rd => Sys2Proof.Machine.execTStrbImm imm5 rb rd s
  | .tLdrbImm imm5 rb rd => Sys2Proof.Machine.execTLdrbImm imm5 rb rd s
  | .tStrhImm imm5 rb rd => Sys2Proof.Machine.execTStrhImm imm5 rb rd s
  | .tLdrhImm imm5 rb rd => Sys2Proof.Machine.execTLdrhImm imm5 rb rd s
  | .tStrSp rd imm8 => Sys2Proof.Machine.execTStrSp rd imm8 s
  | .tLdrSp rd imm8 => Sys2Proof.Machine.execTLdrSp rd imm8 s
  | .tAddPc rd imm8 => Sys2Proof.Machine.execTAddPc rd imm8 s
  | .tAddSp rd imm8 => Sys2Proof.Machine.execTAddSp rd imm8 s
  | .tAddSpImm imm7 => Sys2Proof.Machine.execTAddSpImm imm7 s
  | .tSubSpImm imm7 => Sys2Proof.Machine.execTSubSpImm imm7 s
  | .tPush r rlist => Sys2Proof.Machine.execTPush r rlist s
  | .tPop r rlist => Sys2Proof.Machine.execTPop r rlist s
  | .tStmia rb rlist => Sys2Proof.Machine.execTStmia rb rlist s
  | .tLdmia rb rlist => Sys2Proof.Machine.execTLdmia rb rlist s
  | .tSwi comment => Sys2Proof.Machine.execTSwi comment s
  | .tUndCond comment => Sys2Proof.Machine.execTUndCond comment s
  | .tBcond c imm8 => Sys2Proof.Machine.execTBcond c imm8 s
  | .tB imm11 => Sys2Proof.Machine.execTB imm11 s
  | .tBlHi imm11 => Sys2Proof.Machine.execTBlHi imm11 s
  | .tBlLo imm11 => Sys2Proof.Machine.execTBlLo imm11 s
  | .tUndOther word => Sys2Proof.Machine.execTUndOther word s

end Sys2Proof.Machine
end

