-- ==== Sys2Proof/Decode.lean ====
section
/-! DEFINITION. The decoder of both variants (R130 to R159), total on any bytes, and the encoder written from the same
tables. Both work on an opcode as a natural number: `bits` reads a field, `cat` puts the next field below. -/

namespace Sys2Proof

/-! ## The decoder, full variant -/

/-- R141, R142, R143: `bits[27:25] = 000` with `bits[7:4] = 1001`. -/
def decodeMultiply (c : Cond) (b : Nat) : Option Instr :=
  if bits b 23 2 = 0b00#2 then
    if flag b 22 then none
    else if flag b 21 then some (.mla c (flag b 20) (regOf (bits b 16 4)) (regOf (bits b 12 4)) (regOf (bits b 8 4)) (regOf (bits b 0 4)))
    else some (.mul c (flag b 20) (regOf (bits b 16 4)) (regOf (bits b 12 4)) (regOf (bits b 8 4)) (regOf (bits b 0 4)))
  else if bits b 23 2 = 0b01#2 then
    if bits b 21 2 = 0b00#2 then some (.umull c (flag b 20) (regOf (bits b 16 4)) (regOf (bits b 12 4)) (regOf (bits b 8 4)) (regOf (bits b 0 4)))
    else if bits b 21 2 = 0b01#2 then some (.umlal c (flag b 20) (regOf (bits b 16 4)) (regOf (bits b 12 4)) (regOf (bits b 8 4)) (regOf (bits b 0 4)))
    else if bits b 21 2 = 0b10#2 then some (.smull c (flag b 20) (regOf (bits b 16 4)) (regOf (bits b 12 4)) (regOf (bits b 8 4)) (regOf (bits b 0 4)))
    else some (.smlal c (flag b 20) (regOf (bits b 16 4)) (regOf (bits b 12 4)) (regOf (bits b 8 4)) (regOf (bits b 0 4)))
  else if bits b 23 2 = 0b10#2 then
    if bits b 20 2 = 0b00#2 then
      if bits b 8 4 = 0b0000#4 then
        if flag b 22 then some (.swpb c (regOf (bits b 16 4)) (regOf (bits b 12 4)) (regOf (bits b 0 4))) else some (.swp c (regOf (bits b 16 4)) (regOf (bits b 12 4)) (regOf (bits b 0 4)))
      else none
    else none
  else none

/-- R145: `bits[27:25] = 000` with `bits[7] = bits[4] = 1` and `{S,H}` not 00. -/
def decodeHalfword (c : Cond) (b : Nat) : Option Instr :=
  if bits b 5 2 = 0b01#2 then
    if flag b 20 then
      if flag b 22 then some (.ldrhImm c (flag b 24) (flag b 23) (flag b 21) (regOf (bits b 16 4)) (regOf (bits b 12 4)) (bits b 8 4) (bits b 0 4)) else some (.ldrhReg c (flag b 24) (flag b 23) (flag b 21) (regOf (bits b 16 4)) (regOf (bits b 12 4)) (bits b 8 4) (regOf (bits b 0 4)))
    else
      if flag b 22 then some (.strhImm c (flag b 24) (flag b 23) (flag b 21) (regOf (bits b 16 4)) (regOf (bits b 12 4)) (bits b 8 4) (bits b 0 4)) else some (.strhReg c (flag b 24) (flag b 23) (flag b 21) (regOf (bits b 16 4)) (regOf (bits b 12 4)) (bits b 8 4) (regOf (bits b 0 4)))
  else if bits b 5 2 = 0b10#2 then
    if flag b 20 then
      if flag b 22 then some (.ldrsbImm c (flag b 24) (flag b 23) (flag b 21) (regOf (bits b 16 4)) (regOf (bits b 12 4)) (bits b 8 4) (bits b 0 4)) else some (.ldrsbReg c (flag b 24) (flag b 23) (flag b 21) (regOf (bits b 16 4)) (regOf (bits b 12 4)) (bits b 8 4) (regOf (bits b 0 4)))
    else none
  else
    if flag b 20 then
      if flag b 22 then some (.ldrshImm c (flag b 24) (flag b 23) (flag b 21) (regOf (bits b 16 4)) (regOf (bits b 12 4)) (bits b 8 4) (bits b 0 4)) else some (.ldrshReg c (flag b 24) (flag b 23) (flag b 21) (regOf (bits b 16 4)) (regOf (bits b 12 4)) (bits b 8 4) (regOf (bits b 0 4)))
    else none

/-- R144, R151: `bits[27:23] = 00010` with `bits[20] = 0`. -/
def decodeMisc (c : Cond) (b : Nat) : Option Instr :=
  if bits b 20 2 = 0b00#2 then
    if bits b 16 4 = 0b1111#4 then
      if bits b 8 4 = 0b0000#4 then
        if bits b 4 4 = 0b0000#4 then
          if bits b 0 4 = 0b0000#4 then some (.mrs c (flag b 22) (regOf (bits b 12 4))) else none
        else none
      else none
    else none
  else
    if bits b 12 4 = 0b1111#4 then
      if bits b 8 4 = 0b0000#4 then
        if bits b 4 4 = 0b0000#4 then some (.msrReg c (flag b 22) (bits b 16 4) (regOf (bits b 0 4))) else none
      else if bits b 8 4 = 0b1111#4 then
        if flag b 22 then none
        else if bits b 16 4 = 0b1111#4 then
          if bits b 4 4 = 0b0001#4 then some (.bx c (regOf (bits b 0 4))) else none
        else none
      else none
    else none

/-- R137, R138: the sixteen opcodes with an immediate operand2. -/
def decodeDpImm (c : Cond) (b : Nat) : Option Instr :=
  if bits b 21 4 = 0b0000#4 then some (.andImm c (flag b 20) (regOf (bits b 16 4)) (regOf (bits b 12 4)) (bits b 8 4) (bits b 0 8))
  else if bits b 21 4 = 0b0001#4 then some (.eorImm c (flag b 20) (regOf (bits b 16 4)) (regOf (bits b 12 4)) (bits b 8 4) (bits b 0 8))
  else if bits b 21 4 = 0b0010#4 then some (.subImm c (flag b 20) (regOf (bits b 16 4)) (regOf (bits b 12 4)) (bits b 8 4) (bits b 0 8))
  else if bits b 21 4 = 0b0011#4 then some (.rsbImm c (flag b 20) (regOf (bits b 16 4)) (regOf (bits b 12 4)) (bits b 8 4) (bits b 0 8))
  else if bits b 21 4 = 0b0100#4 then some (.addImm c (flag b 20) (regOf (bits b 16 4)) (regOf (bits b 12 4)) (bits b 8 4) (bits b 0 8))
  else if bits b 21 4 = 0b0101#4 then some (.adcImm c (flag b 20) (regOf (bits b 16 4)) (regOf (bits b 12 4)) (bits b 8 4) (bits b 0 8))
  else if bits b 21 4 = 0b0110#4 then some (.sbcImm c (flag b 20) (regOf (bits b 16 4)) (regOf (bits b 12 4)) (bits b 8 4) (bits b 0 8))
  else if bits b 21 4 = 0b0111#4 then some (.rscImm c (flag b 20) (regOf (bits b 16 4)) (regOf (bits b 12 4)) (bits b 8 4) (bits b 0 8))
  else if bits b 21 4 = 0b1000#4 then some (.tstImm c (regOf (bits b 16 4)) (regOf (bits b 12 4)) (bits b 8 4) (bits b 0 8))
  else if bits b 21 4 = 0b1001#4 then some (.teqImm c (regOf (bits b 16 4)) (regOf (bits b 12 4)) (bits b 8 4) (bits b 0 8))
  else if bits b 21 4 = 0b1010#4 then some (.cmpImm c (regOf (bits b 16 4)) (regOf (bits b 12 4)) (bits b 8 4) (bits b 0 8))
  else if bits b 21 4 = 0b1011#4 then some (.cmnImm c (regOf (bits b 16 4)) (regOf (bits b 12 4)) (bits b 8 4) (bits b 0 8))
  else if bits b 21 4 = 0b1100#4 then some (.orrImm c (flag b 20) (regOf (bits b 16 4)) (regOf (bits b 12 4)) (bits b 8 4) (bits b 0 8))
  else if bits b 21 4 = 0b1101#4 then some (.movImm c (flag b 20) (regOf (bits b 16 4)) (regOf (bits b 12 4)) (bits b 8 4) (bits b 0 8))
  else if bits b 21 4 = 0b1110#4 then some (.bicImm c (flag b 20) (regOf (bits b 16 4)) (regOf (bits b 12 4)) (bits b 8 4) (bits b 0 8))
  else if bits b 21 4 = 0b1111#4 then some (.mvnImm c (flag b 20) (regOf (bits b 16 4)) (regOf (bits b 12 4)) (bits b 8 4) (bits b 0 8))
  else none

/-- R137, R139: the sixteen opcodes with a register shifted by an immediate. -/
def decodeDpReg (c : Cond) (b : Nat) : Option Instr :=
  if bits b 21 4 = 0b0000#4 then some (.andReg c (flag b 20) (regOf (bits b 16 4)) (regOf (bits b 12 4)) (bits b 7 5) (ShiftKind.ofBits (bits b 5 2)) (regOf (bits b 0 4)))
  else if bits b 21 4 = 0b0001#4 then some (.eorReg c (flag b 20) (regOf (bits b 16 4)) (regOf (bits b 12 4)) (bits b 7 5) (ShiftKind.ofBits (bits b 5 2)) (regOf (bits b 0 4)))
  else if bits b 21 4 = 0b0010#4 then some (.subReg c (flag b 20) (regOf (bits b 16 4)) (regOf (bits b 12 4)) (bits b 7 5) (ShiftKind.ofBits (bits b 5 2)) (regOf (bits b 0 4)))
  else if bits b 21 4 = 0b0011#4 then some (.rsbReg c (flag b 20) (regOf (bits b 16 4)) (regOf (bits b 12 4)) (bits b 7 5) (ShiftKind.ofBits (bits b 5 2)) (regOf (bits b 0 4)))
  else if bits b 21 4 = 0b0100#4 then some (.addReg c (flag b 20) (regOf (bits b 16 4)) (regOf (bits b 12 4)) (bits b 7 5) (ShiftKind.ofBits (bits b 5 2)) (regOf (bits b 0 4)))
  else if bits b 21 4 = 0b0101#4 then some (.adcReg c (flag b 20) (regOf (bits b 16 4)) (regOf (bits b 12 4)) (bits b 7 5) (ShiftKind.ofBits (bits b 5 2)) (regOf (bits b 0 4)))
  else if bits b 21 4 = 0b0110#4 then some (.sbcReg c (flag b 20) (regOf (bits b 16 4)) (regOf (bits b 12 4)) (bits b 7 5) (ShiftKind.ofBits (bits b 5 2)) (regOf (bits b 0 4)))
  else if bits b 21 4 = 0b0111#4 then some (.rscReg c (flag b 20) (regOf (bits b 16 4)) (regOf (bits b 12 4)) (bits b 7 5) (ShiftKind.ofBits (bits b 5 2)) (regOf (bits b 0 4)))
  else if bits b 21 4 = 0b1000#4 then some (.tstReg c (regOf (bits b 16 4)) (regOf (bits b 12 4)) (bits b 7 5) (ShiftKind.ofBits (bits b 5 2)) (regOf (bits b 0 4)))
  else if bits b 21 4 = 0b1001#4 then some (.teqReg c (regOf (bits b 16 4)) (regOf (bits b 12 4)) (bits b 7 5) (ShiftKind.ofBits (bits b 5 2)) (regOf (bits b 0 4)))
  else if bits b 21 4 = 0b1010#4 then some (.cmpReg c (regOf (bits b 16 4)) (regOf (bits b 12 4)) (bits b 7 5) (ShiftKind.ofBits (bits b 5 2)) (regOf (bits b 0 4)))
  else if bits b 21 4 = 0b1011#4 then some (.cmnReg c (regOf (bits b 16 4)) (regOf (bits b 12 4)) (bits b 7 5) (ShiftKind.ofBits (bits b 5 2)) (regOf (bits b 0 4)))
  else if bits b 21 4 = 0b1100#4 then some (.orrReg c (flag b 20) (regOf (bits b 16 4)) (regOf (bits b 12 4)) (bits b 7 5) (ShiftKind.ofBits (bits b 5 2)) (regOf (bits b 0 4)))
  else if bits b 21 4 = 0b1101#4 then some (.movReg c (flag b 20) (regOf (bits b 16 4)) (regOf (bits b 12 4)) (bits b 7 5) (ShiftKind.ofBits (bits b 5 2)) (regOf (bits b 0 4)))
  else if bits b 21 4 = 0b1110#4 then some (.bicReg c (flag b 20) (regOf (bits b 16 4)) (regOf (bits b 12 4)) (bits b 7 5) (ShiftKind.ofBits (bits b 5 2)) (regOf (bits b 0 4)))
  else if bits b 21 4 = 0b1111#4 then some (.mvnReg c (flag b 20) (regOf (bits b 16 4)) (regOf (bits b 12 4)) (bits b 7 5) (ShiftKind.ofBits (bits b 5 2)) (regOf (bits b 0 4)))
  else none

/-- R137, R140: the sixteen opcodes with a register shifted by a register. -/
def decodeDpRsr (c : Cond) (b : Nat) : Option Instr :=
  if bits b 21 4 = 0b0000#4 then some (.andRsr c (flag b 20) (regOf (bits b 16 4)) (regOf (bits b 12 4)) (regOf (bits b 8 4)) (ShiftKind.ofBits (bits b 5 2)) (regOf (bits b 0 4)))
  else if bits b 21 4 = 0b0001#4 then some (.eorRsr c (flag b 20) (regOf (bits b 16 4)) (regOf (bits b 12 4)) (regOf (bits b 8 4)) (ShiftKind.ofBits (bits b 5 2)) (regOf (bits b 0 4)))
  else if bits b 21 4 = 0b0010#4 then some (.subRsr c (flag b 20) (regOf (bits b 16 4)) (regOf (bits b 12 4)) (regOf (bits b 8 4)) (ShiftKind.ofBits (bits b 5 2)) (regOf (bits b 0 4)))
  else if bits b 21 4 = 0b0011#4 then some (.rsbRsr c (flag b 20) (regOf (bits b 16 4)) (regOf (bits b 12 4)) (regOf (bits b 8 4)) (ShiftKind.ofBits (bits b 5 2)) (regOf (bits b 0 4)))
  else if bits b 21 4 = 0b0100#4 then some (.addRsr c (flag b 20) (regOf (bits b 16 4)) (regOf (bits b 12 4)) (regOf (bits b 8 4)) (ShiftKind.ofBits (bits b 5 2)) (regOf (bits b 0 4)))
  else if bits b 21 4 = 0b0101#4 then some (.adcRsr c (flag b 20) (regOf (bits b 16 4)) (regOf (bits b 12 4)) (regOf (bits b 8 4)) (ShiftKind.ofBits (bits b 5 2)) (regOf (bits b 0 4)))
  else if bits b 21 4 = 0b0110#4 then some (.sbcRsr c (flag b 20) (regOf (bits b 16 4)) (regOf (bits b 12 4)) (regOf (bits b 8 4)) (ShiftKind.ofBits (bits b 5 2)) (regOf (bits b 0 4)))
  else if bits b 21 4 = 0b0111#4 then some (.rscRsr c (flag b 20) (regOf (bits b 16 4)) (regOf (bits b 12 4)) (regOf (bits b 8 4)) (ShiftKind.ofBits (bits b 5 2)) (regOf (bits b 0 4)))
  else if bits b 21 4 = 0b1000#4 then some (.tstRsr c (regOf (bits b 16 4)) (regOf (bits b 12 4)) (regOf (bits b 8 4)) (ShiftKind.ofBits (bits b 5 2)) (regOf (bits b 0 4)))
  else if bits b 21 4 = 0b1001#4 then some (.teqRsr c (regOf (bits b 16 4)) (regOf (bits b 12 4)) (regOf (bits b 8 4)) (ShiftKind.ofBits (bits b 5 2)) (regOf (bits b 0 4)))
  else if bits b 21 4 = 0b1010#4 then some (.cmpRsr c (regOf (bits b 16 4)) (regOf (bits b 12 4)) (regOf (bits b 8 4)) (ShiftKind.ofBits (bits b 5 2)) (regOf (bits b 0 4)))
  else if bits b 21 4 = 0b1011#4 then some (.cmnRsr c (regOf (bits b 16 4)) (regOf (bits b 12 4)) (regOf (bits b 8 4)) (ShiftKind.ofBits (bits b 5 2)) (regOf (bits b 0 4)))
  else if bits b 21 4 = 0b1100#4 then some (.orrRsr c (flag b 20) (regOf (bits b 16 4)) (regOf (bits b 12 4)) (regOf (bits b 8 4)) (ShiftKind.ofBits (bits b 5 2)) (regOf (bits b 0 4)))
  else if bits b 21 4 = 0b1101#4 then some (.movRsr c (flag b 20) (regOf (bits b 16 4)) (regOf (bits b 12 4)) (regOf (bits b 8 4)) (ShiftKind.ofBits (bits b 5 2)) (regOf (bits b 0 4)))
  else if bits b 21 4 = 0b1110#4 then some (.bicRsr c (flag b 20) (regOf (bits b 16 4)) (regOf (bits b 12 4)) (regOf (bits b 8 4)) (ShiftKind.ofBits (bits b 5 2)) (regOf (bits b 0 4)))
  else if bits b 21 4 = 0b1111#4 then some (.mvnRsr c (flag b 20) (regOf (bits b 16 4)) (regOf (bits b 12 4)) (regOf (bits b 8 4)) (ShiftKind.ofBits (bits b 5 2)) (regOf (bits b 0 4)))
  else none

/-- R136 row 000, outside the space with `bits[7] = bits[4] = 1`. -/
def decodeDpSpace (c : Cond) (b : Nat) : Option Instr :=
  if bits b 23 2 = 0b10#2 then
    if flag b 20 then (if flag b 4 then decodeDpRsr c b else decodeDpReg c b)
    else decodeMisc c b
  else if flag b 4 then decodeDpRsr c b
  else decodeDpReg c b

/-- R136 row 000. -/
def decodeClass0 (c : Cond) (b : Nat) : Option Instr :=
  if flag b 4 then
    if flag b 7 then
      if bits b 5 2 = 0b00#2 then decodeMultiply c b else decodeHalfword c b
    else decodeDpSpace c b
  else decodeDpSpace c b

/-- R136 row 001. -/
def decodeClass1 (c : Cond) (b : Nat) : Option Instr :=
  if bits b 23 2 = 0b10#2 then
    if flag b 20 then decodeDpImm c b
    else if bits b 20 2 = 0b10#2 then
      if bits b 12 4 = 0b1111#4 then some (.msrImm c (flag b 22) (bits b 16 4) (bits b 8 4) (bits b 0 8)) else none
    else none
  else decodeDpImm c b

/-- R136 row 010, R146 with `I = 0`; `P = 0` with `W = 1` is the user-access form. -/
def decodeTransferImm (c : Cond) (b : Nat) : Option Instr :=
  if flag b 24 then
    if flag b 22 then (if flag b 20 then some (.ldrbImm c (flag b 24) (flag b 23) (flag b 21) (regOf (bits b 16 4)) (regOf (bits b 12 4)) (bits b 0 12)) else some (.strbImm c (flag b 24) (flag b 23) (flag b 21) (regOf (bits b 16 4)) (regOf (bits b 12 4)) (bits b 0 12)))
    else (if flag b 20 then some (.ldrImm c (flag b 24) (flag b 23) (flag b 21) (regOf (bits b 16 4)) (regOf (bits b 12 4)) (bits b 0 12)) else some (.strImm c (flag b 24) (flag b 23) (flag b 21) (regOf (bits b 16 4)) (regOf (bits b 12 4)) (bits b 0 12)))
  else if flag b 21 then
    if flag b 22 then (if flag b 20 then some (.ldrbtImm c (flag b 23) (regOf (bits b 16 4)) (regOf (bits b 12 4)) (bits b 0 12)) else some (.strbtImm c (flag b 23) (regOf (bits b 16 4)) (regOf (bits b 12 4)) (bits b 0 12)))
    else (if flag b 20 then some (.ldrtImm c (flag b 23) (regOf (bits b 16 4)) (regOf (bits b 12 4)) (bits b 0 12)) else some (.strtImm c (flag b 23) (regOf (bits b 16 4)) (regOf (bits b 12 4)) (bits b 0 12)))
  else
    if flag b 22 then (if flag b 20 then some (.ldrbImm c (flag b 24) (flag b 23) (flag b 21) (regOf (bits b 16 4)) (regOf (bits b 12 4)) (bits b 0 12)) else some (.strbImm c (flag b 24) (flag b 23) (flag b 21) (regOf (bits b 16 4)) (regOf (bits b 12 4)) (bits b 0 12)))
    else (if flag b 20 then some (.ldrImm c (flag b 24) (flag b 23) (flag b 21) (regOf (bits b 16 4)) (regOf (bits b 12 4)) (bits b 0 12)) else some (.strImm c (flag b 24) (flag b 23) (flag b 21) (regOf (bits b 16 4)) (regOf (bits b 12 4)) (bits b 0 12)))

/-- R136 row 011 with `bits[4] = 0`, R146 with `I = 1`. -/
def decodeTransferReg (c : Cond) (b : Nat) : Option Instr :=
  if flag b 24 then
    if flag b 22 then (if flag b 20 then some (.ldrbReg c (flag b 24) (flag b 23) (flag b 21) (regOf (bits b 16 4)) (regOf (bits b 12 4)) (bits b 7 5) (ShiftKind.ofBits (bits b 5 2)) (regOf (bits b 0 4))) else some (.strbReg c (flag b 24) (flag b 23) (flag b 21) (regOf (bits b 16 4)) (regOf (bits b 12 4)) (bits b 7 5) (ShiftKind.ofBits (bits b 5 2)) (regOf (bits b 0 4))))
    else (if flag b 20 then some (.ldrReg c (flag b 24) (flag b 23) (flag b 21) (regOf (bits b 16 4)) (regOf (bits b 12 4)) (bits b 7 5) (ShiftKind.ofBits (bits b 5 2)) (regOf (bits b 0 4))) else some (.strReg c (flag b 24) (flag b 23) (flag b 21) (regOf (bits b 16 4)) (regOf (bits b 12 4)) (bits b 7 5) (ShiftKind.ofBits (bits b 5 2)) (regOf (bits b 0 4))))
  else if flag b 21 then
    if flag b 22 then (if flag b 20 then some (.ldrbtReg c (flag b 23) (regOf (bits b 16 4)) (regOf (bits b 12 4)) (bits b 7 5) (ShiftKind.ofBits (bits b 5 2)) (regOf (bits b 0 4))) else some (.strbtReg c (flag b 23) (regOf (bits b 16 4)) (regOf (bits b 12 4)) (bits b 7 5) (ShiftKind.ofBits (bits b 5 2)) (regOf (bits b 0 4))))
    else (if flag b 20 then some (.ldrtReg c (flag b 23) (regOf (bits b 16 4)) (regOf (bits b 12 4)) (bits b 7 5) (ShiftKind.ofBits (bits b 5 2)) (regOf (bits b 0 4))) else some (.strtReg c (flag b 23) (regOf (bits b 16 4)) (regOf (bits b 12 4)) (bits b 7 5) (ShiftKind.ofBits (bits b 5 2)) (regOf (bits b 0 4))))
  else
    if flag b 22 then (if flag b 20 then some (.ldrbReg c (flag b 24) (flag b 23) (flag b 21) (regOf (bits b 16 4)) (regOf (bits b 12 4)) (bits b 7 5) (ShiftKind.ofBits (bits b 5 2)) (regOf (bits b 0 4))) else some (.strbReg c (flag b 24) (flag b 23) (flag b 21) (regOf (bits b 16 4)) (regOf (bits b 12 4)) (bits b 7 5) (ShiftKind.ofBits (bits b 5 2)) (regOf (bits b 0 4))))
    else (if flag b 20 then some (.ldrReg c (flag b 24) (flag b 23) (flag b 21) (regOf (bits b 16 4)) (regOf (bits b 12 4)) (bits b 7 5) (ShiftKind.ofBits (bits b 5 2)) (regOf (bits b 0 4))) else some (.strReg c (flag b 24) (flag b 23) (flag b 21) (regOf (bits b 16 4)) (regOf (bits b 12 4)) (bits b 7 5) (ShiftKind.ofBits (bits b 5 2)) (regOf (bits b 0 4))))

/-- R136 row 111, R149, R150; the `WFI` word of R269 before `MCR`. -/
def decodeCoprocessor (c : Cond) (b : Nat) : Option Instr :=
  if flag b 24 then some (.swi c (bits b 0 24))
  else if flag b 4 then
    if flag b 20 then some (.mrc c (bits b 21 3) (bits b 16 4) (regOf (bits b 12 4)) (bits b 8 4) (bits b 5 3) (bits b 0 4))
    else if bits b 21 3 = 0b000#3 then
      if bits b 16 4 = 0b0111#4 then
        if bits b 8 4 = 0b1111#4 then
          if bits b 5 3 = 0b100#3 then
            if bits b 0 4 = 0b0000#4 then some (.wfi c (regOf (bits b 12 4))) else some (.mcr c (bits b 21 3) (bits b 16 4) (regOf (bits b 12 4)) (bits b 8 4) (bits b 5 3) (bits b 0 4))
          else some (.mcr c (bits b 21 3) (bits b 16 4) (regOf (bits b 12 4)) (bits b 8 4) (bits b 5 3) (bits b 0 4))
        else some (.mcr c (bits b 21 3) (bits b 16 4) (regOf (bits b 12 4)) (bits b 8 4) (bits b 5 3) (bits b 0 4))
      else some (.mcr c (bits b 21 3) (bits b 16 4) (regOf (bits b 12 4)) (bits b 8 4) (bits b 5 3) (bits b 0 4))
    else some (.mcr c (bits b 21 3) (bits b 16 4) (regOf (bits b 12 4)) (bits b 8 4) (bits b 5 3) (bits b 0 4))
  else some (.cdp c (bits b 20 4) (bits b 16 4) (bits b 12 4) (bits b 8 4) (bits b 5 3) (bits b 0 4))

/-- R136: the defined rows of the full variant, by `bits[27:25]`. `none`: no row but the last. -/
def decodeDefined (c : Cond) (b : Nat) : Option Instr :=
  if bits b 25 3 = 0b000#3 then decodeClass0 c b
  else if bits b 25 3 = 0b001#3 then decodeClass1 c b
  else if bits b 25 3 = 0b010#3 then decodeTransferImm c b
  else if bits b 25 3 = 0b011#3 then
    if flag b 4 then some (.undSpace c (bits b 5 20) (bits b 0 4)) else decodeTransferReg c b
  else if bits b 25 3 = 0b100#3 then
    if flag b 20 then some (.ldm c (flag b 24) (flag b 23) (flag b 22) (flag b 21) (regOf (bits b 16 4)) (bits b 0 16)) else some (.stm c (flag b 24) (flag b 23) (flag b 22) (flag b 21) (regOf (bits b 16 4)) (bits b 0 16))
  else if bits b 25 3 = 0b101#3 then
    if flag b 24 then some (.bl c (bits b 0 24)) else some (.b c (bits b 0 24))
  else if bits b 25 3 = 0b110#3 then
    if flag b 20 then some (.ldc c (flag b 24) (flag b 23) (flag b 22) (flag b 21) (regOf (bits b 16 4)) (bits b 12 4) (bits b 8 4) (bits b 0 8)) else some (.stc c (flag b 24) (flag b 23) (flag b 22) (flag b 21) (regOf (bits b 16 4)) (bits b 12 4) (bits b 8 4) (bits b 0 8))
  else decodeCoprocessor c b

/-- The full-variant decoder: the first row of the table that matches (R135); a word no defined row matches is the
catch-all row (R152). -/
def decodeWord (w : Word) : Instr :=
  let b := w.toNat
  let c := Cond.ofBits (bits b 28 4)
  (decodeDefined c b).getD (.undOther c (bits b 0 28))

/-! ## The decoder, compact variant -/

/-- R155 formats 1 and 2. -/
def decodeFormat1And2 (b : Nat) : Option Instr :=
  if bits b 11 2 = 0b00#2 then some (.tLslImm (bits b 6 5) (lregOf (bits b 3 3)) (lregOf (bits b 0 3)))
  else if bits b 11 2 = 0b01#2 then some (.tLsrImm (bits b 6 5) (lregOf (bits b 3 3)) (lregOf (bits b 0 3)))
  else if bits b 11 2 = 0b10#2 then some (.tAsrImm (bits b 6 5) (lregOf (bits b 3 3)) (lregOf (bits b 0 3)))
  else if flag b 10 then
    if flag b 9 then some (.tSubImm3 (bits b 6 3) (lregOf (bits b 3 3)) (lregOf (bits b 0 3))) else some (.tAddImm3 (bits b 6 3) (lregOf (bits b 3 3)) (lregOf (bits b 0 3)))
  else
    if flag b 9 then some (.tSubReg (lregOf (bits b 6 3)) (lregOf (bits b 3 3)) (lregOf (bits b 0 3))) else some (.tAddReg (lregOf (bits b 6 3)) (lregOf (bits b 3 3)) (lregOf (bits b 0 3)))

/-- R155 format 3. -/
def decodeFormat3 (b : Nat) : Option Instr :=
  if bits b 11 2 = 0b00#2 then some (.tMovImm8 (lregOf (bits b 8 3)) (bits b 0 8))
  else if bits b 11 2 = 0b01#2 then some (.tCmpImm8 (lregOf (bits b 8 3)) (bits b 0 8))
  else if bits b 11 2 = 0b10#2 then some (.tAddImm8 (lregOf (bits b 8 3)) (bits b 0 8))
  else some (.tSubImm8 (lregOf (bits b 8 3)) (bits b 0 8))

/-- R155 format 4. -/
def decodeFormat4 (b : Nat) : Option Instr :=
  if bits b 6 4 = 0b0000#4 then some (.tAnd (lregOf (bits b 3 3)) (lregOf (bits b 0 3)))
  else if bits b 6 4 = 0b0001#4 then some (.tEor (lregOf (bits b 3 3)) (lregOf (bits b 0 3)))
  else if bits b 6 4 = 0b0010#4 then some (.tLslReg (lregOf (bits b 3 3)) (lregOf (bits b 0 3)))
  else if bits b 6 4 = 0b0011#4 then some (.tLsrReg (lregOf (bits b 3 3)) (lregOf (bits b 0 3)))
  else if bits b 6 4 = 0b0100#4 then some (.tAsrReg (lregOf (bits b 3 3)) (lregOf (bits b 0 3)))
  else if bits b 6 4 = 0b0101#4 then some (.tAdc (lregOf (bits b 3 3)) (lregOf (bits b 0 3)))
  else if bits b 6 4 = 0b0110#4 then some (.tSbc (lregOf (bits b 3 3)) (lregOf (bits b 0 3)))
  else if bits b 6 4 = 0b0111#4 then some (.tRorReg (lregOf (bits b 3 3)) (lregOf (bits b 0 3)))
  else if bits b 6 4 = 0b1000#4 then some (.tTst (lregOf (bits b 3 3)) (lregOf (bits b 0 3)))
  else if bits b 6 4 = 0b1001#4 then some (.tNeg (lregOf (bits b 3 3)) (lregOf (bits b 0 3)))
  else if bits b 6 4 = 0b1010#4 then some (.tCmpReg (lregOf (bits b 3 3)) (lregOf (bits b 0 3)))
  else if bits b 6 4 = 0b1011#4 then some (.tCmn (lregOf (bits b 3 3)) (lregOf (bits b 0 3)))
  else if bits b 6 4 = 0b1100#4 then some (.tOrr (lregOf (bits b 3 3)) (lregOf (bits b 0 3)))
  else if bits b 6 4 = 0b1101#4 then some (.tMul (lregOf (bits b 3 3)) (lregOf (bits b 0 3)))
  else if bits b 6 4 = 0b1110#4 then some (.tBic (lregOf (bits b 3 3)) (lregOf (bits b 0 3)))
  else some (.tMvn (lregOf (bits b 3 3)) (lregOf (bits b 0 3)))

/-- R155 format 5; `T.BX` with `H1 = 1` is undefined (R159). -/
def decodeFormat5 (b : Nat) : Option Instr :=
  if bits b 8 2 = 0b00#2 then some (.tAddHi (regJoin (bits b 7 1) (bits b 0 3)) (regOf (bits b 3 4)))
  else if bits b 8 2 = 0b01#2 then some (.tCmpHi (regJoin (bits b 7 1) (bits b 0 3)) (regOf (bits b 3 4)))
  else if bits b 8 2 = 0b10#2 then some (.tMovHi (regJoin (bits b 7 1) (bits b 0 3)) (regOf (bits b 3 4)))
  else if flag b 7 then none
  else some (.tBx (regOf (bits b 3 4)) (bits b 0 3))

/-- R156 formats 7 and 8. -/
def decodeFormat7And8 (b : Nat) : Option Instr :=
  if flag b 9 then
    if bits b 10 2 = 0b00#2 then some (.tStrhReg (lregOf (bits b 6 3)) (lregOf (bits b 3 3)) (lregOf (bits b 0 3)))
    else if bits b 10 2 = 0b01#2 then some (.tLdsbReg (lregOf (bits b 6 3)) (lregOf (bits b 3 3)) (lregOf (bits b 0 3)))
    else if bits b 10 2 = 0b10#2 then some (.tLdrhReg (lregOf (bits b 6 3)) (lregOf (bits b 3 3)) (lregOf (bits b 0 3)))
    else some (.tLdshReg (lregOf (bits b 6 3)) (lregOf (bits b 3 3)) (lregOf (bits b 0 3)))
  else
    if bits b 10 2 = 0b00#2 then some (.tStrReg (lregOf (bits b 6 3)) (lregOf (bits b 3 3)) (lregOf (bits b 0 3)))
    else if bits b 10 2 = 0b01#2 then some (.tStrbReg (lregOf (bits b 6 3)) (lregOf (bits b 3 3)) (lregOf (bits b 0 3)))
    else if bits b 10 2 = 0b10#2 then some (.tLdrReg (lregOf (bits b 6 3)) (lregOf (bits b 3 3)) (lregOf (bits b 0 3)))
    else some (.tLdrbReg (lregOf (bits b 6 3)) (lregOf (bits b 3 3)) (lregOf (bits b 0 3)))

/-- `bits[15:13] = 010`: formats 4 to 8. -/
def decodeGroup2 (b : Nat) : Option Instr :=
  if flag b 12 then decodeFormat7And8 b
  else if flag b 11 then some (.tLdrPc (lregOf (bits b 8 3)) (bits b 0 8))
  else if flag b 10 then decodeFormat5 b
  else decodeFormat4 b

/-- R156 format 9. -/
def decodeFormat9 (b : Nat) : Option Instr :=
  if bits b 11 2 = 0b00#2 then some (.tStrImm (bits b 6 5) (lregOf (bits b 3 3)) (lregOf (bits b 0 3)))
  else if bits b 11 2 = 0b01#2 then some (.tLdrImm (bits b 6 5) (lregOf (bits b 3 3)) (lregOf (bits b 0 3)))
  else if bits b 11 2 = 0b10#2 then some (.tStrbImm (bits b 6 5) (lregOf (bits b 3 3)) (lregOf (bits b 0 3)))
  else some (.tLdrbImm (bits b 6 5) (lregOf (bits b 3 3)) (lregOf (bits b 0 3)))

/-- R156 formats 10 and 11. -/
def decodeFormat10And11 (b : Nat) : Option Instr :=
  if flag b 12 then
    if flag b 11 then some (.tLdrSp (lregOf (bits b 8 3)) (bits b 0 8)) else some (.tStrSp (lregOf (bits b 8 3)) (bits b 0 8))
  else
    if flag b 11 then some (.tLdrhImm (bits b 6 5) (lregOf (bits b 3 3)) (lregOf (bits b 0 3))) else some (.tStrhImm (bits b 6 5) (lregOf (bits b 3 3)) (lregOf (bits b 0 3)))

/-- R157 formats 12 to 14; every other word with `bits[15:12] = 1011` is undefined (R159). -/
def decodeFormat12To14 (b : Nat) : Option Instr :=
  if flag b 12 then
    if bits b 9 2 = 0b10#2 then
      if flag b 11 then some (.tPop (flag b 8) (bits b 0 8)) else some (.tPush (flag b 8) (bits b 0 8))
    else if bits b 9 2 = 0b00#2 then
      if flag b 11 then none
      else if flag b 8 then none
      else if flag b 7 then some (.tSubSpImm (bits b 0 7)) else some (.tAddSpImm (bits b 0 7))
    else none
  else
    if flag b 11 then some (.tAddSp (lregOf (bits b 8 3)) (bits b 0 8)) else some (.tAddPc (lregOf (bits b 8 3)) (bits b 0 8))

/-- R157 format 15, R158 formats 16 and 17; condition 1110 is undefined (R386). -/
def decodeFormat15To17 (b : Nat) : Option Instr :=
  if flag b 12 then
    if bits b 8 4 = 0b1111#4 then some (.tSwi (bits b 0 8))
    else if bits b 8 4 = 0b1110#4 then some (.tUndCond (bits b 0 8))
    else some (.tBcond (Cond.ofBits (bits b 8 4)) (bits b 0 8))
  else
    if flag b 11 then some (.tLdmia (lregOf (bits b 8 3)) (bits b 0 8)) else some (.tStmia (lregOf (bits b 8 3)) (bits b 0 8))

/-- R158 formats 18 and 19; `bits[15:11] = 11101` is undefined (R159). -/
def decodeFormat18And19 (b : Nat) : Option Instr :=
  if bits b 11 2 = 0b00#2 then some (.tB (bits b 0 11))
  else if bits b 11 2 = 0b01#2 then none
  else if bits b 11 2 = 0b10#2 then some (.tBlHi (bits b 0 11))
  else some (.tBlLo (bits b 0 11))

/-- R154: the defined rows of the compact variant, by `bits[15:13]`. -/
def decodeDefinedHalf (b : Nat) : Option Instr :=
  if bits b 13 3 = 0b000#3 then decodeFormat1And2 b
  else if bits b 13 3 = 0b001#3 then decodeFormat3 b
  else if bits b 13 3 = 0b010#3 then decodeGroup2 b
  else if bits b 13 3 = 0b011#3 then decodeFormat9 b
  else if bits b 13 3 = 0b100#3 then decodeFormat10And11 b
  else if bits b 13 3 = 0b101#3 then decodeFormat12To14 b
  else if bits b 13 3 = 0b110#3 then decodeFormat15To17 b
  else decodeFormat18And19 b

/-- The compact-variant decoder (R135); a word no defined row matches is the catch-all row (R159, R386). -/
def decodeHalf (h : Half) : Instr :=
  (decodeDefinedHalf h.toNat).getD (.tUndOther h)

/-! ## From bytes -/

/-- Why a byte sequence is no instruction. Only its length can be at fault: the decoder is total on opcodes (R135). -/
inductive DecodeError
  | truncated   -- fewer bytes than the variant's instruction length (R130)
deriving DecidableEq, Repr

/-- Decode the first instruction of a byte sequence, little-endian (R76, R130): four bytes when `t` is false (full
variant), two when it is true (compact variant). Answers the instruction and the bytes after it. -/
def decode (t : Bool) (bytes : List Byte) : Except DecodeError (Instr × List Byte) :=
  match t, bytes with
  | false, b0 :: b1 :: b2 :: b3 :: rest => .ok (decodeWord (b3 ++ b2 ++ b1 ++ b0), rest)
  | true, b0 :: b1 :: rest => .ok (decodeHalf (b1 ++ b0), rest)
  | _, _ => .error .truncated

/-- The little-endian bytes of the low `n` bytes of a number. -/
def leBytes : Nat → Nat → List Byte
  | 0, _ => []
  | n + 1, w => bits w 0 8 :: leBytes n (w >>> 8)

/-- The instruction the decoder reads from an instruction of the opcode table whose bits are `w`: a row of 16 bits is a
compact word, a row of 32 bits a full word. -/
def decodeTableWord (nbits w : Nat) : Option Instr :=
  let t := decide (nbits ≤ 16)
  match decode t (leBytes (if t then 2 else 4) w) with
  | .ok (i, _) => some i
  | .error _ => none

/-! ## The encoder -/

/-- The opcode of an instruction, field by field from the high bits down. -/
def encodeNat : Instr → Nat
  | .bx c rm => cat (cat (cat (cat (cat (cat (cat (cat (cat (cat 0 c.toBits) 0b000#3) 0b10#2) 0b0#1) 0b10#2) 0b1111#4) 0b1111#4) 0b1111#4) 0b0001#4) (regBits rm)
  | .wfi c rd => cat (cat (cat (cat (cat (cat (cat (cat (cat (cat (cat 0 c.toBits) 0b111#3) 0b0#1) 0b000#3) 0b0#1) 0b0111#4) (regBits rd)) 0b1111#4) 0b100#3) 0b1#1) 0b0000#4
  | .mrs c r rd => cat (cat (cat (cat (cat (cat (cat (cat (cat (cat 0 c.toBits) 0b000#3) 0b10#2) (BitVec.ofBool r)) 0b00#2) 0b1111#4) (regBits rd)) 0b0000#4) 0b0000#4) 0b0000#4
  | .msrReg c r mask rm => cat (cat (cat (cat (cat (cat (cat (cat (cat (cat 0 c.toBits) 0b000#3) 0b10#2) (BitVec.ofBool r)) 0b10#2) mask) 0b1111#4) 0b0000#4) 0b0000#4) (regBits rm)
  | .msrImm c r mask rot imm8 => cat (cat (cat (cat (cat (cat (cat (cat (cat 0 c.toBits) 0b001#3) 0b10#2) (BitVec.ofBool r)) 0b10#2) mask) 0b1111#4) rot) imm8
  | .swp c rn rd rm => cat (cat (cat (cat (cat (cat (cat (cat (cat (cat (cat (cat 0 c.toBits) 0b000#3) 0b10#2) 0b0#1) 0b00#2) (regBits rn)) (regBits rd)) 0b0000#4) 0b1#1) 0b00#2) 0b1#1) (regBits rm)
  | .swpb c rn rd rm => cat (cat (cat (cat (cat (cat (cat (cat (cat (cat (cat (cat 0 c.toBits) 0b000#3) 0b10#2) 0b1#1) 0b00#2) (regBits rn)) (regBits rd)) 0b0000#4) 0b1#1) 0b00#2) 0b1#1) (regBits rm)
  | .mul c sf rd rn rs rm => cat (cat (cat (cat (cat (cat (cat (cat (cat (cat (cat (cat (cat 0 c.toBits) 0b000#3) 0b00#2) 0b0#1) 0b0#1) (BitVec.ofBool sf)) (regBits rd)) (regBits rn)) (regBits rs)) 0b1#1) 0b00#2) 0b1#1) (regBits rm)
  | .mla c sf rd rn rs rm => cat (cat (cat (cat (cat (cat (cat (cat (cat (cat (cat (cat (cat 0 c.toBits) 0b000#3) 0b00#2) 0b0#1) 0b1#1) (BitVec.ofBool sf)) (regBits rd)) (regBits rn)) (regBits rs)) 0b1#1) 0b00#2) 0b1#1) (regBits rm)
  | .umull c sf rdHi rdLo rs rm => cat (cat (cat (cat (cat (cat (cat (cat (cat (cat (cat (cat 0 c.toBits) 0b000#3) 0b01#2) 0b00#2) (BitVec.ofBool sf)) (regBits rdHi)) (regBits rdLo)) (regBits rs)) 0b1#1) 0b00#2) 0b1#1) (regBits rm)
  | .umlal c sf rdHi rdLo rs rm => cat (cat (cat (cat (cat (cat (cat (cat (cat (cat (cat (cat 0 c.toBits) 0b000#3) 0b01#2) 0b01#2) (BitVec.ofBool sf)) (regBits rdHi)) (regBits rdLo)) (regBits rs)) 0b1#1) 0b00#2) 0b1#1) (regBits rm)
  | .smull c sf rdHi rdLo rs rm => cat (cat (cat (cat (cat (cat (cat (cat (cat (cat (cat (cat 0 c.toBits) 0b000#3) 0b01#2) 0b10#2) (BitVec.ofBool sf)) (regBits rdHi)) (regBits rdLo)) (regBits rs)) 0b1#1) 0b00#2) 0b1#1) (regBits rm)
  | .smlal c sf rdHi rdLo rs rm => cat (cat (cat (cat (cat (cat (cat (cat (cat (cat (cat (cat 0 c.toBits) 0b000#3) 0b01#2) 0b11#2) (BitVec.ofBool sf)) (regBits rdHi)) (regBits rdLo)) (regBits rs)) 0b1#1) 0b00#2) 0b1#1) (regBits rm)
  | .strhReg c p u w rn rd sbz rm => cat (cat (cat (cat (cat (cat (cat (cat (cat (cat (cat (cat (cat (cat 0 c.toBits) 0b000#3) (BitVec.ofBool p)) (BitVec.ofBool u)) 0b0#1) (BitVec.ofBool w)) 0b0#1) (regBits rn)) (regBits rd)) sbz) 0b1#1) 0b01#2) 0b1#1) (regBits rm)
  | .strhImm c p u w rn rd offH offL => cat (cat (cat (cat (cat (cat (cat (cat (cat (cat (cat (cat (cat (cat 0 c.toBits) 0b000#3) (BitVec.ofBool p)) (BitVec.ofBool u)) 0b1#1) (BitVec.ofBool w)) 0b0#1) (regBits rn)) (regBits rd)) offH) 0b1#1) 0b01#2) 0b1#1) offL
  | .ldrhReg c p u w rn rd sbz rm => cat (cat (cat (cat (cat (cat (cat (cat (cat (cat (cat (cat (cat (cat 0 c.toBits) 0b000#3) (BitVec.ofBool p)) (BitVec.ofBool u)) 0b0#1) (BitVec.ofBool w)) 0b1#1) (regBits rn)) (regBits rd)) sbz) 0b1#1) 0b01#2) 0b1#1) (regBits rm)
  | .ldrhImm c p u w rn rd offH offL => cat (cat (cat (cat (cat (cat (cat (cat (cat (cat (cat (cat (cat (cat 0 c.toBits) 0b000#3) (BitVec.ofBool p)) (BitVec.ofBool u)) 0b1#1) (BitVec.ofBool w)) 0b1#1) (regBits rn)) (regBits rd)) offH) 0b1#1) 0b01#2) 0b1#1) offL
  | .ldrsbReg c p u w rn rd sbz rm => cat (cat (cat (cat (cat (cat (cat (cat (cat (cat (cat (cat (cat (cat 0 c.toBits) 0b000#3) (BitVec.ofBool p)) (BitVec.ofBool u)) 0b0#1) (BitVec.ofBool w)) 0b1#1) (regBits rn)) (regBits rd)) sbz) 0b1#1) 0b10#2) 0b1#1) (regBits rm)
  | .ldrsbImm c p u w rn rd offH offL => cat (cat (cat (cat (cat (cat (cat (cat (cat (cat (cat (cat (cat (cat 0 c.toBits) 0b000#3) (BitVec.ofBool p)) (BitVec.ofBool u)) 0b1#1) (BitVec.ofBool w)) 0b1#1) (regBits rn)) (regBits rd)) offH) 0b1#1) 0b10#2) 0b1#1) offL
  | .ldrshReg c p u w rn rd sbz rm => cat (cat (cat (cat (cat (cat (cat (cat (cat (cat (cat (cat (cat (cat 0 c.toBits) 0b000#3) (BitVec.ofBool p)) (BitVec.ofBool u)) 0b0#1) (BitVec.ofBool w)) 0b1#1) (regBits rn)) (regBits rd)) sbz) 0b1#1) 0b11#2) 0b1#1) (regBits rm)
  | .ldrshImm c p u w rn rd offH offL => cat (cat (cat (cat (cat (cat (cat (cat (cat (cat (cat (cat (cat (cat 0 c.toBits) 0b000#3) (BitVec.ofBool p)) (BitVec.ofBool u)) 0b1#1) (BitVec.ofBool w)) 0b1#1) (regBits rn)) (regBits rd)) offH) 0b1#1) 0b11#2) 0b1#1) offL
  | .andImm c sf rn rd rot imm8 => cat (cat (cat (cat (cat (cat (cat (cat 0 c.toBits) 0b001#3) 0b0000#4) (BitVec.ofBool sf)) (regBits rn)) (regBits rd)) rot) imm8
  | .andReg c sf rn rd amt ty rm => cat (cat (cat (cat (cat (cat (cat (cat (cat (cat 0 c.toBits) 0b000#3) 0b0000#4) (BitVec.ofBool sf)) (regBits rn)) (regBits rd)) amt) ty.toBits) 0b0#1) (regBits rm)
  | .andRsr c sf rn rd rs ty rm => cat (cat (cat (cat (cat (cat (cat (cat (cat (cat (cat 0 c.toBits) 0b000#3) 0b0000#4) (BitVec.ofBool sf)) (regBits rn)) (regBits rd)) (regBits rs)) 0b0#1) ty.toBits) 0b1#1) (regBits rm)
  | .eorImm c sf rn rd rot imm8 => cat (cat (cat (cat (cat (cat (cat (cat 0 c.toBits) 0b001#3) 0b0001#4) (BitVec.ofBool sf)) (regBits rn)) (regBits rd)) rot) imm8
  | .eorReg c sf rn rd amt ty rm => cat (cat (cat (cat (cat (cat (cat (cat (cat (cat 0 c.toBits) 0b000#3) 0b0001#4) (BitVec.ofBool sf)) (regBits rn)) (regBits rd)) amt) ty.toBits) 0b0#1) (regBits rm)
  | .eorRsr c sf rn rd rs ty rm => cat (cat (cat (cat (cat (cat (cat (cat (cat (cat (cat 0 c.toBits) 0b000#3) 0b0001#4) (BitVec.ofBool sf)) (regBits rn)) (regBits rd)) (regBits rs)) 0b0#1) ty.toBits) 0b1#1) (regBits rm)
  | .subImm c sf rn rd rot imm8 => cat (cat (cat (cat (cat (cat (cat (cat 0 c.toBits) 0b001#3) 0b0010#4) (BitVec.ofBool sf)) (regBits rn)) (regBits rd)) rot) imm8
  | .subReg c sf rn rd amt ty rm => cat (cat (cat (cat (cat (cat (cat (cat (cat (cat 0 c.toBits) 0b000#3) 0b0010#4) (BitVec.ofBool sf)) (regBits rn)) (regBits rd)) amt) ty.toBits) 0b0#1) (regBits rm)
  | .subRsr c sf rn rd rs ty rm => cat (cat (cat (cat (cat (cat (cat (cat (cat (cat (cat 0 c.toBits) 0b000#3) 0b0010#4) (BitVec.ofBool sf)) (regBits rn)) (regBits rd)) (regBits rs)) 0b0#1) ty.toBits) 0b1#1) (regBits rm)
  | .rsbImm c sf rn rd rot imm8 => cat (cat (cat (cat (cat (cat (cat (cat 0 c.toBits) 0b001#3) 0b0011#4) (BitVec.ofBool sf)) (regBits rn)) (regBits rd)) rot) imm8
  | .rsbReg c sf rn rd amt ty rm => cat (cat (cat (cat (cat (cat (cat (cat (cat (cat 0 c.toBits) 0b000#3) 0b0011#4) (BitVec.ofBool sf)) (regBits rn)) (regBits rd)) amt) ty.toBits) 0b0#1) (regBits rm)
  | .rsbRsr c sf rn rd rs ty rm => cat (cat (cat (cat (cat (cat (cat (cat (cat (cat (cat 0 c.toBits) 0b000#3) 0b0011#4) (BitVec.ofBool sf)) (regBits rn)) (regBits rd)) (regBits rs)) 0b0#1) ty.toBits) 0b1#1) (regBits rm)
  | .addImm c sf rn rd rot imm8 => cat (cat (cat (cat (cat (cat (cat (cat 0 c.toBits) 0b001#3) 0b0100#4) (BitVec.ofBool sf)) (regBits rn)) (regBits rd)) rot) imm8
  | .addReg c sf rn rd amt ty rm => cat (cat (cat (cat (cat (cat (cat (cat (cat (cat 0 c.toBits) 0b000#3) 0b0100#4) (BitVec.ofBool sf)) (regBits rn)) (regBits rd)) amt) ty.toBits) 0b0#1) (regBits rm)
  | .addRsr c sf rn rd rs ty rm => cat (cat (cat (cat (cat (cat (cat (cat (cat (cat (cat 0 c.toBits) 0b000#3) 0b0100#4) (BitVec.ofBool sf)) (regBits rn)) (regBits rd)) (regBits rs)) 0b0#1) ty.toBits) 0b1#1) (regBits rm)
  | .adcImm c sf rn rd rot imm8 => cat (cat (cat (cat (cat (cat (cat (cat 0 c.toBits) 0b001#3) 0b0101#4) (BitVec.ofBool sf)) (regBits rn)) (regBits rd)) rot) imm8
  | .adcReg c sf rn rd amt ty rm => cat (cat (cat (cat (cat (cat (cat (cat (cat (cat 0 c.toBits) 0b000#3) 0b0101#4) (BitVec.ofBool sf)) (regBits rn)) (regBits rd)) amt) ty.toBits) 0b0#1) (regBits rm)
  | .adcRsr c sf rn rd rs ty rm => cat (cat (cat (cat (cat (cat (cat (cat (cat (cat (cat 0 c.toBits) 0b000#3) 0b0101#4) (BitVec.ofBool sf)) (regBits rn)) (regBits rd)) (regBits rs)) 0b0#1) ty.toBits) 0b1#1) (regBits rm)
  | .sbcImm c sf rn rd rot imm8 => cat (cat (cat (cat (cat (cat (cat (cat 0 c.toBits) 0b001#3) 0b0110#4) (BitVec.ofBool sf)) (regBits rn)) (regBits rd)) rot) imm8
  | .sbcReg c sf rn rd amt ty rm => cat (cat (cat (cat (cat (cat (cat (cat (cat (cat 0 c.toBits) 0b000#3) 0b0110#4) (BitVec.ofBool sf)) (regBits rn)) (regBits rd)) amt) ty.toBits) 0b0#1) (regBits rm)
  | .sbcRsr c sf rn rd rs ty rm => cat (cat (cat (cat (cat (cat (cat (cat (cat (cat (cat 0 c.toBits) 0b000#3) 0b0110#4) (BitVec.ofBool sf)) (regBits rn)) (regBits rd)) (regBits rs)) 0b0#1) ty.toBits) 0b1#1) (regBits rm)
  | .rscImm c sf rn rd rot imm8 => cat (cat (cat (cat (cat (cat (cat (cat 0 c.toBits) 0b001#3) 0b0111#4) (BitVec.ofBool sf)) (regBits rn)) (regBits rd)) rot) imm8
  | .rscReg c sf rn rd amt ty rm => cat (cat (cat (cat (cat (cat (cat (cat (cat (cat 0 c.toBits) 0b000#3) 0b0111#4) (BitVec.ofBool sf)) (regBits rn)) (regBits rd)) amt) ty.toBits) 0b0#1) (regBits rm)
  | .rscRsr c sf rn rd rs ty rm => cat (cat (cat (cat (cat (cat (cat (cat (cat (cat (cat 0 c.toBits) 0b000#3) 0b0111#4) (BitVec.ofBool sf)) (regBits rn)) (regBits rd)) (regBits rs)) 0b0#1) ty.toBits) 0b1#1) (regBits rm)
  | .tstImm c rn rd rot imm8 => cat (cat (cat (cat (cat (cat (cat (cat 0 c.toBits) 0b001#3) 0b1000#4) 0b1#1) (regBits rn)) (regBits rd)) rot) imm8
  | .tstReg c rn rd amt ty rm => cat (cat (cat (cat (cat (cat (cat (cat (cat (cat 0 c.toBits) 0b000#3) 0b1000#4) 0b1#1) (regBits rn)) (regBits rd)) amt) ty.toBits) 0b0#1) (regBits rm)
  | .tstRsr c rn rd rs ty rm => cat (cat (cat (cat (cat (cat (cat (cat (cat (cat (cat 0 c.toBits) 0b000#3) 0b1000#4) 0b1#1) (regBits rn)) (regBits rd)) (regBits rs)) 0b0#1) ty.toBits) 0b1#1) (regBits rm)
  | .teqImm c rn rd rot imm8 => cat (cat (cat (cat (cat (cat (cat (cat 0 c.toBits) 0b001#3) 0b1001#4) 0b1#1) (regBits rn)) (regBits rd)) rot) imm8
  | .teqReg c rn rd amt ty rm => cat (cat (cat (cat (cat (cat (cat (cat (cat (cat 0 c.toBits) 0b000#3) 0b1001#4) 0b1#1) (regBits rn)) (regBits rd)) amt) ty.toBits) 0b0#1) (regBits rm)
  | .teqRsr c rn rd rs ty rm => cat (cat (cat (cat (cat (cat (cat (cat (cat (cat (cat 0 c.toBits) 0b000#3) 0b1001#4) 0b1#1) (regBits rn)) (regBits rd)) (regBits rs)) 0b0#1) ty.toBits) 0b1#1) (regBits rm)
  | .cmpImm c rn rd rot imm8 => cat (cat (cat (cat (cat (cat (cat (cat 0 c.toBits) 0b001#3) 0b1010#4) 0b1#1) (regBits rn)) (regBits rd)) rot) imm8
  | .cmpReg c rn rd amt ty rm => cat (cat (cat (cat (cat (cat (cat (cat (cat (cat 0 c.toBits) 0b000#3) 0b1010#4) 0b1#1) (regBits rn)) (regBits rd)) amt) ty.toBits) 0b0#1) (regBits rm)
  | .cmpRsr c rn rd rs ty rm => cat (cat (cat (cat (cat (cat (cat (cat (cat (cat (cat 0 c.toBits) 0b000#3) 0b1010#4) 0b1#1) (regBits rn)) (regBits rd)) (regBits rs)) 0b0#1) ty.toBits) 0b1#1) (regBits rm)
  | .cmnImm c rn rd rot imm8 => cat (cat (cat (cat (cat (cat (cat (cat 0 c.toBits) 0b001#3) 0b1011#4) 0b1#1) (regBits rn)) (regBits rd)) rot) imm8
  | .cmnReg c rn rd amt ty rm => cat (cat (cat (cat (cat (cat (cat (cat (cat (cat 0 c.toBits) 0b000#3) 0b1011#4) 0b1#1) (regBits rn)) (regBits rd)) amt) ty.toBits) 0b0#1) (regBits rm)
  | .cmnRsr c rn rd rs ty rm => cat (cat (cat (cat (cat (cat (cat (cat (cat (cat (cat 0 c.toBits) 0b000#3) 0b1011#4) 0b1#1) (regBits rn)) (regBits rd)) (regBits rs)) 0b0#1) ty.toBits) 0b1#1) (regBits rm)
  | .orrImm c sf rn rd rot imm8 => cat (cat (cat (cat (cat (cat (cat (cat 0 c.toBits) 0b001#3) 0b1100#4) (BitVec.ofBool sf)) (regBits rn)) (regBits rd)) rot) imm8
  | .orrReg c sf rn rd amt ty rm => cat (cat (cat (cat (cat (cat (cat (cat (cat (cat 0 c.toBits) 0b000#3) 0b1100#4) (BitVec.ofBool sf)) (regBits rn)) (regBits rd)) amt) ty.toBits) 0b0#1) (regBits rm)
  | .orrRsr c sf rn rd rs ty rm => cat (cat (cat (cat (cat (cat (cat (cat (cat (cat (cat 0 c.toBits) 0b000#3) 0b1100#4) (BitVec.ofBool sf)) (regBits rn)) (regBits rd)) (regBits rs)) 0b0#1) ty.toBits) 0b1#1) (regBits rm)
  | .movImm c sf rn rd rot imm8 => cat (cat (cat (cat (cat (cat (cat (cat 0 c.toBits) 0b001#3) 0b1101#4) (BitVec.ofBool sf)) (regBits rn)) (regBits rd)) rot) imm8
  | .movReg c sf rn rd amt ty rm => cat (cat (cat (cat (cat (cat (cat (cat (cat (cat 0 c.toBits) 0b000#3) 0b1101#4) (BitVec.ofBool sf)) (regBits rn)) (regBits rd)) amt) ty.toBits) 0b0#1) (regBits rm)
  | .movRsr c sf rn rd rs ty rm => cat (cat (cat (cat (cat (cat (cat (cat (cat (cat (cat 0 c.toBits) 0b000#3) 0b1101#4) (BitVec.ofBool sf)) (regBits rn)) (regBits rd)) (regBits rs)) 0b0#1) ty.toBits) 0b1#1) (regBits rm)
  | .bicImm c sf rn rd rot imm8 => cat (cat (cat (cat (cat (cat (cat (cat 0 c.toBits) 0b001#3) 0b1110#4) (BitVec.ofBool sf)) (regBits rn)) (regBits rd)) rot) imm8
  | .bicReg c sf rn rd amt ty rm => cat (cat (cat (cat (cat (cat (cat (cat (cat (cat 0 c.toBits) 0b000#3) 0b1110#4) (BitVec.ofBool sf)) (regBits rn)) (regBits rd)) amt) ty.toBits) 0b0#1) (regBits rm)
  | .bicRsr c sf rn rd rs ty rm => cat (cat (cat (cat (cat (cat (cat (cat (cat (cat (cat 0 c.toBits) 0b000#3) 0b1110#4) (BitVec.ofBool sf)) (regBits rn)) (regBits rd)) (regBits rs)) 0b0#1) ty.toBits) 0b1#1) (regBits rm)
  | .mvnImm c sf rn rd rot imm8 => cat (cat (cat (cat (cat (cat (cat (cat 0 c.toBits) 0b001#3) 0b1111#4) (BitVec.ofBool sf)) (regBits rn)) (regBits rd)) rot) imm8
  | .mvnReg c sf rn rd amt ty rm => cat (cat (cat (cat (cat (cat (cat (cat (cat (cat 0 c.toBits) 0b000#3) 0b1111#4) (BitVec.ofBool sf)) (regBits rn)) (regBits rd)) amt) ty.toBits) 0b0#1) (regBits rm)
  | .mvnRsr c sf rn rd rs ty rm => cat (cat (cat (cat (cat (cat (cat (cat (cat (cat (cat 0 c.toBits) 0b000#3) 0b1111#4) (BitVec.ofBool sf)) (regBits rn)) (regBits rd)) (regBits rs)) 0b0#1) ty.toBits) 0b1#1) (regBits rm)
  | .ldrtImm c u rn rd imm12 => cat (cat (cat (cat (cat (cat (cat (cat (cat (cat 0 c.toBits) 0b010#3) 0b0#1) (BitVec.ofBool u)) 0b0#1) 0b1#1) 0b1#1) (regBits rn)) (regBits rd)) imm12
  | .ldrtReg c u rn rd amt ty rm => cat (cat (cat (cat (cat (cat (cat (cat (cat (cat (cat (cat (cat 0 c.toBits) 0b011#3) 0b0#1) (BitVec.ofBool u)) 0b0#1) 0b1#1) 0b1#1) (regBits rn)) (regBits rd)) amt) ty.toBits) 0b0#1) (regBits rm)
  | .strtImm c u rn rd imm12 => cat (cat (cat (cat (cat (cat (cat (cat (cat (cat 0 c.toBits) 0b010#3) 0b0#1) (BitVec.ofBool u)) 0b0#1) 0b1#1) 0b0#1) (regBits rn)) (regBits rd)) imm12
  | .strtReg c u rn rd amt ty rm => cat (cat (cat (cat (cat (cat (cat (cat (cat (cat (cat (cat (cat 0 c.toBits) 0b011#3) 0b0#1) (BitVec.ofBool u)) 0b0#1) 0b1#1) 0b0#1) (regBits rn)) (regBits rd)) amt) ty.toBits) 0b0#1) (regBits rm)
  | .ldrbtImm c u rn rd imm12 => cat (cat (cat (cat (cat (cat (cat (cat (cat (cat 0 c.toBits) 0b010#3) 0b0#1) (BitVec.ofBool u)) 0b1#1) 0b1#1) 0b1#1) (regBits rn)) (regBits rd)) imm12
  | .ldrbtReg c u rn rd amt ty rm => cat (cat (cat (cat (cat (cat (cat (cat (cat (cat (cat (cat (cat 0 c.toBits) 0b011#3) 0b0#1) (BitVec.ofBool u)) 0b1#1) 0b1#1) 0b1#1) (regBits rn)) (regBits rd)) amt) ty.toBits) 0b0#1) (regBits rm)
  | .strbtImm c u rn rd imm12 => cat (cat (cat (cat (cat (cat (cat (cat (cat (cat 0 c.toBits) 0b010#3) 0b0#1) (BitVec.ofBool u)) 0b1#1) 0b1#1) 0b0#1) (regBits rn)) (regBits rd)) imm12
  | .strbtReg c u rn rd amt ty rm => cat (cat (cat (cat (cat (cat (cat (cat (cat (cat (cat (cat (cat 0 c.toBits) 0b011#3) 0b0#1) (BitVec.ofBool u)) 0b1#1) 0b1#1) 0b0#1) (regBits rn)) (regBits rd)) amt) ty.toBits) 0b0#1) (regBits rm)
  | .ldrImm c p u w rn rd imm12 => cat (cat (cat (cat (cat (cat (cat (cat (cat (cat 0 c.toBits) 0b010#3) (BitVec.ofBool p)) (BitVec.ofBool u)) 0b0#1) (BitVec.ofBool w)) 0b1#1) (regBits rn)) (regBits rd)) imm12
  | .ldrReg c p u w rn rd amt ty rm => cat (cat (cat (cat (cat (cat (cat (cat (cat (cat (cat (cat (cat 0 c.toBits) 0b011#3) (BitVec.ofBool p)) (BitVec.ofBool u)) 0b0#1) (BitVec.ofBool w)) 0b1#1) (regBits rn)) (regBits rd)) amt) ty.toBits) 0b0#1) (regBits rm)
  | .strImm c p u w rn rd imm12 => cat (cat (cat (cat (cat (cat (cat (cat (cat (cat 0 c.toBits) 0b010#3) (BitVec.ofBool p)) (BitVec.ofBool u)) 0b0#1) (BitVec.ofBool w)) 0b0#1) (regBits rn)) (regBits rd)) imm12
  | .strReg c p u w rn rd amt ty rm => cat (cat (cat (cat (cat (cat (cat (cat (cat (cat (cat (cat (cat 0 c.toBits) 0b011#3) (BitVec.ofBool p)) (BitVec.ofBool u)) 0b0#1) (BitVec.ofBool w)) 0b0#1) (regBits rn)) (regBits rd)) amt) ty.toBits) 0b0#1) (regBits rm)
  | .ldrbImm c p u w rn rd imm12 => cat (cat (cat (cat (cat (cat (cat (cat (cat (cat 0 c.toBits) 0b010#3) (BitVec.ofBool p)) (BitVec.ofBool u)) 0b1#1) (BitVec.ofBool w)) 0b1#1) (regBits rn)) (regBits rd)) imm12
  | .ldrbReg c p u w rn rd amt ty rm => cat (cat (cat (cat (cat (cat (cat (cat (cat (cat (cat (cat (cat 0 c.toBits) 0b011#3) (BitVec.ofBool p)) (BitVec.ofBool u)) 0b1#1) (BitVec.ofBool w)) 0b1#1) (regBits rn)) (regBits rd)) amt) ty.toBits) 0b0#1) (regBits rm)
  | .strbImm c p u w rn rd imm12 => cat (cat (cat (cat (cat (cat (cat (cat (cat (cat 0 c.toBits) 0b010#3) (BitVec.ofBool p)) (BitVec.ofBool u)) 0b1#1) (BitVec.ofBool w)) 0b0#1) (regBits rn)) (regBits rd)) imm12
  | .strbReg c p u w rn rd amt ty rm => cat (cat (cat (cat (cat (cat (cat (cat (cat (cat (cat (cat (cat 0 c.toBits) 0b011#3) (BitVec.ofBool p)) (BitVec.ofBool u)) 0b1#1) (BitVec.ofBool w)) 0b0#1) (regBits rn)) (regBits rd)) amt) ty.toBits) 0b0#1) (regBits rm)
  | .undSpace c hi lo => cat (cat (cat (cat (cat 0 c.toBits) 0b011#3) hi) 0b1#1) lo
  | .ldm c p u sf w rn list => cat (cat (cat (cat (cat (cat (cat (cat (cat 0 c.toBits) 0b100#3) (BitVec.ofBool p)) (BitVec.ofBool u)) (BitVec.ofBool sf)) (BitVec.ofBool w)) 0b1#1) (regBits rn)) list
  | .stm c p u sf w rn list => cat (cat (cat (cat (cat (cat (cat (cat (cat 0 c.toBits) 0b100#3) (BitVec.ofBool p)) (BitVec.ofBool u)) (BitVec.ofBool sf)) (BitVec.ofBool w)) 0b0#1) (regBits rn)) list
  | .b c imm24 => cat (cat (cat (cat 0 c.toBits) 0b101#3) 0b0#1) imm24
  | .bl c imm24 => cat (cat (cat (cat 0 c.toBits) 0b101#3) 0b1#1) imm24
  | .swi c comment => cat (cat (cat (cat 0 c.toBits) 0b111#3) 0b1#1) comment
  | .cdp c opc1 crn crd cp opc2 crm => cat (cat (cat (cat (cat (cat (cat (cat (cat (cat 0 c.toBits) 0b111#3) 0b0#1) opc1) crn) crd) cp) opc2) 0b0#1) crm
  | .mcr c opc1 crn rd cp opc2 crm => cat (cat (cat (cat (cat (cat (cat (cat (cat (cat (cat 0 c.toBits) 0b111#3) 0b0#1) opc1) 0b0#1) crn) (regBits rd)) cp) opc2) 0b1#1) crm
  | .mrc c opc1 crn rd cp opc2 crm => cat (cat (cat (cat (cat (cat (cat (cat (cat (cat (cat 0 c.toBits) 0b111#3) 0b0#1) opc1) 0b1#1) crn) (regBits rd)) cp) opc2) 0b1#1) crm
  | .ldc c p u n w rn crd cp imm8 => cat (cat (cat (cat (cat (cat (cat (cat (cat (cat (cat 0 c.toBits) 0b110#3) (BitVec.ofBool p)) (BitVec.ofBool u)) (BitVec.ofBool n)) (BitVec.ofBool w)) 0b1#1) (regBits rn)) crd) cp) imm8
  | .stc c p u n w rn crd cp imm8 => cat (cat (cat (cat (cat (cat (cat (cat (cat (cat (cat 0 c.toBits) 0b110#3) (BitVec.ofBool p)) (BitVec.ofBool u)) (BitVec.ofBool n)) (BitVec.ofBool w)) 0b0#1) (regBits rn)) crd) cp) imm8
  | .undOther c body => cat (cat 0 c.toBits) body
  | .tLslImm imm5 rs rd => cat (cat (cat (cat (cat 0 0b000#3) 0b00#2) imm5) (lregBits rs)) (lregBits rd)
  | .tLsrImm imm5 rs rd => cat (cat (cat (cat (cat 0 0b000#3) 0b01#2) imm5) (lregBits rs)) (lregBits rd)
  | .tAsrImm imm5 rs rd => cat (cat (cat (cat (cat 0 0b000#3) 0b10#2) imm5) (lregBits rs)) (lregBits rd)
  | .tAddReg rn rs rd => cat (cat (cat (cat (cat (cat (cat 0 0b000#3) 0b11#2) 0b0#1) 0b0#1) (lregBits rn)) (lregBits rs)) (lregBits rd)
  | .tSubReg rn rs rd => cat (cat (cat (cat (cat (cat (cat 0 0b000#3) 0b11#2) 0b0#1) 0b1#1) (lregBits rn)) (lregBits rs)) (lregBits rd)
  | .tAddImm3 imm3 rs rd => cat (cat (cat (cat (cat (cat (cat 0 0b000#3) 0b11#2) 0b1#1) 0b0#1) imm3) (lregBits rs)) (lregBits rd)
  | .tSubImm3 imm3 rs rd => cat (cat (cat (cat (cat (cat (cat 0 0b000#3) 0b11#2) 0b1#1) 0b1#1) imm3) (lregBits rs)) (lregBits rd)
  | .tMovImm8 rd imm8 => cat (cat (cat (cat 0 0b001#3) 0b00#2) (lregBits rd)) imm8
  | .tCmpImm8 rd imm8 => cat (cat (cat (cat 0 0b001#3) 0b01#2) (lregBits rd)) imm8
  | .tAddImm8 rd imm8 => cat (cat (cat (cat 0 0b001#3) 0b10#2) (lregBits rd)) imm8
  | .tSubImm8 rd imm8 => cat (cat (cat (cat 0 0b001#3) 0b11#2) (lregBits rd)) imm8
  | .tAnd rs rd => cat (cat (cat (cat (cat (cat (cat 0 0b010#3) 0b0#1) 0b0#1) 0b0#1) 0b0000#4) (lregBits rs)) (lregBits rd)
  | .tEor rs rd => cat (cat (cat (cat (cat (cat (cat 0 0b010#3) 0b0#1) 0b0#1) 0b0#1) 0b0001#4) (lregBits rs)) (lregBits rd)
  | .tLslReg rs rd => cat (cat (cat (cat (cat (cat (cat 0 0b010#3) 0b0#1) 0b0#1) 0b0#1) 0b0010#4) (lregBits rs)) (lregBits rd)
  | .tLsrReg rs rd => cat (cat (cat (cat (cat (cat (cat 0 0b010#3) 0b0#1) 0b0#1) 0b0#1) 0b0011#4) (lregBits rs)) (lregBits rd)
  | .tAsrReg rs rd => cat (cat (cat (cat (cat (cat (cat 0 0b010#3) 0b0#1) 0b0#1) 0b0#1) 0b0100#4) (lregBits rs)) (lregBits rd)
  | .tAdc rs rd => cat (cat (cat (cat (cat (cat (cat 0 0b010#3) 0b0#1) 0b0#1) 0b0#1) 0b0101#4) (lregBits rs)) (lregBits rd)
  | .tSbc rs rd => cat (cat (cat (cat (cat (cat (cat 0 0b010#3) 0b0#1) 0b0#1) 0b0#1) 0b0110#4) (lregBits rs)) (lregBits rd)
  | .tRorReg rs rd => cat (cat (cat (cat (cat (cat (cat 0 0b010#3) 0b0#1) 0b0#1) 0b0#1) 0b0111#4) (lregBits rs)) (lregBits rd)
  | .tTst rs rd => cat (cat (cat (cat (cat (cat (cat 0 0b010#3) 0b0#1) 0b0#1) 0b0#1) 0b1000#4) (lregBits rs)) (lregBits rd)
  | .tNeg rs rd => cat (cat (cat (cat (cat (cat (cat 0 0b010#3) 0b0#1) 0b0#1) 0b0#1) 0b1001#4) (lregBits rs)) (lregBits rd)
  | .tCmpReg rs rd => cat (cat (cat (cat (cat (cat (cat 0 0b010#3) 0b0#1) 0b0#1) 0b0#1) 0b1010#4) (lregBits rs)) (lregBits rd)
  | .tCmn rs rd => cat (cat (cat (cat (cat (cat (cat 0 0b010#3) 0b0#1) 0b0#1) 0b0#1) 0b1011#4) (lregBits rs)) (lregBits rd)
  | .tOrr rs rd => cat (cat (cat (cat (cat (cat (cat 0 0b010#3) 0b0#1) 0b0#1) 0b0#1) 0b1100#4) (lregBits rs)) (lregBits rd)
  | .tMul rs rd => cat (cat (cat (cat (cat (cat (cat 0 0b010#3) 0b0#1) 0b0#1) 0b0#1) 0b1101#4) (lregBits rs)) (lregBits rd)
  | .tBic rs rd => cat (cat (cat (cat (cat (cat (cat 0 0b010#3) 0b0#1) 0b0#1) 0b0#1) 0b1110#4) (lregBits rs)) (lregBits rd)
  | .tMvn rs rd => cat (cat (cat (cat (cat (cat (cat 0 0b010#3) 0b0#1) 0b0#1) 0b0#1) 0b1111#4) (lregBits rs)) (lregBits rd)
  | .tAddHi rd rs => cat (cat (cat (cat (cat (cat (cat (cat 0 0b010#3) 0b0#1) 0b0#1) 0b1#1) 0b00#2) (regHigh rd)) (regBits rs)) (regLow rd)
  | .tCmpHi rd rs => cat (cat (cat (cat (cat (cat (cat (cat 0 0b010#3) 0b0#1) 0b0#1) 0b1#1) 0b01#2) (regHigh rd)) (regBits rs)) (regLow rd)
  | .tMovHi rd rs => cat (cat (cat (cat (cat (cat (cat (cat 0 0b010#3) 0b0#1) 0b0#1) 0b1#1) 0b10#2) (regHigh rd)) (regBits rs)) (regLow rd)
  | .tBx rs sbz => cat (cat (cat (cat (cat (cat (cat (cat 0 0b010#3) 0b0#1) 0b0#1) 0b1#1) 0b11#2) 0b0#1) (regBits rs)) sbz
  | .tLdrPc rd imm8 => cat (cat (cat (cat (cat 0 0b010#3) 0b0#1) 0b1#1) (lregBits rd)) imm8
  | .tStrReg ro rb rd => cat (cat (cat (cat (cat (cat (cat 0 0b010#3) 0b1#1) 0b00#2) 0b0#1) (lregBits ro)) (lregBits rb)) (lregBits rd)
  | .tStrbReg ro rb rd => cat (cat (cat (cat (cat (cat (cat 0 0b010#3) 0b1#1) 0b01#2) 0b0#1) (lregBits ro)) (lregBits rb)) (lregBits rd)
  | .tLdrReg ro rb rd => cat (cat (cat (cat (cat (cat (cat 0 0b010#3) 0b1#1) 0b10#2) 0b0#1) (lregBits ro)) (lregBits rb)) (lregBits rd)
  | .tLdrbReg ro rb rd => cat (cat (cat (cat (cat (cat (cat 0 0b010#3) 0b1#1) 0b11#2) 0b0#1) (lregBits ro)) (lregBits rb)) (lregBits rd)
  | .tStrhReg ro rb rd => cat (cat (cat (cat (cat (cat (cat 0 0b010#3) 0b1#1) 0b00#2) 0b1#1) (lregBits ro)) (lregBits rb)) (lregBits rd)
  | .tLdsbReg ro rb rd => cat (cat (cat (cat (cat (cat (cat 0 0b010#3) 0b1#1) 0b01#2) 0b1#1) (lregBits ro)) (lregBits rb)) (lregBits rd)
  | .tLdrhReg ro rb rd => cat (cat (cat (cat (cat (cat (cat 0 0b010#3) 0b1#1) 0b10#2) 0b1#1) (lregBits ro)) (lregBits rb)) (lregBits rd)
  | .tLdshReg ro rb rd => cat (cat (cat (cat (cat (cat (cat 0 0b010#3) 0b1#1) 0b11#2) 0b1#1) (lregBits ro)) (lregBits rb)) (lregBits rd)
  | .tStrImm imm5 rb rd => cat (cat (cat (cat (cat 0 0b011#3) 0b00#2) imm5) (lregBits rb)) (lregBits rd)
  | .tLdrImm imm5 rb rd => cat (cat (cat (cat (cat 0 0b011#3) 0b01#2) imm5) (lregBits rb)) (lregBits rd)
  | .tStrbImm imm5 rb rd => cat (cat (cat (cat (cat 0 0b011#3) 0b10#2) imm5) (lregBits rb)) (lregBits rd)
  | .tLdrbImm imm5 rb rd => cat (cat (cat (cat (cat 0 0b011#3) 0b11#2) imm5) (lregBits rb)) (lregBits rd)
  | .tStrhImm imm5 rb rd => cat (cat (cat (cat (cat (cat 0 0b100#3) 0b0#1) 0b0#1) imm5) (lregBits rb)) (lregBits rd)
  | .tLdrhImm imm5 rb rd => cat (cat (cat (cat (cat (cat 0 0b100#3) 0b0#1) 0b1#1) imm5) (lregBits rb)) (lregBits rd)
  | .tStrSp rd imm8 => cat (cat (cat (cat (cat 0 0b100#3) 0b1#1) 0b0#1) (lregBits rd)) imm8
  | .tLdrSp rd imm8 => cat (cat (cat (cat (cat 0 0b100#3) 0b1#1) 0b1#1) (lregBits rd)) imm8
  | .tAddPc rd imm8 => cat (cat (cat (cat (cat 0 0b101#3) 0b0#1) 0b0#1) (lregBits rd)) imm8
  | .tAddSp rd imm8 => cat (cat (cat (cat (cat 0 0b101#3) 0b0#1) 0b1#1) (lregBits rd)) imm8
  | .tAddSpImm imm7 => cat (cat (cat (cat (cat 0 0b101#3) 0b1#1) 0b0000#4) 0b0#1) imm7
  | .tSubSpImm imm7 => cat (cat (cat (cat (cat 0 0b101#3) 0b1#1) 0b0000#4) 0b1#1) imm7
  | .tPush r rlist => cat (cat (cat (cat (cat (cat 0 0b101#3) 0b1#1) 0b0#1) 0b10#2) (BitVec.ofBool r)) rlist
  | .tPop r rlist => cat (cat (cat (cat (cat (cat 0 0b101#3) 0b1#1) 0b1#1) 0b10#2) (BitVec.ofBool r)) rlist
  | .tStmia rb rlist => cat (cat (cat (cat (cat 0 0b110#3) 0b0#1) 0b0#1) (lregBits rb)) rlist
  | .tLdmia rb rlist => cat (cat (cat (cat (cat 0 0b110#3) 0b0#1) 0b1#1) (lregBits rb)) rlist
  | .tSwi comment => cat (cat (cat (cat 0 0b110#3) 0b1#1) 0b1111#4) comment
  | .tUndCond comment => cat (cat (cat (cat 0 0b110#3) 0b1#1) 0b1110#4) comment
  | .tBcond c imm8 => cat (cat (cat (cat 0 0b110#3) 0b1#1) c.toBits) imm8
  | .tB imm11 => cat (cat (cat 0 0b111#3) 0b00#2) imm11
  | .tBlHi imm11 => cat (cat (cat 0 0b111#3) 0b10#2) imm11
  | .tBlLo imm11 => cat (cat (cat 0 0b111#3) 0b11#2) imm11
  | .tUndOther word => cat 0 word

/-- Whether an instruction belongs to the compact variant (R130). -/
def Instr.isCompact : Instr → Bool
  | .bx .. => false
  | .wfi .. => false
  | .mrs .. => false
  | .msrReg .. => false
  | .msrImm .. => false
  | .swp .. => false
  | .swpb .. => false
  | .mul .. => false
  | .mla .. => false
  | .umull .. => false
  | .umlal .. => false
  | .smull .. => false
  | .smlal .. => false
  | .strhReg .. => false
  | .strhImm .. => false
  | .ldrhReg .. => false
  | .ldrhImm .. => false
  | .ldrsbReg .. => false
  | .ldrsbImm .. => false
  | .ldrshReg .. => false
  | .ldrshImm .. => false
  | .andImm .. => false
  | .andReg .. => false
  | .andRsr .. => false
  | .eorImm .. => false
  | .eorReg .. => false
  | .eorRsr .. => false
  | .subImm .. => false
  | .subReg .. => false
  | .subRsr .. => false
  | .rsbImm .. => false
  | .rsbReg .. => false
  | .rsbRsr .. => false
  | .addImm .. => false
  | .addReg .. => false
  | .addRsr .. => false
  | .adcImm .. => false
  | .adcReg .. => false
  | .adcRsr .. => false
  | .sbcImm .. => false
  | .sbcReg .. => false
  | .sbcRsr .. => false
  | .rscImm .. => false
  | .rscReg .. => false
  | .rscRsr .. => false
  | .tstImm .. => false
  | .tstReg .. => false
  | .tstRsr .. => false
  | .teqImm .. => false
  | .teqReg .. => false
  | .teqRsr .. => false
  | .cmpImm .. => false
  | .cmpReg .. => false
  | .cmpRsr .. => false
  | .cmnImm .. => false
  | .cmnReg .. => false
  | .cmnRsr .. => false
  | .orrImm .. => false
  | .orrReg .. => false
  | .orrRsr .. => false
  | .movImm .. => false
  | .movReg .. => false
  | .movRsr .. => false
  | .bicImm .. => false
  | .bicReg .. => false
  | .bicRsr .. => false
  | .mvnImm .. => false
  | .mvnReg .. => false
  | .mvnRsr .. => false
  | .ldrtImm .. => false
  | .ldrtReg .. => false
  | .strtImm .. => false
  | .strtReg .. => false
  | .ldrbtImm .. => false
  | .ldrbtReg .. => false
  | .strbtImm .. => false
  | .strbtReg .. => false
  | .ldrImm .. => false
  | .ldrReg .. => false
  | .strImm .. => false
  | .strReg .. => false
  | .ldrbImm .. => false
  | .ldrbReg .. => false
  | .strbImm .. => false
  | .strbReg .. => false
  | .undSpace .. => false
  | .ldm .. => false
  | .stm .. => false
  | .b .. => false
  | .bl .. => false
  | .swi .. => false
  | .cdp .. => false
  | .mcr .. => false
  | .mrc .. => false
  | .ldc .. => false
  | .stc .. => false
  | .undOther .. => false
  | .tLslImm .. => true
  | .tLsrImm .. => true
  | .tAsrImm .. => true
  | .tAddReg .. => true
  | .tSubReg .. => true
  | .tAddImm3 .. => true
  | .tSubImm3 .. => true
  | .tMovImm8 .. => true
  | .tCmpImm8 .. => true
  | .tAddImm8 .. => true
  | .tSubImm8 .. => true
  | .tAnd .. => true
  | .tEor .. => true
  | .tLslReg .. => true
  | .tLsrReg .. => true
  | .tAsrReg .. => true
  | .tAdc .. => true
  | .tSbc .. => true
  | .tRorReg .. => true
  | .tTst .. => true
  | .tNeg .. => true
  | .tCmpReg .. => true
  | .tCmn .. => true
  | .tOrr .. => true
  | .tMul .. => true
  | .tBic .. => true
  | .tMvn .. => true
  | .tAddHi .. => true
  | .tCmpHi .. => true
  | .tMovHi .. => true
  | .tBx .. => true
  | .tLdrPc .. => true
  | .tStrReg .. => true
  | .tStrbReg .. => true
  | .tLdrReg .. => true
  | .tLdrbReg .. => true
  | .tStrhReg .. => true
  | .tLdsbReg .. => true
  | .tLdrhReg .. => true
  | .tLdshReg .. => true
  | .tStrImm .. => true
  | .tLdrImm .. => true
  | .tStrbImm .. => true
  | .tLdrbImm .. => true
  | .tStrhImm .. => true
  | .tLdrhImm .. => true
  | .tStrSp .. => true
  | .tLdrSp .. => true
  | .tAddPc .. => true
  | .tAddSp .. => true
  | .tAddSpImm .. => true
  | .tSubSpImm .. => true
  | .tPush .. => true
  | .tPop .. => true
  | .tStmia .. => true
  | .tLdmia .. => true
  | .tSwi .. => true
  | .tUndCond .. => true
  | .tBcond .. => true
  | .tB .. => true
  | .tBlHi .. => true
  | .tBlLo .. => true
  | .tUndOther .. => true

/-- The full-variant opcode of an instruction. -/
def encodeWord (i : Instr) : Word := BitVec.ofNat 32 (encodeNat i)

/-- The compact-variant opcode of an instruction. -/
def encodeHalf (i : Instr) : Half := BitVec.ofNat 16 (encodeNat i)

/-- The words of an instruction: its bytes as the hardware stores them (R76). -/
def encode (i : Instr) : List Byte := leBytes (if i.isCompact then 2 else 4) (encodeNat i)

end Sys2Proof
end

