-- ==== Sys2Proof/Machine/Scheduler.lean ====
section
/-! DEFINITION. The Scheduler: advancing the devices (R465, R471), which core runs next (R472), whether an interrupt is
deliverable (R420), the cost function (R569), the time of a halted core (R473), the fetch (R132, R561). Step.lean puts
them together. -/

namespace Sys2Proof.Machine

/-! ## Advancing the devices -/

/-- An entry among entries by due cycle: after those due no later than it (R462, R463). -/
def insertTick (t : Tick) : List Tick → List Tick
  | [] => [t]
  | u :: rest => if t.due < u.due then t :: u :: rest else u :: insertTick t rest

/-- Entries by due cycle, on a tie in the order of their insertion (R462, R463). -/
def sortTicks (l : List Tick) : List Tick := l.foldl (fun sorted t => insertTick t sorted) []

/-- Fire the stored entries due by cycle `T`, the earlier due first, on a tie in insertion order (R462, R463, R465;
log 10). -/
def State.fireTicks (s : State) (T : Nat) : State :=
  let due := sortTicks (s.sched.ticks.filter fun t => decide (t.due ≤ T))
  let s := s.setSched { s.sched with ticks := s.sched.ticks.filter fun t => decide (T < t.due) }
  due.foldl (fun s t => (s.callback (.tick t.id)).2) s

/-- `emit` (R471): notify the renderer, which may answer with calls. What it reads of memory at a signal (R119) is no Bus
access: no cost, and the remembered region stays. DESIGN CHOICE (log 29). -/
def State.emit (s : State) (x : Signal) : State := (s.callback (.signal x)).2

/-- The middle of a line (R471). -/
def State.hblank (s : State) : State :=
  let line := s.sched.line
  let s := s.emit (.hblankStart line)
  if line < s.par.vblankLine then s.checkHBlank else s

/-- The end of a line (R471). -/
def State.endOfLine (s : State) : State :=
  let line := (s.sched.line + 1) % s.par.linesPerFrame
  let s := (s.setSched { s.sched with dot := 0, line := line }).emit (.scanlineBoundary line)
  let s := if line = s.par.vblankLine then s.checkVBlank else s
  if line = 0 then s.emit .frameBoundary else s

/-- The scanline position by one cycle (R471). -/
def State.scanline (s : State) : State :=
  let dot := s.sched.dot + 1
  let s := s.setSched { s.sched with dot := dot }
  let s := if dot = s.par.hblankStart then s.hblank else s
  if dot = s.par.lineCycles then s.endOfLine else s

/-- One cycle of `advance_to` (R465): peripheral ticks, signals, timers. What they call back stands at this cycle, so
that nothing is scheduled before it (R462). -/
def State.advanceOne (s : State) : State :=
  let T := s.sched.devNow + 1
  (((s.setSched { s.sched with devNow := T }).fireTicks T).scanline).tickTimers

/-- An operation `n` times over. -/
def repeated {α : Type} (f : α → α) : Nat → α → α
  | 0, a => a
  | n + 1, a => repeated f n (f a)

/-- `n` cycles of `advance_to`. -/
def State.advanceBy (s : State) (n : Nat) : State := repeated State.advanceOne n s

/-- `advance_to(target)` (R465): nothing if the devices are there already. -/
def State.advanceTo (s : State) (target : Nat) : State := s.advanceBy (target - s.sched.devNow)

/-! ## Which core, and when -/

/-- The core to run next (R472): the smallest local time, on a tie the lower index. -/
def State.select (s : State) : State :=
  match s.other with
  | none => s
  | some o =>
    if o.time < s.core.time ∨ (o.time = s.core.time ∧ o.index < s.core.index) then
      { s with core := o, other := some s.core }
    else s

/-- `CLK_PERIOD[c]` of the selected core (R10). -/
def State.clk (s : State) : Nat := if s.core.index = 0 then s.par.clk0 else s.par.clk1

/-- The start of an iteration (R467): select, `now <- t[c]`, a fresh report. -/
def State.begin (s : State) : State :=
  let s := s.select
  { s with sched := { s.sched with now := s.core.time }, report := { cost := 0, raised := false, touched := false } }

/-- The timing cost function, a parameter of the machine (R569, D27). It is told the state at the checkpoint and the
state the work left, which together say all that happened. DESIGN CHOICE (log 35). -/
structure CostFunction where
  /-- The cost of an instruction or of an interrupt entry, in cycles of the core (R560). -/
  step : State → State → Nat
  /-- The cost of a DMA transfer, in global cycles (R513). -/
  transfer : State → State → Nat

/-- The default cost function: the sum of R560 as the operations charged it, by the tables of R96, R513 and R563. -/
def tableCost : CostFunction where
  step _ t := t.report.cost
  transfer _ t := t.report.cost

/-- The end of a step of the core (R467, R560): `k` cycles of the core move its time. -/
def State.settleBy (s : State) (k : Nat) : State :=
  { s with core := { s.core with time := s.core.time + k * s.clk }, report := { s.report with cost := 0 } }

/-- The end of a step under the default cost function. -/
def State.settle (s : State) : State := s.settleBy s.report.cost

/-- Move a core's time to the end of a transfer (R467, R474). -/
def Core.waitUntil (c : Core) (t : Nat) : Core := { c with time := max c.time t }

/-- The end of a DMA transfer (R467): `k` global cycles move every core's time (log 12). -/
def State.settleDmaBy (s : State) (k : Nat) : State :=
  let t := s.sched.now + k
  { s with core := s.core.waitUntil t, other := s.other.map fun c => c.waitUntil t,
           report := { s.report with cost := 0 } }

/-- `deliverable(c)` (R420). -/
def State.deliverable (s : State) : Bool :=
  (s.irq.enable &&& s.irq.pending != 0) && s.irq.master && !s.core.cpsr.i

/-- The start of interrupt delivery (R447, R467, R567): the core leaves the halted state, its next fetch proposed N; the
refill of the entry that follows proposes it S again. DEDUCED (log 33). -/
def State.wake (s : State) : State := if s.core.halted then (s.setHalted false).setSeq false else s

/-- The next signal of R471 after the devices' cycle. R10 does not order `HBLANK_START` and `LINE_CYCLES`: an HBlank
start that no cycle of the line reaches gives no signal, and the end of the line comes next. DEDUCED (log 36). -/
def State.nextSignal (s : State) : Nat :=
  s.sched.devNow +
    (if s.sched.dot < s.par.hblankStart ∧ s.par.hblankStart ≤ s.par.lineCycles then s.par.hblankStart - s.sched.dot
     else s.par.lineCycles - s.sched.dot)

/-- `run_until_next_event()` (R466): the earliest stored or derived entry. -/
def State.nextEvent (s : State) : Nat :=
  let e := (s.sched.ticks.map fun t => t.due).foldl min s.nextSignal
  [0, 1, 2, 3].foldl (fun e t => if s.countsCycles t then min e (s.nextOverflow t) else e) e

/-- The time of a halted core that has no deliverable interrupt (R473). -/
def State.haltedTime (s : State) : Nat :=
  let bound := match s.other with
    | none => s.nextEvent
    | some o => if o.halted then s.nextEvent else min s.nextEvent (o.time + 1)
  max (s.core.time + 1) bound

/-! ## Fetch and decode -/

/-- The fetch (R132, R561): one opcode-width read at `pc`, sequential when `seq` says so; the next one is sequential. -/
def State.fetch (s : State) : Word × State :=
  let (v, s) := s.busRead (s.width.align s.pc) s.width (if s.core.seq then .s else .n)
  (v, s.setSeq true)

/-- The instruction of an opcode in the current variant (R131). -/
def State.decodeOpcode (s : State) (v : Word) : Instr :=
  if s.core.cpsr.t then decodeHalf (v.extractLsb' 0 16) else decodeWord v

/-- Where the byte at an address is kept, if it is storage (R74). -/
def State.cell (s : State) (a : Word) : Option Nat :=
  match lookup s.par.regions a with
  | none => none
  | some r => if r.offset a < r.backing then some (r.store + r.offset a) else none

end Sys2Proof.Machine
end

