-- ==== Sys2Proof/Machine/HostOps.lean ====
section
/-! DEFINITION. What the host does to the machine between two steps: reset, soft reset, fast boot (R540 to R546), the
loader's images (R53, R530), a collaborator's answers (R531). No step calls these. -/

namespace Sys2Proof.Machine

/-- The two kinds of reset (R540, R543). -/
inductive ResetKind
  | powerOn | soft
deriving DecidableEq, Repr

/-- Whether a memory cell belongs to the backing storage of a region. -/
def Region.owns (r : Region) (cell : Nat) : Bool := decide (r.store ≤ cell) && decide (cell < r.store + r.backing)

/-- The cells left after every RAM region lost its content (R540). -/
def dropRam (regions : List Region) (m : List Host.Cell) : List Host.Cell :=
  m.filter fun c => !(regions.any fun r => r.ram && r.owns c.1)

/-- Whether a memory cell belongs to EWRAM or IWRAM. -/
def inWork (regions : List Region) (cell : Nat) : Bool :=
  regions.any fun r => (r.name = .ewram || r.name = .iwram) && r.owns cell

/-- The cells left after EWRAM and IWRAM are cleared (R546). -/
def clearWork (regions : List Region) (m : List Host.Cell) : List Host.Cell :=
  m.filter fun c => !inWork regions c.1

/-- What `FastBootState` puts in one core (R546). -/
def FastBoot.core (f : FastBoot) (k : Nat) : Core :=
  { Core.reset k with regs := f.regs, cpsr := f.cpsr, spsrs := f.spsrs, seq := f.seq, halted := f.halted }

/-- What `FastBootState` makes of memory (R546): work RAM holds the bytes of `work`, zero elsewhere. -/
def FastBoot.memory (f : FastBoot) (regions : List Region) (m : List Host.Cell) : List Host.Cell :=
  (f.work.filter fun c => inWork regions c.1).foldl (fun m c => Memory.write m c.1 c.2) (clearWork regions m)

/-- The fast boot (R545, R546), written over a machine just reset. -/
def State.fastBoot (s : State) : State :=
  let f := s.par.fastBoot
  { s with
    core := f.core 0, other := s.other.map fun _ => f.core 1, mem := f.memory s.par.regions s.mem,
    irq := f.irq, timers := f.timers, dma := f.dma, waitcnt := f.waitcnt, postFlag := f.postFlag }

/-- The reset operation (R540 to R546), applied between two steps (R541). The parameters, the second core's presence,
the images and the interface to the collaborators stay. -/
def State.resetMachine (s : State) (kind : ResetKind) (fastBoot : Bool) : State :=
  let r := { State.reset with
    par := s.par, other := s.other.map fun _ => Core.reset 1,
    mem := if kind = .powerOn then dropRam s.par.regions s.mem else s.mem,
    answers := s.answers, outbox := s.outbox, draws := s.draws }
  if fastBoot then r.fastBoot else r

/-- The loader's part (R53, R530): bytes of an image at rising addresses, read-only regions included. -/
def State.loadImage (s : State) : Word → List Byte → State
  | _, [] => s
  | a, b :: rest =>
    (match s.cell a with
      | none => s
      | some c => s.setMem (Memory.write s.mem c b)).loadImage (a + 1) rest

/-- Attach the answers the collaborators will give (R531). -/
def State.attach (s : State) (answers : List Answer) : State := s.setAnswers (s.answers ++ answers)

/-- The dual-CPU variant (R452): a second core, at reset like the first. -/
def State.addCore (s : State) : State := { s with other := some (Core.reset 1) }

end Sys2Proof.Machine
end

