-- ==== Sys2Proof/Machine/Step.lean ====
section
/-! DEFINITION. The step of the whole machine: one iteration of the main loop of R467, under
a cost function of choice (R569) and under the default one. -/

namespace Sys2Proof.Machine

/-- One instruction of the selected core (R132, R467): fetch, decode by the variant, execute, charge. -/
def runInstruction (cost : CostFunction) (s : State) : Host.Outcome State Fault Refusal :=
  match exec (s.fetch.2.decodeOpcode s.fetch.1) s.fetch.2 with
  | .next t => .next (t.settleBy (cost.step s t))
  | .fault f => .fault f
  | .refused r => .refused r

/-- The checkpoint and what follows it (R467), the devices being advanced: a DMA transfer, an interrupt, the time of a
halted core, or an instruction. After the entry of an interrupt `seq` is 1, a core that woke included (log 33). -/
def checkpoint (cost : CostFunction) (s : State) : Host.Outcome State Fault Refusal :=
  match s.dmaReady with
  | some ch => .next ((s.dmaTransfer ch).settleDmaBy (cost.transfer s (s.dmaTransfer ch)))
  | none =>
    if s.deliverable then .next (s.wake.takeInterrupt.settleBy (cost.step s s.wake.takeInterrupt))
    else if s.core.halted then .next (s.setTime s.haltedTime)
    else runInstruction cost s

/-- One iteration of the main loop (R467), under any cost function (R569). -/
def stepWith (cost : CostFunction) (s : State) : Host.Outcome State Fault Refusal :=
  checkpoint cost (s.begin.advanceTo s.begin.sched.now)

/-- One iteration of the main loop (R467), under the default cost function. -/
def step (s : State) : Host.Outcome State Fault Refusal := stepWith tableCost s

/-- The instruction of `nbits` bits `w` stored where the next step fetches: the variant by the instruction's length
(R130), its bytes little-endian at the `pc` of the core that runs next (R76). Stands for the loader (log 21). -/
def State.withFetchWord (s : State) (nbits w : Nat) : State :=
  let t := decide (nbits ≤ 16)
  let s := s.select
  let s := s.setCpsr { s.core.cpsr with t := t }
  match s.cell (s.width.align s.pc) with
  | none => s
  | some c => s.setMem (Memory.store s.mem c s.width (BitVec.ofNat 32 w))

end Sys2Proof.Machine
end

