-- ==== Sys2Proof/Safety.lean ====
section
/-! DEFINITION. The words claims are stated in: what an instruction names as destination, flag or store; how two states
compare; what counts as a legal state. -/

namespace Sys2Proof

/-- The condition of a full-variant instruction (R133); none in the compact variant, where `T.B<cond>` alone tests one,
as its effect. -/
def Instr.cond : Instr → Option Cond
  | .bx c .. => some c
  | .wfi c .. => some c
  | .mrs c .. => some c
  | .msrReg c .. => some c
  | .msrImm c .. => some c
  | .swp c .. => some c
  | .swpb c .. => some c
  | .mul c .. => some c
  | .mla c .. => some c
  | .umull c .. => some c
  | .umlal c .. => some c
  | .smull c .. => some c
  | .smlal c .. => some c
  | .strhReg c .. => some c
  | .strhImm c .. => some c
  | .ldrhReg c .. => some c
  | .ldrhImm c .. => some c
  | .ldrsbReg c .. => some c
  | .ldrsbImm c .. => some c
  | .ldrshReg c .. => some c
  | .ldrshImm c .. => some c
  | .andImm c .. => some c
  | .andReg c .. => some c
  | .andRsr c .. => some c
  | .eorImm c .. => some c
  | .eorReg c .. => some c
  | .eorRsr c .. => some c
  | .subImm c .. => some c
  | .subReg c .. => some c
  | .subRsr c .. => some c
  | .rsbImm c .. => some c
  | .rsbReg c .. => some c
  | .rsbRsr c .. => some c
  | .addImm c .. => some c
  | .addReg c .. => some c
  | .addRsr c .. => some c
  | .adcImm c .. => some c
  | .adcReg c .. => some c
  | .adcRsr c .. => some c
  | .sbcImm c .. => some c
  | .sbcReg c .. => some c
  | .sbcRsr c .. => some c
  | .rscImm c .. => some c
  | .rscReg c .. => some c
  | .rscRsr c .. => some c
  | .tstImm c .. => some c
  | .tstReg c .. => some c
  | .tstRsr c .. => some c
  | .teqImm c .. => some c
  | .teqReg c .. => some c
  | .teqRsr c .. => some c
  | .cmpImm c .. => some c
  | .cmpReg c .. => some c
  | .cmpRsr c .. => some c
  | .cmnImm c .. => some c
  | .cmnReg c .. => some c
  | .cmnRsr c .. => some c
  | .orrImm c .. => some c
  | .orrReg c .. => some c
  | .orrRsr c .. => some c
  | .movImm c .. => some c
  | .movReg c .. => some c
  | .movRsr c .. => some c
  | .bicImm c .. => some c
  | .bicReg c .. => some c
  | .bicRsr c .. => some c
  | .mvnImm c .. => some c
  | .mvnReg c .. => some c
  | .mvnRsr c .. => some c
  | .ldrtImm c .. => some c
  | .ldrtReg c .. => some c
  | .strtImm c .. => some c
  | .strtReg c .. => some c
  | .ldrbtImm c .. => some c
  | .ldrbtReg c .. => some c
  | .strbtImm c .. => some c
  | .strbtReg c .. => some c
  | .ldrImm c .. => some c
  | .ldrReg c .. => some c
  | .strImm c .. => some c
  | .strReg c .. => some c
  | .ldrbImm c .. => some c
  | .ldrbReg c .. => some c
  | .strbImm c .. => some c
  | .strbReg c .. => some c
  | .undSpace c .. => some c
  | .ldm c .. => some c
  | .stm c .. => some c
  | .b c .. => some c
  | .bl c .. => some c
  | .swi c .. => some c
  | .cdp c .. => some c
  | .mcr c .. => some c
  | .mrc c .. => some c
  | .ldc c .. => some c
  | .stc c .. => some c
  | .undOther c .. => some c
  | .tLslImm .. => none
  | .tLsrImm .. => none
  | .tAsrImm .. => none
  | .tAddReg .. => none
  | .tSubReg .. => none
  | .tAddImm3 .. => none
  | .tSubImm3 .. => none
  | .tMovImm8 .. => none
  | .tCmpImm8 .. => none
  | .tAddImm8 .. => none
  | .tSubImm8 .. => none
  | .tAnd .. => none
  | .tEor .. => none
  | .tLslReg .. => none
  | .tLsrReg .. => none
  | .tAsrReg .. => none
  | .tAdc .. => none
  | .tSbc .. => none
  | .tRorReg .. => none
  | .tTst .. => none
  | .tNeg .. => none
  | .tCmpReg .. => none
  | .tCmn .. => none
  | .tOrr .. => none
  | .tMul .. => none
  | .tBic .. => none
  | .tMvn .. => none
  | .tAddHi .. => none
  | .tCmpHi .. => none
  | .tMovHi .. => none
  | .tBx .. => none
  | .tLdrPc .. => none
  | .tStrReg .. => none
  | .tStrbReg .. => none
  | .tLdrReg .. => none
  | .tLdrbReg .. => none
  | .tStrhReg .. => none
  | .tLdsbReg .. => none
  | .tLdrhReg .. => none
  | .tLdshReg .. => none
  | .tStrImm .. => none
  | .tLdrImm .. => none
  | .tStrbImm .. => none
  | .tLdrbImm .. => none
  | .tStrhImm .. => none
  | .tLdrhImm .. => none
  | .tStrSp .. => none
  | .tLdrSp .. => none
  | .tAddPc .. => none
  | .tAddSp .. => none
  | .tAddSpImm .. => none
  | .tSubSpImm .. => none
  | .tPush .. => none
  | .tPop .. => none
  | .tStmia .. => none
  | .tLdmia .. => none
  | .tSwi .. => none
  | .tUndCond .. => none
  | .tBcond .. => none
  | .tB .. => none
  | .tBlHi .. => none
  | .tBlLo .. => none
  | .tUndOther .. => none

namespace Machine

/-- What an instruction is, for statements that speak of one shape. -/
inductive Shape
  | register   -- registers and flags only: no access, no exception, `pc` only as a destination
  | load       -- one data read
  | store      -- one data write
  | swap       -- a read and a write
  | loads      -- a list of data reads
  | stores     -- a list of data writes
  | branch     -- a control transfer
  | system     -- status registers, system-control unit, halt
  | trap       -- an exception
deriving DecidableEq, Repr

/-- The shape of an instruction. -/
def shape : Instr → Shape
  | .bx .. => .branch
  | .wfi .. => .system
  | .mrs .. => .system
  | .msrReg .. => .system
  | .msrImm .. => .system
  | .swp .. => .swap
  | .swpb .. => .swap
  | .mul .. => .register
  | .mla .. => .register
  | .umull .. => .register
  | .umlal .. => .register
  | .smull .. => .register
  | .smlal .. => .register
  | .strhReg .. => .store
  | .strhImm .. => .store
  | .ldrhReg .. => .load
  | .ldrhImm .. => .load
  | .ldrsbReg .. => .load
  | .ldrsbImm .. => .load
  | .ldrshReg .. => .load
  | .ldrshImm .. => .load
  | .andImm .. => .register
  | .andReg .. => .register
  | .andRsr .. => .register
  | .eorImm .. => .register
  | .eorReg .. => .register
  | .eorRsr .. => .register
  | .subImm .. => .register
  | .subReg .. => .register
  | .subRsr .. => .register
  | .rsbImm .. => .register
  | .rsbReg .. => .register
  | .rsbRsr .. => .register
  | .addImm .. => .register
  | .addReg .. => .register
  | .addRsr .. => .register
  | .adcImm .. => .register
  | .adcReg .. => .register
  | .adcRsr .. => .register
  | .sbcImm .. => .register
  | .sbcReg .. => .register
  | .sbcRsr .. => .register
  | .rscImm .. => .register
  | .rscReg .. => .register
  | .rscRsr .. => .register
  | .tstImm .. => .register
  | .tstReg .. => .register
  | .tstRsr .. => .register
  | .teqImm .. => .register
  | .teqReg .. => .register
  | .teqRsr .. => .register
  | .cmpImm .. => .register
  | .cmpReg .. => .register
  | .cmpRsr .. => .register
  | .cmnImm .. => .register
  | .cmnReg .. => .register
  | .cmnRsr .. => .register
  | .orrImm .. => .register
  | .orrReg .. => .register
  | .orrRsr .. => .register
  | .movImm .. => .register
  | .movReg .. => .register
  | .movRsr .. => .register
  | .bicImm .. => .register
  | .bicReg .. => .register
  | .bicRsr .. => .register
  | .mvnImm .. => .register
  | .mvnReg .. => .register
  | .mvnRsr .. => .register
  | .ldrtImm .. => .load
  | .ldrtReg .. => .load
  | .strtImm .. => .store
  | .strtReg .. => .store
  | .ldrbtImm .. => .load
  | .ldrbtReg .. => .load
  | .strbtImm .. => .store
  | .strbtReg .. => .store
  | .ldrImm .. => .load
  | .ldrReg .. => .load
  | .strImm .. => .store
  | .strReg .. => .store
  | .ldrbImm .. => .load
  | .ldrbReg .. => .load
  | .strbImm .. => .store
  | .strbReg .. => .store
  | .undSpace .. => .trap
  | .ldm .. => .loads
  | .stm .. => .stores
  | .b .. => .branch
  | .bl .. => .branch
  | .swi .. => .trap
  | .cdp .. => .trap
  | .mcr .. => .system
  | .mrc .. => .system
  | .ldc .. => .trap
  | .stc .. => .trap
  | .undOther .. => .trap
  | .tLslImm .. => .register
  | .tLsrImm .. => .register
  | .tAsrImm .. => .register
  | .tAddReg .. => .register
  | .tSubReg .. => .register
  | .tAddImm3 .. => .register
  | .tSubImm3 .. => .register
  | .tMovImm8 .. => .register
  | .tCmpImm8 .. => .register
  | .tAddImm8 .. => .register
  | .tSubImm8 .. => .register
  | .tAnd .. => .register
  | .tEor .. => .register
  | .tLslReg .. => .register
  | .tLsrReg .. => .register
  | .tAsrReg .. => .register
  | .tAdc .. => .register
  | .tSbc .. => .register
  | .tRorReg .. => .register
  | .tTst .. => .register
  | .tNeg .. => .register
  | .tCmpReg .. => .register
  | .tCmn .. => .register
  | .tOrr .. => .register
  | .tMul .. => .register
  | .tBic .. => .register
  | .tMvn .. => .register
  | .tAddHi .. => .register
  | .tCmpHi .. => .register
  | .tMovHi .. => .register
  | .tBx .. => .branch
  | .tLdrPc .. => .load
  | .tStrReg .. => .store
  | .tStrbReg .. => .store
  | .tLdrReg .. => .load
  | .tLdrbReg .. => .load
  | .tStrhReg .. => .store
  | .tLdsbReg .. => .load
  | .tLdrhReg .. => .load
  | .tLdshReg .. => .load
  | .tStrImm .. => .store
  | .tLdrImm .. => .load
  | .tStrbImm .. => .store
  | .tLdrbImm .. => .load
  | .tStrhImm .. => .store
  | .tLdrhImm .. => .load
  | .tStrSp .. => .store
  | .tLdrSp .. => .load
  | .tAddPc .. => .register
  | .tAddSp .. => .register
  | .tAddSpImm .. => .register
  | .tSubSpImm .. => .register
  | .tPush .. => .stores
  | .tPop .. => .loads
  | .tStmia .. => .stores
  | .tLdmia .. => .loads
  | .tSwi .. => .trap
  | .tUndCond .. => .trap
  | .tBcond .. => .branch
  | .tB .. => .branch
  | .tBlHi .. => .register
  | .tBlLo .. => .branch
  | .tUndOther .. => .trap

/-- The registers an instruction names as destination, the written-back base among them (`r15`: `pc`). -/
def dests : Instr → List Reg
  | .bx _ _ => []
  | .wfi _ _ => []
  | .mrs _ _ rd => [rd]
  | .msrReg _ _ _ _ => []
  | .msrImm _ _ _ _ _ => []
  | .swp _ _ rd _ => [rd]
  | .swpb _ _ rd _ => [rd]
  | .mul _ _ rd _ _ _ => [rd]
  | .mla _ _ rd _ _ _ => [rd]
  | .umull _ _ rdHi rdLo _ _ => [rdHi, rdLo]
  | .umlal _ _ rdHi rdLo _ _ => [rdHi, rdLo]
  | .smull _ _ rdHi rdLo _ _ => [rdHi, rdLo]
  | .smlal _ _ rdHi rdLo _ _ => [rdHi, rdLo]
  | .strhReg _ p _ w rn _ _ _ => (if writesBack p w then [rn] else [])
  | .strhImm _ p _ w rn _ _ _ => (if writesBack p w then [rn] else [])
  | .ldrhReg _ p _ w rn rd _ _ => rd :: (if writesBack p w then [rn] else [])
  | .ldrhImm _ p _ w rn rd _ _ => rd :: (if writesBack p w then [rn] else [])
  | .ldrsbReg _ p _ w rn rd _ _ => rd :: (if writesBack p w then [rn] else [])
  | .ldrsbImm _ p _ w rn rd _ _ => rd :: (if writesBack p w then [rn] else [])
  | .ldrshReg _ p _ w rn rd _ _ => rd :: (if writesBack p w then [rn] else [])
  | .ldrshImm _ p _ w rn rd _ _ => rd :: (if writesBack p w then [rn] else [])
  | .andImm _ _ _ rd _ _ => [rd]
  | .andReg _ _ _ rd _ _ _ => [rd]
  | .andRsr _ _ _ rd _ _ _ => [rd]
  | .eorImm _ _ _ rd _ _ => [rd]
  | .eorReg _ _ _ rd _ _ _ => [rd]
  | .eorRsr _ _ _ rd _ _ _ => [rd]
  | .subImm _ _ _ rd _ _ => [rd]
  | .subReg _ _ _ rd _ _ _ => [rd]
  | .subRsr _ _ _ rd _ _ _ => [rd]
  | .rsbImm _ _ _ rd _ _ => [rd]
  | .rsbReg _ _ _ rd _ _ _ => [rd]
  | .rsbRsr _ _ _ rd _ _ _ => [rd]
  | .addImm _ _ _ rd _ _ => [rd]
  | .addReg _ _ _ rd _ _ _ => [rd]
  | .addRsr _ _ _ rd _ _ _ => [rd]
  | .adcImm _ _ _ rd _ _ => [rd]
  | .adcReg _ _ _ rd _ _ _ => [rd]
  | .adcRsr _ _ _ rd _ _ _ => [rd]
  | .sbcImm _ _ _ rd _ _ => [rd]
  | .sbcReg _ _ _ rd _ _ _ => [rd]
  | .sbcRsr _ _ _ rd _ _ _ => [rd]
  | .rscImm _ _ _ rd _ _ => [rd]
  | .rscReg _ _ _ rd _ _ _ => [rd]
  | .rscRsr _ _ _ rd _ _ _ => [rd]
  | .tstImm _ _ _ _ _ => []
  | .tstReg _ _ _ _ _ _ => []
  | .tstRsr _ _ _ _ _ _ => []
  | .teqImm _ _ _ _ _ => []
  | .teqReg _ _ _ _ _ _ => []
  | .teqRsr _ _ _ _ _ _ => []
  | .cmpImm _ _ _ _ _ => []
  | .cmpReg _ _ _ _ _ _ => []
  | .cmpRsr _ _ _ _ _ _ => []
  | .cmnImm _ _ _ _ _ => []
  | .cmnReg _ _ _ _ _ _ => []
  | .cmnRsr _ _ _ _ _ _ => []
  | .orrImm _ _ _ rd _ _ => [rd]
  | .orrReg _ _ _ rd _ _ _ => [rd]
  | .orrRsr _ _ _ rd _ _ _ => [rd]
  | .movImm _ _ _ rd _ _ => [rd]
  | .movReg _ _ _ rd _ _ _ => [rd]
  | .movRsr _ _ _ rd _ _ _ => [rd]
  | .bicImm _ _ _ rd _ _ => [rd]
  | .bicReg _ _ _ rd _ _ _ => [rd]
  | .bicRsr _ _ _ rd _ _ _ => [rd]
  | .mvnImm _ _ _ rd _ _ => [rd]
  | .mvnReg _ _ _ rd _ _ _ => [rd]
  | .mvnRsr _ _ _ rd _ _ _ => [rd]
  | .ldrtImm _ _ rn rd _ => [rd, rn]
  | .ldrtReg _ _ rn rd _ _ _ => [rd, rn]
  | .strtImm _ _ rn _ _ => [rn]
  | .strtReg _ _ rn _ _ _ _ => [rn]
  | .ldrbtImm _ _ rn rd _ => [rd, rn]
  | .ldrbtReg _ _ rn rd _ _ _ => [rd, rn]
  | .strbtImm _ _ rn _ _ => [rn]
  | .strbtReg _ _ rn _ _ _ _ => [rn]
  | .ldrImm _ p _ w rn rd _ => rd :: (if writesBack p w then [rn] else [])
  | .ldrReg _ p _ w rn rd _ _ _ => rd :: (if writesBack p w then [rn] else [])
  | .strImm _ p _ w rn _ _ => (if writesBack p w then [rn] else [])
  | .strReg _ p _ w rn _ _ _ _ => (if writesBack p w then [rn] else [])
  | .ldrbImm _ p _ w rn rd _ => rd :: (if writesBack p w then [rn] else [])
  | .ldrbReg _ p _ w rn rd _ _ _ => rd :: (if writesBack p w then [rn] else [])
  | .strbImm _ p _ w rn _ _ => (if writesBack p w then [rn] else [])
  | .strbReg _ p _ w rn _ _ _ _ => (if writesBack p w then [rn] else [])
  | .undSpace _ _ _ => []
  | .ldm _ _ _ _ w rn list => listRegs list ++ (if w then [rn] else [])
  | .stm _ _ _ _ w rn _ => if w then [rn] else []
  | .b _ _ => []
  | .bl _ _ => [14]
  | .swi _ _ => []
  | .cdp _ _ _ _ _ _ _ => []
  | .mcr _ _ _ _ _ _ _ => []
  | .mrc _ _ _ rd _ _ _ => [rd]
  | .ldc _ _ _ _ _ _ _ _ _ => []
  | .stc _ _ _ _ _ _ _ _ _ => []
  | .undOther _ _ => []
  | .tLslImm _ _ rd => [lowReg rd]
  | .tLsrImm _ _ rd => [lowReg rd]
  | .tAsrImm _ _ rd => [lowReg rd]
  | .tAddReg _ _ rd => [lowReg rd]
  | .tSubReg _ _ rd => [lowReg rd]
  | .tAddImm3 _ _ rd => [lowReg rd]
  | .tSubImm3 _ _ rd => [lowReg rd]
  | .tMovImm8 rd _ => [lowReg rd]
  | .tCmpImm8 _ _ => []
  | .tAddImm8 rd _ => [lowReg rd]
  | .tSubImm8 rd _ => [lowReg rd]
  | .tAnd _ rd => [lowReg rd]
  | .tEor _ rd => [lowReg rd]
  | .tLslReg _ rd => [lowReg rd]
  | .tLsrReg _ rd => [lowReg rd]
  | .tAsrReg _ rd => [lowReg rd]
  | .tAdc _ rd => [lowReg rd]
  | .tSbc _ rd => [lowReg rd]
  | .tRorReg _ rd => [lowReg rd]
  | .tTst _ _ => []
  | .tNeg _ rd => [lowReg rd]
  | .tCmpReg _ _ => []
  | .tCmn _ _ => []
  | .tOrr _ rd => [lowReg rd]
  | .tMul _ rd => [lowReg rd]
  | .tBic _ rd => [lowReg rd]
  | .tMvn _ rd => [lowReg rd]
  | .tAddHi rd _ => [rd]
  | .tCmpHi _ _ => []
  | .tMovHi rd _ => [rd]
  | .tBx _ _ => []
  | .tLdrPc rd _ => [lowReg rd]
  | .tStrReg _ _ _ => []
  | .tStrbReg _ _ _ => []
  | .tLdrReg _ _ rd => [lowReg rd]
  | .tLdrbReg _ _ rd => [lowReg rd]
  | .tStrhReg _ _ _ => []
  | .tLdsbReg _ _ rd => [lowReg rd]
  | .tLdrhReg _ _ rd => [lowReg rd]
  | .tLdshReg _ _ rd => [lowReg rd]
  | .tStrImm _ _ _ => []
  | .tLdrImm _ _ rd => [lowReg rd]
  | .tStrbImm _ _ _ => []
  | .tLdrbImm _ _ rd => [lowReg rd]
  | .tStrhImm _ _ _ => []
  | .tLdrhImm _ _ rd => [lowReg rd]
  | .tStrSp _ _ => []
  | .tLdrSp rd _ => [lowReg rd]
  | .tAddPc rd _ => [lowReg rd]
  | .tAddSp rd _ => [lowReg rd]
  | .tAddSpImm _ => [13]
  | .tSubSpImm _ => [13]
  | .tPush _ _ => [13]
  | .tPop _ rlist => 13 :: lowListRegs rlist
  | .tStmia rb _ => [lowReg rb]
  | .tLdmia rb rlist => lowReg rb :: lowListRegs rlist
  | .tSwi _ => []
  | .tUndCond _ => []
  | .tBcond _ _ => []
  | .tB _ => []
  | .tBlHi _ => [14]
  | .tBlLo _ => [14]
  | .tUndOther _ => []

/-- Whether an instruction may write N, Z, C, V as its effect (R37). -/
def setsFlags : Instr → Bool
  | .bx _ _ => false
  | .wfi _ _ => false
  | .mrs _ _ _ => false
  | .msrReg _ r mask _ => !r && mask.getLsbD 3
  | .msrImm _ r mask _ _ => !r && mask.getLsbD 3
  | .swp _ _ _ _ => false
  | .swpb _ _ _ _ => false
  | .mul _ sf _ _ _ _ => sf
  | .mla _ sf _ _ _ _ => sf
  | .umull _ sf _ _ _ _ => sf
  | .umlal _ sf _ _ _ _ => sf
  | .smull _ sf _ _ _ _ => sf
  | .smlal _ sf _ _ _ _ => sf
  | .strhReg _ _ _ _ _ _ _ _ => false
  | .strhImm _ _ _ _ _ _ _ _ => false
  | .ldrhReg _ _ _ _ _ _ _ _ => false
  | .ldrhImm _ _ _ _ _ _ _ _ => false
  | .ldrsbReg _ _ _ _ _ _ _ _ => false
  | .ldrsbImm _ _ _ _ _ _ _ _ => false
  | .ldrshReg _ _ _ _ _ _ _ _ => false
  | .ldrshImm _ _ _ _ _ _ _ _ => false
  | .andImm _ sf _ _ _ _ => sf
  | .andReg _ sf _ _ _ _ _ => sf
  | .andRsr _ sf _ _ _ _ _ => sf
  | .eorImm _ sf _ _ _ _ => sf
  | .eorReg _ sf _ _ _ _ _ => sf
  | .eorRsr _ sf _ _ _ _ _ => sf
  | .subImm _ sf _ _ _ _ => sf
  | .subReg _ sf _ _ _ _ _ => sf
  | .subRsr _ sf _ _ _ _ _ => sf
  | .rsbImm _ sf _ _ _ _ => sf
  | .rsbReg _ sf _ _ _ _ _ => sf
  | .rsbRsr _ sf _ _ _ _ _ => sf
  | .addImm _ sf _ _ _ _ => sf
  | .addReg _ sf _ _ _ _ _ => sf
  | .addRsr _ sf _ _ _ _ _ => sf
  | .adcImm _ sf _ _ _ _ => sf
  | .adcReg _ sf _ _ _ _ _ => sf
  | .adcRsr _ sf _ _ _ _ _ => sf
  | .sbcImm _ sf _ _ _ _ => sf
  | .sbcReg _ sf _ _ _ _ _ => sf
  | .sbcRsr _ sf _ _ _ _ _ => sf
  | .rscImm _ sf _ _ _ _ => sf
  | .rscReg _ sf _ _ _ _ _ => sf
  | .rscRsr _ sf _ _ _ _ _ => sf
  | .tstImm _ _ _ _ _ => true
  | .tstReg _ _ _ _ _ _ => true
  | .tstRsr _ _ _ _ _ _ => true
  | .teqImm _ _ _ _ _ => true
  | .teqReg _ _ _ _ _ _ => true
  | .teqRsr _ _ _ _ _ _ => true
  | .cmpImm _ _ _ _ _ => true
  | .cmpReg _ _ _ _ _ _ => true
  | .cmpRsr _ _ _ _ _ _ => true
  | .cmnImm _ _ _ _ _ => true
  | .cmnReg _ _ _ _ _ _ => true
  | .cmnRsr _ _ _ _ _ _ => true
  | .orrImm _ sf _ _ _ _ => sf
  | .orrReg _ sf _ _ _ _ _ => sf
  | .orrRsr _ sf _ _ _ _ _ => sf
  | .movImm _ sf _ _ _ _ => sf
  | .movReg _ sf _ _ _ _ _ => sf
  | .movRsr _ sf _ _ _ _ _ => sf
  | .bicImm _ sf _ _ _ _ => sf
  | .bicReg _ sf _ _ _ _ _ => sf
  | .bicRsr _ sf _ _ _ _ _ => sf
  | .mvnImm _ sf _ _ _ _ => sf
  | .mvnReg _ sf _ _ _ _ _ => sf
  | .mvnRsr _ sf _ _ _ _ _ => sf
  | .ldrtImm _ _ _ _ _ => false
  | .ldrtReg _ _ _ _ _ _ _ => false
  | .strtImm _ _ _ _ _ => false
  | .strtReg _ _ _ _ _ _ _ => false
  | .ldrbtImm _ _ _ _ _ => false
  | .ldrbtReg _ _ _ _ _ _ _ => false
  | .strbtImm _ _ _ _ _ => false
  | .strbtReg _ _ _ _ _ _ _ => false
  | .ldrImm _ _ _ _ _ _ _ => false
  | .ldrReg _ _ _ _ _ _ _ _ _ => false
  | .strImm _ _ _ _ _ _ _ => false
  | .strReg _ _ _ _ _ _ _ _ _ => false
  | .ldrbImm _ _ _ _ _ _ _ => false
  | .ldrbReg _ _ _ _ _ _ _ _ _ => false
  | .strbImm _ _ _ _ _ _ _ => false
  | .strbReg _ _ _ _ _ _ _ _ _ => false
  | .undSpace _ _ _ => false
  | .ldm _ _ _ sf _ _ list => sf && list.getLsbD 15
  | .stm _ _ _ _ _ _ _ => false
  | .b _ _ => false
  | .bl _ _ => false
  | .swi _ _ => false
  | .cdp _ _ _ _ _ _ _ => false
  | .mcr _ _ _ _ _ _ _ => false
  | .mrc _ _ _ rd _ _ _ => rd == 15
  | .ldc _ _ _ _ _ _ _ _ _ => false
  | .stc _ _ _ _ _ _ _ _ _ => false
  | .undOther _ _ => false
  | .tLslImm _ _ _ => true
  | .tLsrImm _ _ _ => true
  | .tAsrImm _ _ _ => true
  | .tAddReg _ _ _ => true
  | .tSubReg _ _ _ => true
  | .tAddImm3 _ _ _ => true
  | .tSubImm3 _ _ _ => true
  | .tMovImm8 _ _ => true
  | .tCmpImm8 _ _ => true
  | .tAddImm8 _ _ => true
  | .tSubImm8 _ _ => true
  | .tAnd _ _ => true
  | .tEor _ _ => true
  | .tLslReg _ _ => true
  | .tLsrReg _ _ => true
  | .tAsrReg _ _ => true
  | .tAdc _ _ => true
  | .tSbc _ _ => true
  | .tRorReg _ _ => true
  | .tTst _ _ => true
  | .tNeg _ _ => true
  | .tCmpReg _ _ => true
  | .tCmn _ _ => true
  | .tOrr _ _ => true
  | .tMul _ _ => true
  | .tBic _ _ => true
  | .tMvn _ _ => true
  | .tAddHi _ _ => false
  | .tCmpHi _ _ => true
  | .tMovHi _ _ => false
  | .tBx _ _ => false
  | .tLdrPc _ _ => false
  | .tStrReg _ _ _ => false
  | .tStrbReg _ _ _ => false
  | .tLdrReg _ _ _ => false
  | .tLdrbReg _ _ _ => false
  | .tStrhReg _ _ _ => false
  | .tLdsbReg _ _ _ => false
  | .tLdrhReg _ _ _ => false
  | .tLdshReg _ _ _ => false
  | .tStrImm _ _ _ => false
  | .tLdrImm _ _ _ => false
  | .tStrbImm _ _ _ => false
  | .tLdrbImm _ _ _ => false
  | .tStrhImm _ _ _ => false
  | .tLdrhImm _ _ _ => false
  | .tStrSp _ _ => false
  | .tLdrSp _ _ => false
  | .tAddPc _ _ => false
  | .tAddSp _ _ => false
  | .tAddSpImm _ => false
  | .tSubSpImm _ => false
  | .tPush _ _ => false
  | .tPop _ _ => false
  | .tStmia _ _ => false
  | .tLdmia _ _ => false
  | .tSwi _ => false
  | .tUndCond _ => false
  | .tBcond _ _ => false
  | .tB _ => false
  | .tBlHi _ => false
  | .tBlLo _ => false
  | .tUndOther _ => false

/-- Whether an instruction restores `cpsr` from `spsr` (R416). -/
def restoresStatus : Instr → Bool
  | .bx _ _ => false
  | .wfi _ _ => false
  | .mrs _ _ _ => false
  | .msrReg _ _ _ _ => false
  | .msrImm _ _ _ _ _ => false
  | .swp _ _ _ _ => false
  | .swpb _ _ _ _ => false
  | .mul _ _ _ _ _ _ => false
  | .mla _ _ _ _ _ _ => false
  | .umull _ _ _ _ _ _ => false
  | .umlal _ _ _ _ _ _ => false
  | .smull _ _ _ _ _ _ => false
  | .smlal _ _ _ _ _ _ => false
  | .strhReg _ _ _ _ _ _ _ _ => false
  | .strhImm _ _ _ _ _ _ _ _ => false
  | .ldrhReg _ _ _ _ _ _ _ _ => false
  | .ldrhImm _ _ _ _ _ _ _ _ => false
  | .ldrsbReg _ _ _ _ _ _ _ _ => false
  | .ldrsbImm _ _ _ _ _ _ _ _ => false
  | .ldrshReg _ _ _ _ _ _ _ _ => false
  | .ldrshImm _ _ _ _ _ _ _ _ => false
  | .andImm _ sf _ rd _ _ => sf && rd == 15
  | .andReg _ sf _ rd _ _ _ => sf && rd == 15
  | .andRsr _ sf _ rd _ _ _ => sf && rd == 15
  | .eorImm _ sf _ rd _ _ => sf && rd == 15
  | .eorReg _ sf _ rd _ _ _ => sf && rd == 15
  | .eorRsr _ sf _ rd _ _ _ => sf && rd == 15
  | .subImm _ sf _ rd _ _ => sf && rd == 15
  | .subReg _ sf _ rd _ _ _ => sf && rd == 15
  | .subRsr _ sf _ rd _ _ _ => sf && rd == 15
  | .rsbImm _ sf _ rd _ _ => sf && rd == 15
  | .rsbReg _ sf _ rd _ _ _ => sf && rd == 15
  | .rsbRsr _ sf _ rd _ _ _ => sf && rd == 15
  | .addImm _ sf _ rd _ _ => sf && rd == 15
  | .addReg _ sf _ rd _ _ _ => sf && rd == 15
  | .addRsr _ sf _ rd _ _ _ => sf && rd == 15
  | .adcImm _ sf _ rd _ _ => sf && rd == 15
  | .adcReg _ sf _ rd _ _ _ => sf && rd == 15
  | .adcRsr _ sf _ rd _ _ _ => sf && rd == 15
  | .sbcImm _ sf _ rd _ _ => sf && rd == 15
  | .sbcReg _ sf _ rd _ _ _ => sf && rd == 15
  | .sbcRsr _ sf _ rd _ _ _ => sf && rd == 15
  | .rscImm _ sf _ rd _ _ => sf && rd == 15
  | .rscReg _ sf _ rd _ _ _ => sf && rd == 15
  | .rscRsr _ sf _ rd _ _ _ => sf && rd == 15
  | .tstImm _ _ _ _ _ => false
  | .tstReg _ _ _ _ _ _ => false
  | .tstRsr _ _ _ _ _ _ => false
  | .teqImm _ _ _ _ _ => false
  | .teqReg _ _ _ _ _ _ => false
  | .teqRsr _ _ _ _ _ _ => false
  | .cmpImm _ _ _ _ _ => false
  | .cmpReg _ _ _ _ _ _ => false
  | .cmpRsr _ _ _ _ _ _ => false
  | .cmnImm _ _ _ _ _ => false
  | .cmnReg _ _ _ _ _ _ => false
  | .cmnRsr _ _ _ _ _ _ => false
  | .orrImm _ sf _ rd _ _ => sf && rd == 15
  | .orrReg _ sf _ rd _ _ _ => sf && rd == 15
  | .orrRsr _ sf _ rd _ _ _ => sf && rd == 15
  | .movImm _ sf _ rd _ _ => sf && rd == 15
  | .movReg _ sf _ rd _ _ _ => sf && rd == 15
  | .movRsr _ sf _ rd _ _ _ => sf && rd == 15
  | .bicImm _ sf _ rd _ _ => sf && rd == 15
  | .bicReg _ sf _ rd _ _ _ => sf && rd == 15
  | .bicRsr _ sf _ rd _ _ _ => sf && rd == 15
  | .mvnImm _ sf _ rd _ _ => sf && rd == 15
  | .mvnReg _ sf _ rd _ _ _ => sf && rd == 15
  | .mvnRsr _ sf _ rd _ _ _ => sf && rd == 15
  | .ldrtImm _ _ _ _ _ => false
  | .ldrtReg _ _ _ _ _ _ _ => false
  | .strtImm _ _ _ _ _ => false
  | .strtReg _ _ _ _ _ _ _ => false
  | .ldrbtImm _ _ _ _ _ => false
  | .ldrbtReg _ _ _ _ _ _ _ => false
  | .strbtImm _ _ _ _ _ => false
  | .strbtReg _ _ _ _ _ _ _ => false
  | .ldrImm _ _ _ _ _ _ _ => false
  | .ldrReg _ _ _ _ _ _ _ _ _ => false
  | .strImm _ _ _ _ _ _ _ => false
  | .strReg _ _ _ _ _ _ _ _ _ => false
  | .ldrbImm _ _ _ _ _ _ _ => false
  | .ldrbReg _ _ _ _ _ _ _ _ _ => false
  | .strbImm _ _ _ _ _ _ _ => false
  | .strbReg _ _ _ _ _ _ _ _ _ => false
  | .undSpace _ _ _ => false
  | .ldm _ _ _ sf _ _ list => sf && list.getLsbD 15
  | .stm _ _ _ _ _ _ _ => false
  | .b _ _ => false
  | .bl _ _ => false
  | .swi _ _ => false
  | .cdp _ _ _ _ _ _ _ => false
  | .mcr _ _ _ _ _ _ _ => false
  | .mrc _ _ _ _ _ _ _ => false
  | .ldc _ _ _ _ _ _ _ _ _ => false
  | .stc _ _ _ _ _ _ _ _ _ => false
  | .undOther _ _ => false
  | .tLslImm _ _ _ => false
  | .tLsrImm _ _ _ => false
  | .tAsrImm _ _ _ => false
  | .tAddReg _ _ _ => false
  | .tSubReg _ _ _ => false
  | .tAddImm3 _ _ _ => false
  | .tSubImm3 _ _ _ => false
  | .tMovImm8 _ _ => false
  | .tCmpImm8 _ _ => false
  | .tAddImm8 _ _ => false
  | .tSubImm8 _ _ => false
  | .tAnd _ _ => false
  | .tEor _ _ => false
  | .tLslReg _ _ => false
  | .tLsrReg _ _ => false
  | .tAsrReg _ _ => false
  | .tAdc _ _ => false
  | .tSbc _ _ => false
  | .tRorReg _ _ => false
  | .tTst _ _ => false
  | .tNeg _ _ => false
  | .tCmpReg _ _ => false
  | .tCmn _ _ => false
  | .tOrr _ _ => false
  | .tMul _ _ => false
  | .tBic _ _ => false
  | .tMvn _ _ => false
  | .tAddHi _ _ => false
  | .tCmpHi _ _ => false
  | .tMovHi _ _ => false
  | .tBx _ _ => false
  | .tLdrPc _ _ => false
  | .tStrReg _ _ _ => false
  | .tStrbReg _ _ _ => false
  | .tLdrReg _ _ _ => false
  | .tLdrbReg _ _ _ => false
  | .tStrhReg _ _ _ => false
  | .tLdsbReg _ _ _ => false
  | .tLdrhReg _ _ _ => false
  | .tLdshReg _ _ _ => false
  | .tStrImm _ _ _ => false
  | .tLdrImm _ _ _ => false
  | .tStrbImm _ _ _ => false
  | .tLdrbImm _ _ _ => false
  | .tStrhImm _ _ _ => false
  | .tLdrhImm _ _ _ => false
  | .tStrSp _ _ => false
  | .tLdrSp _ _ => false
  | .tAddPc _ _ => false
  | .tAddSp _ _ => false
  | .tAddSpImm _ => false
  | .tSubSpImm _ => false
  | .tPush _ _ => false
  | .tPop _ _ => false
  | .tStmia _ _ => false
  | .tLdmia _ _ => false
  | .tSwi _ => false
  | .tUndCond _ => false
  | .tBcond _ _ => false
  | .tB _ => false
  | .tBlHi _ => false
  | .tBlLo _ => false
  | .tUndOther _ => false

/-- The operations that need a privileged mode (R263). -/
def isPrivileged : Instr → Bool
  | .bx _ _ => false
  | .wfi _ _ => true
  | .mrs _ r _ => r
  | .msrReg _ r mask _ => r || mask.getLsbD 0
  | .msrImm _ r mask _ _ => r || mask.getLsbD 0
  | .swp _ _ _ _ => false
  | .swpb _ _ _ _ => false
  | .mul _ _ _ _ _ _ => false
  | .mla _ _ _ _ _ _ => false
  | .umull _ _ _ _ _ _ => false
  | .umlal _ _ _ _ _ _ => false
  | .smull _ _ _ _ _ _ => false
  | .smlal _ _ _ _ _ _ => false
  | .strhReg _ _ _ _ _ _ _ _ => false
  | .strhImm _ _ _ _ _ _ _ _ => false
  | .ldrhReg _ _ _ _ _ _ _ _ => false
  | .ldrhImm _ _ _ _ _ _ _ _ => false
  | .ldrsbReg _ _ _ _ _ _ _ _ => false
  | .ldrsbImm _ _ _ _ _ _ _ _ => false
  | .ldrshReg _ _ _ _ _ _ _ _ => false
  | .ldrshImm _ _ _ _ _ _ _ _ => false
  | .andImm _ sf _ rd _ _ => sf && rd == 15
  | .andReg _ sf _ rd _ _ _ => sf && rd == 15
  | .andRsr _ sf _ rd _ _ _ => sf && rd == 15
  | .eorImm _ sf _ rd _ _ => sf && rd == 15
  | .eorReg _ sf _ rd _ _ _ => sf && rd == 15
  | .eorRsr _ sf _ rd _ _ _ => sf && rd == 15
  | .subImm _ sf _ rd _ _ => sf && rd == 15
  | .subReg _ sf _ rd _ _ _ => sf && rd == 15
  | .subRsr _ sf _ rd _ _ _ => sf && rd == 15
  | .rsbImm _ sf _ rd _ _ => sf && rd == 15
  | .rsbReg _ sf _ rd _ _ _ => sf && rd == 15
  | .rsbRsr _ sf _ rd _ _ _ => sf && rd == 15
  | .addImm _ sf _ rd _ _ => sf && rd == 15
  | .addReg _ sf _ rd _ _ _ => sf && rd == 15
  | .addRsr _ sf _ rd _ _ _ => sf && rd == 15
  | .adcImm _ sf _ rd _ _ => sf && rd == 15
  | .adcReg _ sf _ rd _ _ _ => sf && rd == 15
  | .adcRsr _ sf _ rd _ _ _ => sf && rd == 15
  | .sbcImm _ sf _ rd _ _ => sf && rd == 15
  | .sbcReg _ sf _ rd _ _ _ => sf && rd == 15
  | .sbcRsr _ sf _ rd _ _ _ => sf && rd == 15
  | .rscImm _ sf _ rd _ _ => sf && rd == 15
  | .rscReg _ sf _ rd _ _ _ => sf && rd == 15
  | .rscRsr _ sf _ rd _ _ _ => sf && rd == 15
  | .tstImm _ _ _ _ _ => false
  | .tstReg _ _ _ _ _ _ => false
  | .tstRsr _ _ _ _ _ _ => false
  | .teqImm _ _ _ _ _ => false
  | .teqReg _ _ _ _ _ _ => false
  | .teqRsr _ _ _ _ _ _ => false
  | .cmpImm _ _ _ _ _ => false
  | .cmpReg _ _ _ _ _ _ => false
  | .cmpRsr _ _ _ _ _ _ => false
  | .cmnImm _ _ _ _ _ => false
  | .cmnReg _ _ _ _ _ _ => false
  | .cmnRsr _ _ _ _ _ _ => false
  | .orrImm _ sf _ rd _ _ => sf && rd == 15
  | .orrReg _ sf _ rd _ _ _ => sf && rd == 15
  | .orrRsr _ sf _ rd _ _ _ => sf && rd == 15
  | .movImm _ sf _ rd _ _ => sf && rd == 15
  | .movReg _ sf _ rd _ _ _ => sf && rd == 15
  | .movRsr _ sf _ rd _ _ _ => sf && rd == 15
  | .bicImm _ sf _ rd _ _ => sf && rd == 15
  | .bicReg _ sf _ rd _ _ _ => sf && rd == 15
  | .bicRsr _ sf _ rd _ _ _ => sf && rd == 15
  | .mvnImm _ sf _ rd _ _ => sf && rd == 15
  | .mvnReg _ sf _ rd _ _ _ => sf && rd == 15
  | .mvnRsr _ sf _ rd _ _ _ => sf && rd == 15
  | .ldrtImm _ _ _ _ _ => false
  | .ldrtReg _ _ _ _ _ _ _ => false
  | .strtImm _ _ _ _ _ => false
  | .strtReg _ _ _ _ _ _ _ => false
  | .ldrbtImm _ _ _ _ _ => false
  | .ldrbtReg _ _ _ _ _ _ _ => false
  | .strbtImm _ _ _ _ _ => false
  | .strbtReg _ _ _ _ _ _ _ => false
  | .ldrImm _ _ _ _ _ _ _ => false
  | .ldrReg _ _ _ _ _ _ _ _ _ => false
  | .strImm _ _ _ _ _ _ _ => false
  | .strReg _ _ _ _ _ _ _ _ _ => false
  | .ldrbImm _ _ _ _ _ _ _ => false
  | .ldrbReg _ _ _ _ _ _ _ _ _ => false
  | .strbImm _ _ _ _ _ _ _ => false
  | .strbReg _ _ _ _ _ _ _ _ _ => false
  | .undSpace _ _ _ => false
  | .ldm _ _ _ sf _ _ list => sf && list.getLsbD 15
  | .stm _ _ _ _ _ _ _ => false
  | .b _ _ => false
  | .bl _ _ => false
  | .swi _ _ => false
  | .cdp _ _ _ _ _ _ _ => false
  | .mcr _ _ _ _ cp _ _ => cp == 15
  | .mrc _ _ _ _ cp _ _ => cp == 15
  | .ldc _ _ _ _ _ _ _ _ _ => false
  | .stc _ _ _ _ _ _ _ _ _ => false
  | .undOther _ _ => false
  | .tLslImm _ _ _ => false
  | .tLsrImm _ _ _ => false
  | .tAsrImm _ _ _ => false
  | .tAddReg _ _ _ => false
  | .tSubReg _ _ _ => false
  | .tAddImm3 _ _ _ => false
  | .tSubImm3 _ _ _ => false
  | .tMovImm8 _ _ => false
  | .tCmpImm8 _ _ => false
  | .tAddImm8 _ _ => false
  | .tSubImm8 _ _ => false
  | .tAnd _ _ => false
  | .tEor _ _ => false
  | .tLslReg _ _ => false
  | .tLsrReg _ _ => false
  | .tAsrReg _ _ => false
  | .tAdc _ _ => false
  | .tSbc _ _ => false
  | .tRorReg _ _ => false
  | .tTst _ _ => false
  | .tNeg _ _ => false
  | .tCmpReg _ _ => false
  | .tCmn _ _ => false
  | .tOrr _ _ => false
  | .tMul _ _ => false
  | .tBic _ _ => false
  | .tMvn _ _ => false
  | .tAddHi _ _ => false
  | .tCmpHi _ _ => false
  | .tMovHi _ _ => false
  | .tBx _ _ => false
  | .tLdrPc _ _ => false
  | .tStrReg _ _ _ => false
  | .tStrbReg _ _ _ => false
  | .tLdrReg _ _ _ => false
  | .tLdrbReg _ _ _ => false
  | .tStrhReg _ _ _ => false
  | .tLdsbReg _ _ _ => false
  | .tLdrhReg _ _ _ => false
  | .tLdshReg _ _ _ => false
  | .tStrImm _ _ _ => false
  | .tLdrImm _ _ _ => false
  | .tStrbImm _ _ _ => false
  | .tLdrbImm _ _ _ => false
  | .tStrhImm _ _ _ => false
  | .tLdrhImm _ _ _ => false
  | .tStrSp _ _ => false
  | .tLdrSp _ _ => false
  | .tAddPc _ _ => false
  | .tAddSp _ _ => false
  | .tAddSpImm _ => false
  | .tSubSpImm _ => false
  | .tPush _ _ => false
  | .tPop _ _ => false
  | .tStmia _ _ => false
  | .tLdmia _ _ => false
  | .tSwi _ => false
  | .tUndCond _ => false
  | .tBcond _ _ => false
  | .tB _ => false
  | .tBlHi _ => false
  | .tBlLo _ => false
  | .tUndOther _ => false

/-- The words of a block store: at rising addresses, each aligned (R240, R242). -/
def storedWords : Word → List Word → List (Word × Width × Word)
  | _, [] => []
  | a, v :: rest => (alignWord a, .word, v) :: storedWords (a + 4) rest

/-- The accesses an instruction stores: address put on the Bus, width, value, in order. The addresses and values are
those its meaning computes from the state before it. -/
def stored (s : State) : Instr → List (Word × Width × Word)
  | .bx _ _ => []
  | .wfi _ _ => []
  | .mrs _ _ _ => []
  | .msrReg _ _ _ _ => []
  | .msrImm _ _ _ _ _ => []
  | .swp _ rn _ rm => [((Width.word).align (s.reg rn), .word, s.reg rm)]
  | .swpb _ rn _ rm => [((Width.byte).align (s.reg rn), .byte, s.reg rm)]
  | .mul _ _ _ _ _ _ => []
  | .mla _ _ _ _ _ _ => []
  | .umull _ _ _ _ _ _ => []
  | .umlal _ _ _ _ _ _ => []
  | .smull _ _ _ _ _ _ => []
  | .smlal _ _ _ _ _ _ => []
  | .strhReg _ p u _ rn rd _ rm => [((Width.half).align (transferAddr p u (s.reg rn) (s.reg rm)), .half, s.regLate rd)]
  | .strhImm _ p u _ rn rd offH offL => [((Width.half).align (transferAddr p u (s.reg rn) (halfOffset offH offL)), .half, s.regLate rd)]
  | .ldrhReg _ _ _ _ _ _ _ _ => []
  | .ldrhImm _ _ _ _ _ _ _ _ => []
  | .ldrsbReg _ _ _ _ _ _ _ _ => []
  | .ldrsbImm _ _ _ _ _ _ _ _ => []
  | .ldrshReg _ _ _ _ _ _ _ _ => []
  | .ldrshImm _ _ _ _ _ _ _ _ => []
  | .andImm _ _ _ _ _ _ => []
  | .andReg _ _ _ _ _ _ _ => []
  | .andRsr _ _ _ _ _ _ _ => []
  | .eorImm _ _ _ _ _ _ => []
  | .eorReg _ _ _ _ _ _ _ => []
  | .eorRsr _ _ _ _ _ _ _ => []
  | .subImm _ _ _ _ _ _ => []
  | .subReg _ _ _ _ _ _ _ => []
  | .subRsr _ _ _ _ _ _ _ => []
  | .rsbImm _ _ _ _ _ _ => []
  | .rsbReg _ _ _ _ _ _ _ => []
  | .rsbRsr _ _ _ _ _ _ _ => []
  | .addImm _ _ _ _ _ _ => []
  | .addReg _ _ _ _ _ _ _ => []
  | .addRsr _ _ _ _ _ _ _ => []
  | .adcImm _ _ _ _ _ _ => []
  | .adcReg _ _ _ _ _ _ _ => []
  | .adcRsr _ _ _ _ _ _ _ => []
  | .sbcImm _ _ _ _ _ _ => []
  | .sbcReg _ _ _ _ _ _ _ => []
  | .sbcRsr _ _ _ _ _ _ _ => []
  | .rscImm _ _ _ _ _ _ => []
  | .rscReg _ _ _ _ _ _ _ => []
  | .rscRsr _ _ _ _ _ _ _ => []
  | .tstImm _ _ _ _ _ => []
  | .tstReg _ _ _ _ _ _ => []
  | .tstRsr _ _ _ _ _ _ => []
  | .teqImm _ _ _ _ _ => []
  | .teqReg _ _ _ _ _ _ => []
  | .teqRsr _ _ _ _ _ _ => []
  | .cmpImm _ _ _ _ _ => []
  | .cmpReg _ _ _ _ _ _ => []
  | .cmpRsr _ _ _ _ _ _ => []
  | .cmnImm _ _ _ _ _ => []
  | .cmnReg _ _ _ _ _ _ => []
  | .cmnRsr _ _ _ _ _ _ => []
  | .orrImm _ _ _ _ _ _ => []
  | .orrReg _ _ _ _ _ _ _ => []
  | .orrRsr _ _ _ _ _ _ _ => []
  | .movImm _ _ _ _ _ _ => []
  | .movReg _ _ _ _ _ _ _ => []
  | .movRsr _ _ _ _ _ _ _ => []
  | .bicImm _ _ _ _ _ _ => []
  | .bicReg _ _ _ _ _ _ _ => []
  | .bicRsr _ _ _ _ _ _ _ => []
  | .mvnImm _ _ _ _ _ _ => []
  | .mvnReg _ _ _ _ _ _ _ => []
  | .mvnRsr _ _ _ _ _ _ _ => []
  | .ldrtImm _ _ _ _ _ => []
  | .ldrtReg _ _ _ _ _ _ _ => []
  | .strtImm _ u rn rd imm12 => [((Width.word).align (transferAddr false u (s.reg rn) (imm12.setWidth 32)), .word, s.regLate rd)]
  | .strtReg _ u rn rd amt ty rm => [((Width.word).align (transferAddr false u (s.reg rn) (s.regOperand amt ty rm).value), .word, s.regLate rd)]
  | .ldrbtImm _ _ _ _ _ => []
  | .ldrbtReg _ _ _ _ _ _ _ => []
  | .strbtImm _ u rn rd imm12 => [((Width.byte).align (transferAddr false u (s.reg rn) (imm12.setWidth 32)), .byte, s.regLate rd)]
  | .strbtReg _ u rn rd amt ty rm => [((Width.byte).align (transferAddr false u (s.reg rn) (s.regOperand amt ty rm).value), .byte, s.regLate rd)]
  | .ldrImm _ _ _ _ _ _ _ => []
  | .ldrReg _ _ _ _ _ _ _ _ _ => []
  | .strImm _ p u _ rn rd imm12 => [((Width.word).align (transferAddr p u (s.reg rn) (imm12.setWidth 32)), .word, s.regLate rd)]
  | .strReg _ p u _ rn rd amt ty rm => [((Width.word).align (transferAddr p u (s.reg rn) (s.regOperand amt ty rm).value), .word, s.regLate rd)]
  | .ldrbImm _ _ _ _ _ _ _ => []
  | .ldrbReg _ _ _ _ _ _ _ _ _ => []
  | .strbImm _ p u _ rn rd imm12 => [((Width.byte).align (transferAddr p u (s.reg rn) (imm12.setWidth 32)), .byte, s.regLate rd)]
  | .strbReg _ p u _ rn rd amt ty rm => [((Width.byte).align (transferAddr p u (s.reg rn) (s.regOperand amt ty rm).value), .byte, s.regLate rd)]
  | .undSpace _ _ _ => []
  | .ldm _ _ _ _ _ _ _ => []
  | .stm _ p u sf w rn list => storedWords (blockStart p u (s.reg rn) (listRegs list).length)
      (s.storeValues (if sf then .usr else s.core.cpsr.mode)
        (if w then some (rn, blockBase u (s.reg rn) (listRegs list).length) else none) (listRegs list) 0)
  | .b _ _ => []
  | .bl _ _ => []
  | .swi _ _ => []
  | .cdp _ _ _ _ _ _ _ => []
  | .mcr _ _ _ _ _ _ _ => []
  | .mrc _ _ _ _ _ _ _ => []
  | .ldc _ _ _ _ _ _ _ _ _ => []
  | .stc _ _ _ _ _ _ _ _ _ => []
  | .undOther _ _ => []
  | .tLslImm _ _ _ => []
  | .tLsrImm _ _ _ => []
  | .tAsrImm _ _ _ => []
  | .tAddReg _ _ _ => []
  | .tSubReg _ _ _ => []
  | .tAddImm3 _ _ _ => []
  | .tSubImm3 _ _ _ => []
  | .tMovImm8 _ _ => []
  | .tCmpImm8 _ _ => []
  | .tAddImm8 _ _ => []
  | .tSubImm8 _ _ => []
  | .tAnd _ _ => []
  | .tEor _ _ => []
  | .tLslReg _ _ => []
  | .tLsrReg _ _ => []
  | .tAsrReg _ _ => []
  | .tAdc _ _ => []
  | .tSbc _ _ => []
  | .tRorReg _ _ => []
  | .tTst _ _ => []
  | .tNeg _ _ => []
  | .tCmpReg _ _ => []
  | .tCmn _ _ => []
  | .tOrr _ _ => []
  | .tMul _ _ => []
  | .tBic _ _ => []
  | .tMvn _ _ => []
  | .tAddHi _ _ => []
  | .tCmpHi _ _ => []
  | .tMovHi _ _ => []
  | .tBx _ _ => []
  | .tLdrPc _ _ => []
  | .tStrReg ro rb rd => [((Width.word).align (s.low rb + s.low ro), .word, s.low rd)]
  | .tStrbReg ro rb rd => [((Width.byte).align (s.low rb + s.low ro), .byte, s.low rd)]
  | .tLdrReg _ _ _ => []
  | .tLdrbReg _ _ _ => []
  | .tStrhReg ro rb rd => [((Width.half).align (s.low rb + s.low ro), .half, s.low rd)]
  | .tLdsbReg _ _ _ => []
  | .tLdrhReg _ _ _ => []
  | .tLdshReg _ _ _ => []
  | .tStrImm imm5 rb rd => [((Width.word).align (s.low rb + scaled 4 imm5), .word, s.low rd)]
  | .tLdrImm _ _ _ => []
  | .tStrbImm imm5 rb rd => [((Width.byte).align (s.low rb + scaled 1 imm5), .byte, s.low rd)]
  | .tLdrbImm _ _ _ => []
  | .tStrhImm imm5 rb rd => [((Width.half).align (s.low rb + scaled 2 imm5), .half, s.low rd)]
  | .tLdrhImm _ _ _ => []
  | .tStrSp rd imm8 => [((Width.word).align (s.reg 13 + scaled 4 imm8), .word, s.low rd)]
  | .tLdrSp _ _ => []
  | .tAddPc _ _ => []
  | .tAddSp _ _ => []
  | .tAddSpImm _ => []
  | .tSubSpImm _ => []
  | .tPush r rlist => storedWords (s.reg 13 - blockBytes (lowListRegs rlist ++ if r then [14] else []).length)
      (s.storeValues s.core.cpsr.mode none (lowListRegs rlist ++ if r then [14] else []) 0)
  | .tPop _ _ => []
  | .tStmia rb rlist => storedWords (s.low rb)
      (s.storeValues s.core.cpsr.mode (some (lowReg rb, s.low rb + blockBytes (lowListRegs rlist).length))
        (lowListRegs rlist) 0)
  | .tLdmia _ _ => []
  | .tSwi _ => []
  | .tUndCond _ => []
  | .tBcond _ _ => []
  | .tB _ => []
  | .tBlHi _ => []
  | .tBlLo _ => []
  | .tUndOther _ => []

/-- The byte one stored access puts in a cell of backing storage, after the width rules (R85, R88); none where it puts
none: a write that is ignored, a register window, another cell. -/
def storeByte (s : State) (x : Word × Width × Word) (cell : Nat) : Option Byte :=
  match lookup s.par.regions x.1 with
  | none => none
  | some r =>
    match r.handler with
    | .storage | .renderer =>
      match r.target x.1 x.2.1 x.2.2 with
      | none => none
      | some (first, w, v) => if first ≤ cell ∧ cell < first + w.bytes then some (lane v (cell - first)) else none
    | .io => none
    | .backup =>
      if r.writable (r.offset x.1) x.2.1 && r.writeWidths.contains x.2.1 && cell == r.store + r.offset x.1 then
        some (lane x.2.2 0)
      else none

/-- The byte kept for an address: what backing storage holds, whoever wrote it; none where there is none. -/
def State.peek (s : State) (a : Word) : Option Byte := (s.cell a).map fun c => Memory.read s.mem c

/-- The byte kept for an address after a list of stored accesses, the later over the earlier; an address none of them
covers keeps its byte. -/
def State.peekAfter (s : State) (xs : List (Word × Width × Word)) (a : Word) : Option Byte :=
  (s.cell a).map fun c => xs.foldl (fun b x => (storeByte s x c).getD b) (Memory.read s.mem c)

/-! ## When an instruction runs, and what it takes -/

/-- The core is in the instruction's variant and its condition, where it has one, is true (R131, R133). -/
def Ready (i : Instr) (s : State) : Prop :=
  s.core.cpsr.t = i.isCompact ∧ ∀ c, i.cond = some c → condHolds c s.core.cpsr = true

/-- Whether an instruction whose condition is true takes an exception (R405 to R407). -/
def takesException (s : State) (i : Instr) : Bool :=
  match i with
  | .mcr _ _ _ _ cp _ _ => cp != 15 || (s.core.cpsr.mode == .usr && s.par.privPolicy == .trap)
  | .mrc _ _ _ _ cp _ _ => cp != 15 || (s.core.cpsr.mode == .usr && s.par.privPolicy == .trap)
  | i => shape i == .trap || (isPrivileged i && s.core.cpsr.mode == .usr && s.par.privPolicy == .trap)

/-! ## Data processing: the opcodes and their operand2 -/

/-- The three forms of operand2 (R138, R139, R140). -/
inductive Operand2
  | imm (rot : BitVec 4) (imm8 : BitVec 8)
  | reg (amt : BitVec 5) (ty : ShiftKind) (rm : Reg)
  | rsr (rs : Reg) (ty : ShiftKind) (rm : Reg)
deriving DecidableEq, Repr

/-- Its value and carry-out. -/
def Operand2.shifter (s : State) : Operand2 → Shifted
  | .imm rot imm8 => immOperand rot imm8 s.core.cpsr.c
  | .reg amt ty rm => s.regOperand amt ty rm
  | .rsr rs ty rm => s.rsrOperand rs ty rm

/-- The first operand beside it: `r15` reads `pc + 12` in the register-shift form (R140). -/
def Operand2.first (s : State) (rn : Reg) : Operand2 → Word
  | .imm _ _ => s.reg rn
  | .reg _ _ _ => s.reg rn
  | .rsr _ _ _ => s.regLate rn

/-- The internal cycles of the form (R190). -/
def Operand2.cycles (s : State) : Operand2 → Nat
  | .imm _ _ => 0
  | .reg _ _ _ => 0
  | .rsr _ _ _ => s.par.internal.shiftByRegister

/-- The form has a meaning: not the one with `r15` as shift amount (U4). -/
def Operand2.Allowed : Operand2 → Prop
  | .imm _ _ => True
  | .reg _ _ _ => True
  | .rsr rs _ _ => rs ≠ 15

/-- The logical opcodes that write `Rd` (R171). -/
inductive LogicOp
  | and | eor | orr | mov | bic | mvn
deriving DecidableEq, Repr

/-- What they compute (R174, R175, R186 to R189). -/
def LogicOp.result : LogicOp → Word → Word → Word
  | .and, a, b => a &&& b
  | .eor, a, b => a ^^^ b
  | .orr, a, b => a ||| b
  | .mov, _, b => b
  | .bic, a, b => a &&& ~~~b
  | .mvn, _, b => ~~~b

/-- The arithmetic opcodes (R172). -/
inductive ArithOp
  | sub | rsb | add | adc | sbc | rsc
deriving DecidableEq, Repr

/-- The exact sum or difference, the operands read as numbers by `f` (R176 to R181). -/
def ArithOp.exact (k : ArithOp) (f : Word → Int) (a b : Word) (c : Bool) : Int :=
  match k with
  | .add => f a + f b
  | .adc => f a + f b + c.toNat
  | .sub => f a - f b
  | .sbc => f a - f b - (1 - c.toNat)
  | .rsb => f b - f a
  | .rsc => f b - f a - (1 - c.toNat)

/-- Read without a sign. -/
def unsigned (w : Word) : Int := w.toNat

/-- The result modulo 2^32 (R191). -/
def ArithOp.result (k : ArithOp) (a b : Word) (c : Bool) : Word := BitVec.ofInt 32 (k.exact unsigned a b c)

/-- The carry: of a sum, that it passes 2^32; of a difference, that nothing is borrowed (R172). -/
def ArithOp.carries (k : ArithOp) (a b : Word) (c : Bool) : Prop :=
  match k with
  | .add => 2 ^ 32 ≤ k.exact unsigned a b c
  | .adc => 2 ^ 32 ≤ k.exact unsigned a b c
  | .sub => 0 ≤ k.exact unsigned a b c
  | .sbc => 0 ≤ k.exact unsigned a b c
  | .rsb => 0 ≤ k.exact unsigned a b c
  | .rsc => 0 ≤ k.exact unsigned a b c

/-- The signed overflow: the exact signed value does not fit (R176, R191). -/
def ArithOp.overflows (k : ArithOp) (a b : Word) (c : Bool) : Prop :=
  k.exact BitVec.toInt a b c < -2 ^ 31 ∨ 2 ^ 31 ≤ k.exact BitVec.toInt a b c

/-- A logical opcode in one of its forms. -/
def LogicOp.instr (k : LogicOp) (c : Cond) (sf : Bool) (rn rd : Reg) (o : Operand2) : Instr :=
  match k, o with
  | .and, .imm rot imm8 => .andImm c sf rn rd rot imm8
  | .and, .reg amt ty rm => .andReg c sf rn rd amt ty rm
  | .and, .rsr rs ty rm => .andRsr c sf rn rd rs ty rm
  | .eor, .imm rot imm8 => .eorImm c sf rn rd rot imm8
  | .eor, .reg amt ty rm => .eorReg c sf rn rd amt ty rm
  | .eor, .rsr rs ty rm => .eorRsr c sf rn rd rs ty rm
  | .orr, .imm rot imm8 => .orrImm c sf rn rd rot imm8
  | .orr, .reg amt ty rm => .orrReg c sf rn rd amt ty rm
  | .orr, .rsr rs ty rm => .orrRsr c sf rn rd rs ty rm
  | .mov, .imm rot imm8 => .movImm c sf rn rd rot imm8
  | .mov, .reg amt ty rm => .movReg c sf rn rd amt ty rm
  | .mov, .rsr rs ty rm => .movRsr c sf rn rd rs ty rm
  | .bic, .imm rot imm8 => .bicImm c sf rn rd rot imm8
  | .bic, .reg amt ty rm => .bicReg c sf rn rd amt ty rm
  | .bic, .rsr rs ty rm => .bicRsr c sf rn rd rs ty rm
  | .mvn, .imm rot imm8 => .mvnImm c sf rn rd rot imm8
  | .mvn, .reg amt ty rm => .mvnReg c sf rn rd amt ty rm
  | .mvn, .rsr rs ty rm => .mvnRsr c sf rn rd rs ty rm

/-- An arithmetic opcode in one of its forms. -/
def ArithOp.instr (k : ArithOp) (c : Cond) (sf : Bool) (rn rd : Reg) (o : Operand2) : Instr :=
  match k, o with
  | .sub, .imm rot imm8 => .subImm c sf rn rd rot imm8
  | .sub, .reg amt ty rm => .subReg c sf rn rd amt ty rm
  | .sub, .rsr rs ty rm => .subRsr c sf rn rd rs ty rm
  | .rsb, .imm rot imm8 => .rsbImm c sf rn rd rot imm8
  | .rsb, .reg amt ty rm => .rsbReg c sf rn rd amt ty rm
  | .rsb, .rsr rs ty rm => .rsbRsr c sf rn rd rs ty rm
  | .add, .imm rot imm8 => .addImm c sf rn rd rot imm8
  | .add, .reg amt ty rm => .addReg c sf rn rd amt ty rm
  | .add, .rsr rs ty rm => .addRsr c sf rn rd rs ty rm
  | .adc, .imm rot imm8 => .adcImm c sf rn rd rot imm8
  | .adc, .reg amt ty rm => .adcReg c sf rn rd amt ty rm
  | .adc, .rsr rs ty rm => .adcRsr c sf rn rd rs ty rm
  | .sbc, .imm rot imm8 => .sbcImm c sf rn rd rot imm8
  | .sbc, .reg amt ty rm => .sbcReg c sf rn rd amt ty rm
  | .sbc, .rsr rs ty rm => .sbcRsr c sf rn rd rs ty rm
  | .rsc, .imm rot imm8 => .rscImm c sf rn rd rot imm8
  | .rsc, .reg amt ty rm => .rscReg c sf rn rd amt ty rm
  | .rsc, .rsr rs ty rm => .rscRsr c sf rn rd rs ty rm

/-- The opcodes that write `Rd`. -/
inductive DpOp
  | logic (k : LogicOp)
  | arith (k : ArithOp)
deriving DecidableEq, Repr

def DpOp.instr (k : DpOp) (c : Cond) (sf : Bool) (rn rd : Reg) (o : Operand2) : Instr :=
  match k with
  | .logic k => k.instr c sf rn rd o
  | .arith k => k.instr c sf rn rd o

/-- The result in a state. -/
def DpOp.result (k : DpOp) (s : State) (rn : Reg) (o : Operand2) : Word :=
  match k with
  | .logic k => k.result (o.first s rn) (o.shifter s).value
  | .arith k => k.result (o.first s rn) (o.shifter s).value s.core.cpsr.c

/-- The four test opcodes. -/
inductive TestOp
  | tst | teq | cmp | cmn
deriving DecidableEq, Repr

def TestOp.instr (k : TestOp) (c : Cond) (rn rd : Reg) (o : Operand2) : Instr :=
  match k, o with
  | .tst, .imm rot imm8 => .tstImm c rn rd rot imm8
  | .tst, .reg amt ty rm => .tstReg c rn rd amt ty rm
  | .tst, .rsr rs ty rm => .tstRsr c rn rd rs ty rm
  | .teq, .imm rot imm8 => .teqImm c rn rd rot imm8
  | .teq, .reg amt ty rm => .teqReg c rn rd amt ty rm
  | .teq, .rsr rs ty rm => .teqRsr c rn rd rs ty rm
  | .cmp, .imm rot imm8 => .cmpImm c rn rd rot imm8
  | .cmp, .reg amt ty rm => .cmpReg c rn rd amt ty rm
  | .cmp, .rsr rs ty rm => .cmpRsr c rn rd rs ty rm
  | .cmn, .imm rot imm8 => .cmnImm c rn rd rot imm8
  | .cmn, .reg amt ty rm => .cmnReg c rn rd amt ty rm
  | .cmn, .rsr rs ty rm => .cmnRsr c rn rd rs ty rm

/-! ## Compact arithmetic and moves -/

/-- The compact sums and differences that write a low register: the opcode, its operands, the register (R284 to R287,
R290, R291, R297, R298, R301). -/
def compactArith (s : State) : Instr → Option (ArithOp × Word × Word × LReg)
  | .tAddReg rn rs rd => some (.add, s.low rs, s.low rn, rd)
  | .tSubReg rn rs rd => some (.sub, s.low rs, s.low rn, rd)
  | .tAddImm3 imm3 rs rd => some (.add, s.low rs, imm3.setWidth 32, rd)
  | .tSubImm3 imm3 rs rd => some (.sub, s.low rs, imm3.setWidth 32, rd)
  | .tAddImm8 rd imm8 => some (.add, s.low rd, imm8.setWidth 32, rd)
  | .tSubImm8 rd imm8 => some (.sub, s.low rd, imm8.setWidth 32, rd)
  | .tAdc rs rd => some (.adc, s.low rd, s.low rs, rd)
  | .tSbc rs rd => some (.sbc, s.low rd, s.low rs, rd)
  | .tNeg rs rd => some (.sub, 0, s.low rs, rd)
  | _ => none

/-- The compact comparisons (R289, R302, R303, R309). -/
def compactCompare (s : State) : Instr → Option (ArithOp × Word × Word)
  | .tCmpImm8 rd imm8 => some (.sub, s.low rd, imm8.setWidth 32)
  | .tCmpReg rs rd => some (.sub, s.low rd, s.low rs)
  | .tCmn rs rd => some (.add, s.low rd, s.low rs)
  | .tCmpHi rd rs => some (.sub, s.reg rd, s.reg rs)
  | _ => none

/-- The compact logical instructions and shifts: result, carry, the register they write, their internal cycles (R281 to
R283, R288, R292 to R296, R299, R300, R304, R306, R307, R315). -/
def compactLogic (s : State) : Instr → Option (Shifted × Option LReg × Nat)
  | .tLslImm imm5 rs rd => some (shiftImm .lsl imm5 (s.low rs) s.core.cpsr.c, some rd, 0)
  | .tLsrImm imm5 rs rd => some (shiftImm .lsr imm5 (s.low rs) s.core.cpsr.c, some rd, 0)
  | .tAsrImm imm5 rs rd => some (shiftImm .asr imm5 (s.low rs) s.core.cpsr.c, some rd, 0)
  | .tLslReg rs rd => some (shiftReg .lsl (s.low rs) (s.low rd) s.core.cpsr.c, some rd, s.par.internal.shiftByRegister)
  | .tLsrReg rs rd => some (shiftReg .lsr (s.low rs) (s.low rd) s.core.cpsr.c, some rd, s.par.internal.shiftByRegister)
  | .tAsrReg rs rd => some (shiftReg .asr (s.low rs) (s.low rd) s.core.cpsr.c, some rd, s.par.internal.shiftByRegister)
  | .tRorReg rs rd => some (shiftReg .ror (s.low rs) (s.low rd) s.core.cpsr.c, some rd, s.par.internal.shiftByRegister)
  | .tMovImm8 rd imm8 => some (⟨imm8.setWidth 32, s.core.cpsr.c⟩, some rd, 0)
  | .tAnd rs rd => some (⟨s.low rd &&& s.low rs, s.core.cpsr.c⟩, some rd, 0)
  | .tEor rs rd => some (⟨s.low rd ^^^ s.low rs, s.core.cpsr.c⟩, some rd, 0)
  | .tOrr rs rd => some (⟨s.low rd ||| s.low rs, s.core.cpsr.c⟩, some rd, 0)
  | .tBic rs rd => some (⟨s.low rd &&& ~~~s.low rs, s.core.cpsr.c⟩, some rd, 0)
  | .tMvn rs rd => some (⟨~~~s.low rs, s.core.cpsr.c⟩, some rd, 0)
  | .tTst rs rd => some (⟨s.low rd &&& s.low rs, s.core.cpsr.c⟩, none, 0)
  | _ => none

/-- The compact instructions that write a register and no flag: the register and the value (R308, R310 to R314). -/
def compactMove (s : State) : Instr → Option (Reg × Word)
  | .tAddHi rd rs => some (rd, s.reg rd + s.reg rs)
  | .tMovHi rd rs => some (rd, s.reg rs)
  | .tAddPc rd imm8 => some (lowReg rd, ((s.pc + 4) &&& ~~~2) + imm8.setWidth 32 * 4)
  | .tAddSp rd imm8 => some (lowReg rd, s.reg 13 + imm8.setWidth 32 * 4)
  | .tAddSpImm imm7 => some (13, s.reg 13 + imm7.setWidth 32 * 4)
  | .tSubSpImm imm7 => some (13, s.reg 13 - imm7.setWidth 32 * 4)
  | _ => none

/-! ## Loads and block transfers -/

/-- The five ways a single load reads (R211, R213, R220, R222, R223). -/
inductive LoadKind
  | word | byte | half | signedByte | signedHalf
deriving DecidableEq, Repr

/-- A single load: how it reads, its effective address, its destination. The address is the one its meaning computes. -/
def loadOf (s : State) : Instr → Option (LoadKind × Word × Reg)
  | .ldrhReg _ p u _ rn rd _ rm => some (.half, transferAddr p u (s.reg rn) (s.reg rm), rd)
  | .ldrhImm _ p u _ rn rd offH offL => some (.half, transferAddr p u (s.reg rn) (halfOffset offH offL), rd)
  | .ldrsbReg _ p u _ rn rd _ rm => some (.signedByte, transferAddr p u (s.reg rn) (s.reg rm), rd)
  | .ldrsbImm _ p u _ rn rd offH offL => some (.signedByte, transferAddr p u (s.reg rn) (halfOffset offH offL), rd)
  | .ldrshReg _ p u _ rn rd _ rm => some (.signedHalf, transferAddr p u (s.reg rn) (s.reg rm), rd)
  | .ldrshImm _ p u _ rn rd offH offL => some (.signedHalf, transferAddr p u (s.reg rn) (halfOffset offH offL), rd)
  | .ldrtImm _ u rn rd imm12 => some (.word, transferAddr false u (s.reg rn) (imm12.setWidth 32), rd)
  | .ldrtReg _ u rn rd amt ty rm => some (.word, transferAddr false u (s.reg rn) (s.regOperand amt ty rm).value, rd)
  | .ldrbtImm _ u rn rd imm12 => some (.byte, transferAddr false u (s.reg rn) (imm12.setWidth 32), rd)
  | .ldrbtReg _ u rn rd amt ty rm => some (.byte, transferAddr false u (s.reg rn) (s.regOperand amt ty rm).value, rd)
  | .ldrImm _ p u _ rn rd imm12 => some (.word, transferAddr p u (s.reg rn) (imm12.setWidth 32), rd)
  | .ldrReg _ p u _ rn rd amt ty rm => some (.word, transferAddr p u (s.reg rn) (s.regOperand amt ty rm).value, rd)
  | .ldrbImm _ p u _ rn rd imm12 => some (.byte, transferAddr p u (s.reg rn) (imm12.setWidth 32), rd)
  | .ldrbReg _ p u _ rn rd amt ty rm => some (.byte, transferAddr p u (s.reg rn) (s.regOperand amt ty rm).value, rd)
  | .tLdrPc rd imm8 => some (.word, ((s.pc + 4) &&& ~~~2) + imm8.setWidth 32 * 4, lowReg rd)
  | .tLdrReg ro rb rd => some (.word, s.low rb + s.low ro, lowReg rd)
  | .tLdrbReg ro rb rd => some (.byte, s.low rb + s.low ro, lowReg rd)
  | .tLdsbReg ro rb rd => some (.signedByte, s.low rb + s.low ro, lowReg rd)
  | .tLdrhReg ro rb rd => some (.half, s.low rb + s.low ro, lowReg rd)
  | .tLdshReg ro rb rd => some (.signedHalf, s.low rb + s.low ro, lowReg rd)
  | .tLdrImm imm5 rb rd => some (.word, s.low rb + imm5.setWidth 32 * 4, lowReg rd)
  | .tLdrbImm imm5 rb rd => some (.byte, s.low rb + imm5.setWidth 32 * 1, lowReg rd)
  | .tLdrhImm imm5 rb rd => some (.half, s.low rb + imm5.setWidth 32 * 2, lowReg rd)
  | .tLdrSp rd imm8 => some (.word, s.reg 13 + imm8.setWidth 32 * 4, lowReg rd)
  | _ => none

/-- The access a single load makes: its address on the Bus and its width (R78). -/
def LoadKind.access (k : LoadKind) (a : Word) : Word × Width :=
  match k with
  | .word => (a &&& ~~~3, .word)
  | .byte => (a, .byte)
  | .half => (a &&& ~~~1, .half)
  | .signedByte => (a, .byte)
  | .signedHalf => if a.getLsbD 0 then (a, .byte) else (a, .half)

/-- The value the Bus answers to an access in a state. -/
def State.busValue (s : State) (x : Word × Width) : Word := (s.busRead x.1 x.2 .n).1

/-- The value a single load delivers (R79, R80, R81). -/
def LoadKind.value (k : LoadKind) (s : State) (a : Word) : Word :=
  let v := s.busValue (k.access a)
  match k with
  | .word => v.rotateRight (8 * (a.toNat % 4))
  | .byte => v
  | .half => if a.getLsbD 0 then v.extractLsb' 0 8 ++ 0#16 ++ v.extractLsb' 8 8 else v
  | .signedByte => (v.extractLsb' 0 8).signExtend 32
  | .signedHalf => if a.getLsbD 0 then (v.extractLsb' 0 8).signExtend 32 else (v.extractLsb' 0 16).signExtend 32

/-- The base register an instruction writes back and the value it gets (R210, R240, R358 to R361). -/
def backOf (s : State) : Instr → Option (Reg × Word)
  | .strhReg _ p u w rn _ _ rm => if writesBack p w then some (rn, transferBase u (s.reg rn) (s.reg rm)) else none
  | .strhImm _ p u w rn _ offH offL => if writesBack p w then some (rn, transferBase u (s.reg rn) (halfOffset offH offL)) else none
  | .ldrhReg _ p u w rn _ _ rm => if writesBack p w then some (rn, transferBase u (s.reg rn) (s.reg rm)) else none
  | .ldrhImm _ p u w rn _ offH offL => if writesBack p w then some (rn, transferBase u (s.reg rn) (halfOffset offH offL)) else none
  | .ldrsbReg _ p u w rn _ _ rm => if writesBack p w then some (rn, transferBase u (s.reg rn) (s.reg rm)) else none
  | .ldrsbImm _ p u w rn _ offH offL => if writesBack p w then some (rn, transferBase u (s.reg rn) (halfOffset offH offL)) else none
  | .ldrshReg _ p u w rn _ _ rm => if writesBack p w then some (rn, transferBase u (s.reg rn) (s.reg rm)) else none
  | .ldrshImm _ p u w rn _ offH offL => if writesBack p w then some (rn, transferBase u (s.reg rn) (halfOffset offH offL)) else none
  | .ldrtImm _ u rn _ imm12 => some (rn, transferBase u (s.reg rn) (imm12.setWidth 32))
  | .ldrtReg _ u rn _ amt ty rm => some (rn, transferBase u (s.reg rn) (s.regOperand amt ty rm).value)
  | .strtImm _ u rn _ imm12 => some (rn, transferBase u (s.reg rn) (imm12.setWidth 32))
  | .strtReg _ u rn _ amt ty rm => some (rn, transferBase u (s.reg rn) (s.regOperand amt ty rm).value)
  | .ldrbtImm _ u rn _ imm12 => some (rn, transferBase u (s.reg rn) (imm12.setWidth 32))
  | .ldrbtReg _ u rn _ amt ty rm => some (rn, transferBase u (s.reg rn) (s.regOperand amt ty rm).value)
  | .strbtImm _ u rn _ imm12 => some (rn, transferBase u (s.reg rn) (imm12.setWidth 32))
  | .strbtReg _ u rn _ amt ty rm => some (rn, transferBase u (s.reg rn) (s.regOperand amt ty rm).value)
  | .ldrImm _ p u w rn _ imm12 => if writesBack p w then some (rn, transferBase u (s.reg rn) (imm12.setWidth 32)) else none
  | .ldrReg _ p u w rn _ amt ty rm => if writesBack p w then some (rn, transferBase u (s.reg rn) (s.regOperand amt ty rm).value) else none
  | .strImm _ p u w rn _ imm12 => if writesBack p w then some (rn, transferBase u (s.reg rn) (imm12.setWidth 32)) else none
  | .strReg _ p u w rn _ amt ty rm => if writesBack p w then some (rn, transferBase u (s.reg rn) (s.regOperand amt ty rm).value) else none
  | .ldrbImm _ p u w rn _ imm12 => if writesBack p w then some (rn, transferBase u (s.reg rn) (imm12.setWidth 32)) else none
  | .ldrbReg _ p u w rn _ amt ty rm => if writesBack p w then some (rn, transferBase u (s.reg rn) (s.regOperand amt ty rm).value) else none
  | .strbImm _ p u w rn _ imm12 => if writesBack p w then some (rn, transferBase u (s.reg rn) (imm12.setWidth 32)) else none
  | .strbReg _ p u w rn _ amt ty rm => if writesBack p w then some (rn, transferBase u (s.reg rn) (s.regOperand amt ty rm).value) else none
  | .ldm _ _ u _ w rn list => if w then some (rn, blockBase u (s.reg rn) (listRegs list).length) else none
  | .stm _ _ u _ w rn list => if w then some (rn, blockBase u (s.reg rn) (listRegs list).length) else none
  | .tPush r rlist => some (13, s.reg 13 - blockBytes (lowListRegs rlist ++ if r then [14] else []).length)
  | .tPop r rlist => some (13, s.reg 13 + blockBytes (lowListRegs rlist ++ if r then [15] else []).length)
  | .tStmia rb rlist => some (lowReg rb, s.low rb + blockBytes (lowListRegs rlist).length)
  | .tLdmia rb rlist => some (lowReg rb, s.low rb + blockBytes (lowListRegs rlist).length)
  | _ => none

/-- The register that supplies an offset, where one does (U6). -/
def offsetReg : Instr → Option Reg
  | .strhReg _ _ _ _ _ _ _ rm => some rm
  | .ldrhReg _ _ _ _ _ _ _ rm => some rm
  | .ldrsbReg _ _ _ _ _ _ _ rm => some rm
  | .ldrshReg _ _ _ _ _ _ _ rm => some rm
  | .ldrtReg _ _ _ _ _ _ rm => some rm
  | .strtReg _ _ _ _ _ _ rm => some rm
  | .ldrbtReg _ _ _ _ _ _ rm => some rm
  | .strbtReg _ _ _ _ _ _ rm => some rm
  | .ldrReg _ _ _ _ _ _ _ _ rm => some rm
  | .strReg _ _ _ _ _ _ _ _ rm => some rm
  | .ldrbReg _ _ _ _ _ _ _ _ rm => some rm
  | .strbReg _ _ _ _ _ _ _ _ rm => some rm
  | _ => none

/-- The halfword format with `P = 0` and `W = 1` (U9). -/
def badHalfword : Instr → Bool
  | .strhReg _ p _ w _ _ _ _ => !p && w
  | .strhImm _ p _ w _ _ _ _ => !p && w
  | .ldrhReg _ p _ w _ _ _ _ => !p && w
  | .ldrhImm _ p _ w _ _ _ _ => !p && w
  | .ldrsbReg _ p _ w _ _ _ _ => !p && w
  | .ldrsbImm _ p _ w _ _ _ _ => !p && w
  | .ldrshReg _ p _ w _ _ _ _ => !p && w
  | .ldrshImm _ p _ w _ _ _ _ => !p && w
  | _ => false

/-- The register a full-variant single store stores (U8). -/
def storeSource : Instr → Option Reg
  | .strhReg _ _ _ _ _ rd _ _ => some rd
  | .strhImm _ _ _ _ _ rd _ _ => some rd
  | .strtImm _ _ _ rd _ => some rd
  | .strtReg _ _ _ rd _ _ _ => some rd
  | .strbtImm _ _ _ rd _ => some rd
  | .strbtReg _ _ _ rd _ _ _ => some rd
  | .strImm _ _ _ _ _ rd _ => some rd
  | .strReg _ _ _ _ _ rd _ _ _ => some rd
  | .strbImm _ _ _ _ _ rd _ => some rd
  | .strbReg _ _ _ _ _ rd _ _ _ => some rd
  | _ => none

/-- A single transfer has a meaning: no `r15` as offset register or written-back base, no post-indexed halfword form
with `W = 1`, no store of a written-back base (U6, U8, U9). -/
def transferAllowed (s : State) (i : Instr) : Prop :=
  offsetReg i ≠ some 15 ∧ badHalfword i = false ∧ (∀ rn v, backOf s i = some (rn, v) → rn ≠ 15) ∧
  (∀ rn v, backOf s i = some (rn, v) → storeSource i ≠ some rn)

/-- A multiple load: the bank it loads, its registers ascending, its lowest address (R240, R241, R243, R359, R361). -/
def blockLoad (s : State) : Instr → Option (Mode × List Reg × Word)
  | .ldm _ p u sf _ rn list =>
    some (if sf && !list.getLsbD 15 then .usr else s.core.cpsr.mode, listRegs list,
      blockStart p u (s.reg rn) (listRegs list).length)
  | .tPop r rlist => some (s.core.cpsr.mode, lowListRegs rlist ++ (if r then [15] else []), s.reg 13)
  | .tLdmia rb rlist => some (s.core.cpsr.mode, lowListRegs rlist, s.low rb)
  | _ => none

/-- A block transfer has a meaning: base not `r15`, list not empty, no write-back with the User bank (U6, U10, U11,
U20). -/
def blockAllowed : Instr → Prop
  | .ldm _ _ _ sf w rn list => rn ≠ 15 ∧ list ≠ 0 ∧ ¬ (sf = true ∧ list.getLsbD 15 = false ∧ w = true)
  | .stm _ _ _ sf w rn list => rn ≠ 15 ∧ list ≠ 0 ∧ ¬ (sf = true ∧ w = true)
  | .tPush r rlist => r = true ∨ rlist ≠ 0
  | .tPop r rlist => r = true ∨ rlist ≠ 0
  | .tStmia _ rlist => rlist ≠ 0
  | .tLdmia _ rlist => rlist ≠ 0
  | _ => False

/-- The `k`-th word of a block at `start`, as the Bus answers in a state (R240). -/
def State.blockWord (s : State) (start : Word) (k : Nat) : Word :=
  s.busValue ((start + BitVec.ofNat 32 (4 * k)) &&& ~~~3, .word)

/-! ## Comparing two states -/

/-- Every general register but the listed ones and `pc` is unchanged, in every bank (R21, R24). -/
def RegsExcept (ps : List PhysReg) (s t : State) : Prop :=
  ∀ p, p ≠ .pc → p ∉ ps → t.core.regs.get p = s.core.regs.get p

/-- The destinations of an instruction as physical registers of the mode it runs in; a user-bank load names the User
bank (R243). -/
def destRegs (s : State) (i : Instr) : List PhysReg :=
  match i with
  | .ldm _ _ _ true w _ list =>
    if list.getLsbD 15 then (dests i).map (physReg s.core.cpsr.mode)
    else if w then [] else (listRegs list).map (physReg .usr)
  | i => (dests i).map (physReg s.core.cpsr.mode)

/-- N, Z, C, V are unchanged. -/
def SameFlags (s t : State) : Prop :=
  t.core.cpsr.n = s.core.cpsr.n ∧ t.core.cpsr.z = s.core.cpsr.z ∧ t.core.cpsr.c = s.core.cpsr.c ∧
  t.core.cpsr.v = s.core.cpsr.v

/-- I, F and the mode are unchanged. -/
def SameControl (s t : State) : Prop :=
  t.core.cpsr.i = s.core.cpsr.i ∧ t.core.cpsr.f = s.core.cpsr.f ∧ t.core.cpsr.mode = s.core.cpsr.mode

/-- Every device, the other core, the parameters and the surroundings are unchanged. -/
def SameDevices (s t : State) : Prop :=
  t.par = s.par ∧ t.other = s.other ∧ t.irq = s.irq ∧ t.timers = s.timers ∧ t.dma = s.dma ∧ t.waitcnt = s.waitcnt ∧
  t.postFlag = s.postFlag ∧ t.sched = s.sched ∧ t.answers = s.answers ∧ t.outbox = s.outbox

/-- What every instruction that takes no exception and writes no status leaves: all registers but the listed ones, I, F,
the mode, the variant, the saved status registers. -/
structure CoreFrame (ps : List PhysReg) (s t : State) : Prop where
  regs : RegsExcept ps s t
  control : SameControl s t
  variant : t.core.cpsr.t = s.core.cpsr.t
  saved : t.core.spsrs = s.core.spsrs

/-- The frame of an instruction that makes no access: beside registers, condition codes and `pc`, everything. -/
structure OnlyCore (ps : List PhysReg) (s t : State) : Prop extends CoreFrame ps s t where
  bytes : ∀ a, t.peek a = s.peek a
  halted : t.core.halted = s.core.halted
  devices : SameDevices s t

/-- The flags of the logical group (R171). -/
def LogicalFlags (s t : State) (r : Word) (carry : Bool) : Prop :=
  t.core.cpsr.n = r.getLsbD 31 ∧ (t.core.cpsr.z = true ↔ r = 0) ∧ t.core.cpsr.c = carry ∧
  t.core.cpsr.v = s.core.cpsr.v

/-- The flags of the arithmetic group (R172), by the exact values. -/
def ArithFlags (t : State) (k : ArithOp) (a b : Word) (c : Bool) : Prop :=
  t.core.cpsr.n = (k.result a b c).getLsbD 31 ∧ (t.core.cpsr.z = true ↔ k.result a b c = 0) ∧
  (t.core.cpsr.c = true ↔ k.carries a b c) ∧ (t.core.cpsr.v = true ↔ k.overflows a b c)

/-- `t` is `s` after the entry of an exception (R410): mode, bank, saved status, masks, vector, return address. -/
structure Entered (k : ExceptionKind) (ret : Word) (s t : State) : Prop where
  mode : t.core.cpsr.mode = k.mode
  variant : t.core.cpsr.t = false
  masked : t.core.cpsr.i = true
  fast : t.core.cpsr.f = (s.core.cpsr.f || k.setsF)
  flags : SameFlags s t
  saved : t.core.spsrs = s.core.spsrs.set k.mode s.core.cpsr.save
  link : t.getMode k.mode 14 = ret
  vector : t.pc = k.vector
  regs : RegsExcept [physReg k.mode 14] s t
  bytes : ∀ a, t.peek a = s.peek a
  halted : t.core.halted = s.core.halted
  devices : SameDevices s t
  raised : t.report.raised = true

/-- The address lies in storage, the Bus's own or the renderer's, or in no region: an access there reads and writes
bytes and reaches no register (R84). -/
def State.plain (s : State) (a : Word) : Bool :=
  match lookup s.par.regions a with
  | none => true
  | some r => r.handler == .storage || r.handler == .renderer

/-- The address lies in the Bus's own storage or in no region: an access there reaches no collaborator either (R102). -/
def State.quiet (s : State) (a : Word) : Bool :=
  match lookup s.par.regions a with
  | none => true
  | some r => r.handler == .storage

/-- The `n` words of a block at `start` lie where `p` says of their addresses. -/
def eachWord (p : Word → Bool) (start : Word) (n : Nat) : Prop :=
  ∀ k, k < n → p ((start + BitVec.ofNat 32 (4 * k)) &&& ~~~3) = true

/-- What a two-bit selector of `WAITCNT` stands for (R97). -/
def selectedCycles (b : BitVec 2) : Nat := if b = 0 then 4 else if b = 1 then 3 else if b = 2 then 2 else 8

/-- The cost of an access to a ROM window (R96, R97): `1 + WN` or `1 + WS` a halfword, a word being two halfwords of
which the second is sequential. `fast` is the window's `WS` selector, `slow` its `WS` where that is clear. -/
def romCycles (n : BitVec 2) (fast : Bool) (slow : Nat) (w : Width) (seq : Bool) : Nat :=
  let later := 1 + if fast then 1 else slow
  let first := if seq then later else 1 + selectedCycles n
  if w = .word then first + later else first

/-- The address of unit `k` of a DMA transfer: units of width `w` from `start` up, down for mode 1, all at `start` for
mode 2 (R507, R509). -/
def unitAddress (start : Word) (mode : BitVec 2) (w : Width) (k : Nat) : Word :=
  if mode = 2 then start
  else if mode = 1 then start - BitVec.ofNat 32 (k * w.bytes)
  else start + BitVec.ofNat 32 (k * w.bytes)

/-! ## Legal states -/

/-- A core's `pc` is aligned to its variant's instructions (R32). -/
def Core.aligned (c : Core) : Bool :=
  if c.cpsr.t then !c.regs.pc.getLsbD 0 else c.regs.pc.extractLsb' 0 2 == 0

/-- The reserved bits of the device registers read zero (R97, R425, R426, R504). -/
def State.reservedZero (s : State) : Bool :=
  s.irq.enable &&& 0xC000 == 0 && s.irq.pending &&& 0xC000 == 0 && s.waitcnt &&& 0xA000 == 0 &&
  s.dma.all fun x => x.cntH &&& 0x001F == 0

/-- The scanline position is inside the frame (R49, R471). -/
def State.inFrame (s : State) : Bool :=
  decide (s.sched.dot < s.par.lineCycles) && decide (s.sched.line < s.par.linesPerFrame)

/-- The prescale divider of a running timer is below its divisor (R49). -/
def State.dividers (s : State) : Bool :=
  s.timers.all fun x => !x.enable || decide (x.div < prescaleDivisor x.prescale)

/-- No core is behind the devices (R460, R472): `dev_now <= now <= t[c]`. -/
def State.onTime (s : State) : Bool :=
  decide (s.sched.devNow ≤ s.sched.now) && decide (s.sched.now ≤ s.core.time) &&
  (match s.other with | none => true | some o => decide (s.sched.now ≤ o.time))

/-- No stored event is due before the devices' cycle (R462). -/
def State.eventsAhead (s : State) : Bool := s.sched.ticks.all fun t => decide (s.sched.devNow ≤ t.due)

/-- The invariant every step keeps: canonical memory, aligned program counters, reserved bits zero, dividers in range,
the scanline position inside the frame, no core behind the devices, no stored event in the past, no cost left over. -/
def State.Inv (s : State) : Prop :=
  Memory.wf s.mem ∧ s.core.aligned = true ∧ (∀ o, s.other = some o → o.aligned = true) ∧ s.reservedZero = true ∧
  s.dividers = true ∧ s.inFrame = true ∧ s.onTime = true ∧ s.eventsAhead = true ∧ s.report.cost = 0

/-! ## A step -/

/-- The state a step's checkpoint looks at: the core chosen, the devices advanced to its time (R467). -/
def State.atCheckpoint (s : State) : State := s.begin.advanceTo s.begin.sched.now

/-- Everything but the cores' times: what the cost function does not reach in one step (R569). -/
def State.untimed (s : State) : State :=
  { s with core := { s.core with time := 0 }, other := s.other.map fun o => { o with time := 0 } }

/-- The kind a fetch is proposed as (R561). -/
def State.fetchKind (s : State) : AccessKind := if s.core.seq then .s else .n

end Machine

end Sys2Proof
end

