-- ==== Sys2Proof/Certificates/Slice0/Obligations.lean ====
section
/-! DEFINITION. The statements to be proved about the model. Each docstring names the rules it rests on. -/

open Sys2Proof Sys2Proof.Machine

/-! ## Encoding -/

/-- R135, R137 to R158: what the encoder writes for a well-formed instruction, the decoder of its variant reads back,
and leaves the bytes that follow. -/
def Obligations.EncodeDecode : Prop :=
  ∀ (i : Instr) (rest : List Byte), i.wf = true → decode i.isCompact (encode i ++ rest) = .ok (i, rest)

/-- R130, R135: every word of either variant decodes, to a well-formed instruction of that variant, and encodes back to
itself: no bit is dropped. -/
def Obligations.DecodeEncode : Prop :=
  (∀ w : Word, (decodeWord w).wf = true ∧ (decodeWord w).isCompact = false ∧ encodeWord (decodeWord w) = w) ∧
  ∀ h : Half, (decodeHalf h).wf = true ∧ (decodeHalf h).isCompact = true ∧ encodeHalf (decodeHalf h) = h

/-- Words the spec writes out with their meaning (examples of R174, R201, R203, R211, R221, R224, R242, R251, R252,
R260, R262, R266, R269, R281, R308, R341, R358, R361, R380, R384). -/
def Obligations.SampleWords : Prop :=
  decodeTableWord 32 0xE0010002 = some (.andReg .al false 1 0 0 .lsl 2) ∧
  decodeTableWord 32 0xE0000291 = some (.mul .al false 0 0 2 1) ∧
  decodeTableWord 32 0xE0810392 = some (.umull .al false 1 0 3 2) ∧
  decodeTableWord 32 0xE5910004 = some (.ldrImm .al true true false 1 0 4) ∧
  decodeTableWord 32 0xE1C100B2 = some (.strhImm .al true true false 1 0 0 2) ∧
  decodeTableWord 32 0xE1020091 = some (.swp .al 2 0 1) ∧
  decodeTableWord 32 0xE92D400F = some (.stm .al true false false true 13 0x400F) ∧
  decodeTableWord 32 0xEB00003E = some (.bl .al 0x3E) ∧
  decodeTableWord 32 0xE12FFF10 = some (.bx .al 0) ∧
  decodeTableWord 32 0xEF000005 = some (.swi .al 5) ∧
  decodeTableWord 32 0xE328F20F = some (.msrImm .al false 8 2 0x0F) ∧
  decodeTableWord 32 0xEE100F10 = some (.mrc .al 0 0 0 15 0 0) ∧
  decodeTableWord 32 0xEE070F90 = some (.wfi .al 0) ∧
  decodeTableWord 16 0x0088 = some (.tLslImm 2 1 0) ∧
  decodeTableWord 16 0x4440 = some (.tAddHi 0 8) ∧
  decodeTableWord 16 0x4801 = some (.tLdrPc 0 1) ∧
  decodeTableWord 16 0xB503 = some (.tPush true 0x03) ∧
  decodeTableWord 16 0xC806 = some (.tLdmia 0 0x06) ∧
  decodeTableWord 16 0xD1FD = some (.tBcond .ne 0xFD) ∧
  decodeTableWord 16 0xF87E = some (.tBlLo 0x7E)

/-- R152 items 1 to 4: the full-variant words that decode to an undefined-instruction row are exactly the listed ones.
The masks are those of spec/opcode_table.json. (Item 5, the coprocessors, is `UndefinedInstructions`.) -/
def Obligations.UndefinedWords : Prop :=
  ∀ w : Word,
    (w &&& 0x0E000010 = 0x06000010 ∨
     (w &&& 0x0E000090 = 0x00000090 ∧ w &&& 0x0FC000F0 ≠ 0x00000090 ∧ w &&& 0x0F8000F0 ≠ 0x00800090 ∧
       w &&& 0x0FB00FF0 ≠ 0x01000090 ∧ w &&& 0x0E1000F0 ≠ 0x001000B0 ∧ w &&& 0x0E1000F0 ≠ 0x001000D0 ∧
       w &&& 0x0E1000F0 ≠ 0x001000F0 ∧ w &&& 0x0E1000F0 ≠ 0x000000B0) ∨
     (w &&& 0x0F900000 = 0x01000000 ∧ w &&& 0x0FBF0FFF ≠ 0x010F0000 ∧ w &&& 0x0FB0FFF0 ≠ 0x0120F000 ∧
       w &&& 0x0FFFFFF0 ≠ 0x012FFF10 ∧ w &&& 0x0FB00FF0 ≠ 0x01000090 ∧ w &&& 0x0E1000F0 ≠ 0x000000B0) ∨
     (w &&& 0x0F900000 = 0x03000000 ∧ w &&& 0x0FB0F000 ≠ 0x0320F000)) ↔
    ((∃ c hi lo, decodeWord w = .undSpace c hi lo) ∨ ∃ c body, decodeWord w = .undOther c body)

/-- R159: the compact words that match no defined row are exactly the listed ones, and they raise the
undefined-instruction exception. -/
def Obligations.UndefinedHalfwords : Prop :=
  ∀ h : Half,
    ((0xB100 ≤ h ∧ h ≤ 0xB3FF ∨ 0xB600 ≤ h ∧ h ≤ 0xBBFF ∨ 0xBE00 ≤ h ∧ h ≤ 0xBFFF ∨ 0xDE00 ≤ h ∧ h ≤ 0xDEFF ∨
       0xE800 ≤ h ∧ h ≤ 0xEFFF ∨ 0x4780 ≤ h ∧ h ≤ 0x47FF) ↔
      ((∃ x, decodeHalf h = .tUndCond x) ∨ ∃ x, decodeHalf h = .tUndOther x)) ∧
    ∀ s : State, s.core.cpsr.t = true → ((∃ x, decodeHalf h = .tUndCond x) ∨ ∃ x, decodeHalf h = .tUndOther x) →
      ∃ t, exec (decodeHalf h) s = .next t ∧ Entered .undefined (s.pc + 2) s t

/-! ## Conditions -/

/-- R134: the condition table, the codes of the field, and the two codes of `T.Bcc` that are another instruction. -/
def Obligations.ConditionTable : Prop :=
  (∀ p : Cpsr,
    (condHolds (Cond.ofBits 0b0000) p = true ↔ p.z = true) ∧ (condHolds (Cond.ofBits 0b0001) p = true ↔ p.z = false) ∧
    (condHolds (Cond.ofBits 0b0010) p = true ↔ p.c = true) ∧ (condHolds (Cond.ofBits 0b0011) p = true ↔ p.c = false) ∧
    (condHolds (Cond.ofBits 0b0100) p = true ↔ p.n = true) ∧ (condHolds (Cond.ofBits 0b0101) p = true ↔ p.n = false) ∧
    (condHolds (Cond.ofBits 0b0110) p = true ↔ p.v = true) ∧ (condHolds (Cond.ofBits 0b0111) p = true ↔ p.v = false) ∧
    (condHolds (Cond.ofBits 0b1000) p = true ↔ p.c = true ∧ p.z = false) ∧
    (condHolds (Cond.ofBits 0b1001) p = true ↔ p.c = false ∨ p.z = true) ∧
    (condHolds (Cond.ofBits 0b1010) p = true ↔ p.n = p.v) ∧ (condHolds (Cond.ofBits 0b1011) p = true ↔ p.n ≠ p.v) ∧
    (condHolds (Cond.ofBits 0b1100) p = true ↔ p.z = false ∧ p.n = p.v) ∧
    (condHolds (Cond.ofBits 0b1101) p = true ↔ p.z = true ∨ p.n ≠ p.v) ∧
    condHolds (Cond.ofBits 0b1110) p = true ∧ condHolds (Cond.ofBits 0b1111) p = false) ∧
  (∀ w : Word, (decodeWord w).cond = some (Cond.ofBits (w.extractLsb' 28 4))) ∧
  (∀ (k : BitVec 4) (imm8 : BitVec 8), k < 14 → decodeHalf (0xD#4 ++ k ++ imm8) = .tBcond (Cond.ofBits k) imm8) ∧
  (∀ imm8 : BitVec 8, decodeHalf (0xDF#8 ++ imm8) = .tSwi imm8 ∧ decodeHalf (0xDE#8 ++ imm8) = .tUndCond imm8)

/-- R133, R565: a full-variant instruction whose condition is false, whatever it is, only advances `pc` and adds nothing
to the fetch cost; no exception is raised. -/
def Obligations.FalseCondition : Prop :=
  ∀ (i : Instr) (c : Cond) (s : State), i.cond = some c → s.core.cpsr.t = false → condHolds c s.core.cpsr = false →
    ∃ t, exec i s = .next t ∧ t.pc = s.pc + 4 ∧ SameFlags s t ∧ OnlyCore [] s t ∧ t.report = s.report ∧
      t.lastRegion = s.lastRegion ∧ t.core.seq = s.core.seq

/-! ## Operand2 -/

/-- R138: the rotated immediate, bit by bit, and its carry. -/
def Obligations.ImmediateOperand : Prop :=
  ∀ (rot : BitVec 4) (imm8 : BitVec 8) (c : Bool),
    (∀ j, j < 32 → (immOperand rot imm8 c).value.getLsbD j = (imm8.setWidth 32).getLsbD ((j + 2 * rot.toNat) % 32)) ∧
    (immOperand rot imm8 c).carry = if rot = 0 then c else (immOperand rot imm8 c).value.getLsbD 31

/-- R139: the register shifted by an immediate amount: the value as a number (LSL, LSR unsigned, ASR signed) or bit by
bit (ROR, RRX), and the carry; `r15` reads `pc + 8`. -/
def Obligations.ShiftByImmediate : Prop :=
  ∀ (s : State) (amt : BitVec 5) (rm : Reg) (m : Word), s.core.cpsr.t = false →
    m = (if rm = 15 then s.pc + 8 else s.getMode s.core.cpsr.mode rm) →
    (amt = 0 →
      s.regOperand amt .lsl rm = ⟨m, s.core.cpsr.c⟩ ∧ s.regOperand amt .lsr rm = ⟨0, m.getLsbD 31⟩ ∧
      s.regOperand amt .asr rm = ⟨if m.getLsbD 31 then 0xFFFFFFFF else 0, m.getLsbD 31⟩ ∧
      (s.regOperand amt .ror rm).value.getLsbD 31 = s.core.cpsr.c ∧
      (∀ j, j < 31 → (s.regOperand amt .ror rm).value.getLsbD j = m.getLsbD (j + 1)) ∧
      (s.regOperand amt .ror rm).carry = m.getLsbD 0) ∧
    (amt ≠ 0 →
      (s.regOperand amt .lsl rm).value.toNat = m.toNat * 2 ^ amt.toNat % 2 ^ 32 ∧
      (s.regOperand amt .lsl rm).carry = m.getLsbD (32 - amt.toNat) ∧
      (s.regOperand amt .lsr rm).value.toNat = m.toNat / 2 ^ amt.toNat ∧
      (s.regOperand amt .lsr rm).carry = m.getLsbD (amt.toNat - 1) ∧
      (s.regOperand amt .asr rm).value.toInt = m.toInt / 2 ^ amt.toNat ∧
      (s.regOperand amt .asr rm).carry = m.getLsbD (amt.toNat - 1) ∧
      (∀ j, j < 32 → (s.regOperand amt .ror rm).value.getLsbD j = m.getLsbD ((j + amt.toNat) % 32)) ∧
      (s.regOperand amt .ror rm).carry = m.getLsbD (amt.toNat - 1))

/-- R140: the register shifted by the low byte `k` of a register, for every amount 0 to 255; `r15` as the shifted
register reads `pc + 12`. -/
def Obligations.ShiftByRegister : Prop :=
  ∀ (s : State) (rs rm : Reg) (m : Word) (k : Nat), s.core.cpsr.t = false → rs ≠ 15 →
    k = (s.getMode s.core.cpsr.mode rs).toNat % 256 →
    m = (if rm = 15 then s.pc + 12 else s.getMode s.core.cpsr.mode rm) →
    (k = 0 → ∀ ty, s.rsrOperand rs ty rm = ⟨m, s.core.cpsr.c⟩) ∧
    (0 < k → k < 32 →
      (s.rsrOperand rs .lsl rm).value.toNat = m.toNat * 2 ^ k % 2 ^ 32 ∧
      (s.rsrOperand rs .lsl rm).carry = m.getLsbD (32 - k) ∧
      (s.rsrOperand rs .lsr rm).value.toNat = m.toNat / 2 ^ k ∧
      (s.rsrOperand rs .lsr rm).carry = m.getLsbD (k - 1) ∧
      (s.rsrOperand rs .asr rm).value.toInt = m.toInt / 2 ^ k ∧
      (s.rsrOperand rs .asr rm).carry = m.getLsbD (k - 1)) ∧
    (k = 32 → s.rsrOperand rs .lsl rm = ⟨0, m.getLsbD 0⟩ ∧ s.rsrOperand rs .lsr rm = ⟨0, m.getLsbD 31⟩) ∧
    (32 < k → s.rsrOperand rs .lsl rm = ⟨0, false⟩ ∧ s.rsrOperand rs .lsr rm = ⟨0, false⟩) ∧
    (32 ≤ k → s.rsrOperand rs .asr rm = ⟨if m.getLsbD 31 then 0xFFFFFFFF else 0, m.getLsbD 31⟩) ∧
    (0 < k → k % 32 = 0 → s.rsrOperand rs .ror rm = ⟨m, m.getLsbD 31⟩) ∧
    (k % 32 ≠ 0 →
      (∀ j, j < 32 → (s.rsrOperand rs .ror rm).value.getLsbD j = m.getLsbD ((j + k % 32) % 32)) ∧
      (s.rsrOperand rs .ror rm).carry = m.getLsbD (k % 32 - 1))

/-! ## Data processing -/

/-- R170, R171, R174, R175, R186 to R190: `AND EOR ORR MOV BIC MVN` in their three forms, `Rd` not `r15`: result, flags,
`pc`, cost, and that nothing else changes. -/
def Obligations.LogicalInstructions : Prop :=
  ∀ (k : LogicOp) (c : Cond) (sf : Bool) (rn rd : Reg) (o : Operand2) (s : State),
    Ready (k.instr c sf rn rd o) s → rd ≠ 15 → o.Allowed →
    ∃ t, exec (k.instr c sf rn rd o) s = .next t ∧
      t.reg rd = k.result (o.first s rn) (o.shifter s).value ∧ t.pc = s.pc + 4 ∧
      (sf = true → LogicalFlags s t (k.result (o.first s rn) (o.shifter s).value) (o.shifter s).carry) ∧
      (sf = false → SameFlags s t) ∧
      OnlyCore [physReg s.core.cpsr.mode rd] s t ∧ t.report.cost = s.report.cost + o.cycles s

/-- R170, R172, R176 to R181, R190, R191: `SUB RSB ADD ADC SBC RSC` in their three forms, `Rd` not `r15`: the result and
the flags by the exact values, `pc`, cost, and that nothing else changes. -/
def Obligations.ArithmeticInstructions : Prop :=
  ∀ (k : ArithOp) (c : Cond) (sf : Bool) (rn rd : Reg) (o : Operand2) (s : State),
    Ready (k.instr c sf rn rd o) s → rd ≠ 15 → o.Allowed →
    ∃ t, exec (k.instr c sf rn rd o) s = .next t ∧
      t.reg rd = k.result (o.first s rn) (o.shifter s).value s.core.cpsr.c ∧ t.pc = s.pc + 4 ∧
      (sf = true → ArithFlags t k (o.first s rn) (o.shifter s).value s.core.cpsr.c) ∧
      (sf = false → SameFlags s t) ∧
      OnlyCore [physReg s.core.cpsr.mode rd] s t ∧ t.report.cost = s.report.cost + o.cycles s

/-- R182 to R185: `TST TEQ CMP CMN` in their three forms: flags only. -/
def Obligations.TestInstructions : Prop :=
  ∀ (k : TestOp) (c : Cond) (rn rd : Reg) (o : Operand2) (s : State),
    Ready (k.instr c rn rd o) s → rd ≠ 15 → o.Allowed →
    ∃ t, exec (k.instr c rn rd o) s = .next t ∧ t.pc = s.pc + 4 ∧
      (k = .tst → LogicalFlags s t (o.first s rn &&& (o.shifter s).value) (o.shifter s).carry) ∧
      (k = .teq → LogicalFlags s t (o.first s rn ^^^ (o.shifter s).value) (o.shifter s).carry) ∧
      (k = .cmp → ArithFlags t .sub (o.first s rn) (o.shifter s).value s.core.cpsr.c) ∧
      (k = .cmn → ArithFlags t .add (o.first s rn) (o.shifter s).value s.core.cpsr.c) ∧
      OnlyCore [] s t ∧ t.report.cost = s.report.cost + o.cycles s

/-- R173 with `S = 0`: the twelve opcodes that write `Rd`, with `Rd = r15`: `pc` is the result with bits 1:0 cleared, no
flag changes, the variant stays, the next fetch is sequential. -/
def Obligations.ResultToPc : Prop :=
  ∀ (k : DpOp) (c : Cond) (rn : Reg) (o : Operand2) (s : State), Ready (k.instr c false rn 15 o) s → o.Allowed →
    ∃ t, exec (k.instr c false rn 15 o) s = .next t ∧ t.pc = k.result s rn o &&& ~~~3 ∧ SameFlags s t ∧
      OnlyCore [] s t ∧ t.core.seq = true

/-- R416, R173, R243: the returns from an exception, data processing with `S = 1` and `Rd = r15` and `LDM` with `S = 1`
and `r15` in its list, in a mode that has an `spsr` with a legal mode field: all of `cpsr` is replaced, then `pc` is
written, aligned by the restored `T`. Data processing changes no register; the `LDM` loads its list into the bank of the
mode it ran in and writes its base back there. What the renderer's storage answers is the model's choice (log 34). -/
def Obligations.ExceptionReturn : Prop :=
  (∀ (k : DpOp) (c : Cond) (rn : Reg) (o : Operand2) (s : State) (p : Spsr) (q : Cpsr),
    Ready (k.instr c true rn 15 o) s → o.Allowed → s.spsr = some p → p.restore = some q →
    ∃ t, exec (k.instr c true rn 15 o) s = .next t ∧ t.core.cpsr = q ∧
      t.pc = (if q.t then k.result s rn o &&& ~~~1 else k.result s rn o &&& ~~~3) ∧
      RegsExcept [] s t ∧ t.core.spsrs = s.core.spsrs ∧ (∀ a, t.peek a = s.peek a) ∧ SameDevices s t) ∧
  (∀ (c : Cond) (p u w : Bool) (rn : Reg) (list : BitVec 16) (s : State) (x : Spsr) (q : Cpsr) (start : Word),
    Ready (.ldm c p u true w rn list) s → list.getLsbD 15 = true → rn ≠ 15 → s.spsr = some x → x.restore = some q →
    start = blockStart p u (s.reg rn) (listRegs list).length → eachWord s.plain start (listRegs list).length →
    ∃ t, exec (.ldm c p u true w rn list) s = .next t ∧ t.core.cpsr = q ∧ t.core.spsrs = s.core.spsrs ∧
      t.pc = (if q.t then s.blockWord start ((listRegs list).length - 1) &&& ~~~1
        else s.blockWord start ((listRegs list).length - 1) &&& ~~~3) ∧
      (∀ k (h : k < (listRegs list).length), (listRegs list)[k] ≠ 15 →
        t.getMode s.core.cpsr.mode (listRegs list)[k] = s.blockWord start k) ∧
      (w = true → rn ∉ listRegs list →
        t.getMode s.core.cpsr.mode rn = blockBase u (s.reg rn) (listRegs list).length) ∧
      RegsExcept ((listRegs list).map (physReg s.core.cpsr.mode) ++ if w then [physReg s.core.cpsr.mode rn] else []) s t ∧
      (∀ a, t.peek a = s.peek a) ∧ (eachWord s.quiet start (listRegs list).length → SameDevices s t))

/-! ## Multiplies -/

/-- R200, R201, R202, R207: `MUL`, `MLA`: the product, N and Z, V kept, C left free, the cycles by the multiplier. -/
def Obligations.Multiplies : Prop :=
  ∀ (accumulate : Bool) (c : Cond) (sf : Bool) (rd rn rs rm : Reg) (i : Instr) (s : State) (r : Word) (q : Int),
    i = (if accumulate then .mla c sf rd rn rs rm else .mul c sf rd rn rs rm) → Ready i s →
    rd ≠ 15 → rs ≠ 15 → rm ≠ 15 → (accumulate = true → rn ≠ 15) →
    r = BitVec.ofNat 32 ((s.reg rm).toNat * (s.reg rs).toNat + if accumulate then (s.reg rn).toNat else 0) →
    q = (s.reg rs).toInt →
    ∃ t, exec i s = .next t ∧ t.reg rd = r ∧ t.pc = s.pc + 4 ∧
      (sf = true → t.core.cpsr.n = r.getLsbD 31 ∧ (t.core.cpsr.z = true ↔ r = 0) ∧ t.core.cpsr.v = s.core.cpsr.v) ∧
      (sf = false → SameFlags s t) ∧ OnlyCore [physReg s.core.cpsr.mode rd] s t ∧
      t.report.cost = s.report.cost +
        (if -2 ^ 8 ≤ q ∧ q < 2 ^ 8 then 1 else if -2 ^ 16 ≤ q ∧ q < 2 ^ 16 then 2
          else if -2 ^ 24 ≤ q ∧ q < 2 ^ 24 then 3 else 4) +
        (if accumulate then s.par.internal.mla else s.par.internal.mul)

/-- R200, R203 to R207: `UMULL UMLAL SMULL SMLAL`: both halves of the exact product, N and Z of its 64 bits, C and V left
free. `f` reads the operands with or without a sign; `{RdHi, RdLo}` is the addend of the accumulating forms. -/
def Obligations.LongMultiplies : Prop :=
  ∀ (sign accumulate : Bool) (c : Cond) (sf : Bool) (rdHi rdLo rs rm : Reg) (i : Instr) (s : State) (f : Word → Int)
    (p : Int),
    i = (if sign then (if accumulate then .smlal c sf rdHi rdLo rs rm else .smull c sf rdHi rdLo rs rm)
      else (if accumulate then .umlal c sf rdHi rdLo rs rm else .umull c sf rdHi rdLo rs rm)) → Ready i s →
    rdHi ≠ 15 → rdLo ≠ 15 → rs ≠ 15 → rm ≠ 15 → rdHi ≠ rdLo → f = (if sign then BitVec.toInt else unsigned) →
    p = (f (s.reg rm) * f (s.reg rs) +
      if accumulate then unsigned (s.reg rdHi) * 2 ^ 32 + unsigned (s.reg rdLo) else 0) % 2 ^ 64 →
    ∃ t, exec i s = .next t ∧ unsigned (t.reg rdHi) * 2 ^ 32 + unsigned (t.reg rdLo) = p ∧ t.pc = s.pc + 4 ∧
      (sf = true → (t.core.cpsr.n = true ↔ 2 ^ 63 ≤ p) ∧ (t.core.cpsr.z = true ↔ p = 0)) ∧
      (sf = false → SameFlags s t) ∧
      OnlyCore [physReg s.core.cpsr.mode rdHi, physReg s.core.cpsr.mode rdLo] s t ∧
      t.report.cost = s.report.cost +
        (if -2 ^ 8 ≤ f (s.reg rs) ∧ f (s.reg rs) < 2 ^ 8 then 1
          else if -2 ^ 16 ≤ f (s.reg rs) ∧ f (s.reg rs) < 2 ^ 16 then 2
          else if -2 ^ 24 ≤ f (s.reg rs) ∧ f (s.reg rs) < 2 ^ 24 then 3 else 4) +
        (if accumulate then s.par.internal.mlal else s.par.internal.mull)

/-! ## Single transfers -/

/-- R210, R211, R213, R215, R217, R220, R222, R223, R340 to R357: every single load of both variants into a register
that is not `r15`: the value as the Bus answers it, rotated or extended, the written-back base, `pc`, the cost, flags
and memory unchanged; at an address of the Bus's own storage no device changes either. -/
def Obligations.SingleLoads : Prop :=
  ∀ (i : Instr) (s : State) (k : LoadKind) (a : Word) (rd : Reg),
    Ready i s → loadOf s i = some (k, a, rd) → transferAllowed s i → rd ≠ 15 →
    ∃ t, exec i s = .next t ∧ t.reg rd = k.value s a ∧
      (∀ rn v, backOf s i = some (rn, v) → rn ≠ rd → t.reg rn = v) ∧ t.pc = s.pc + s.step ∧ SameFlags s t ∧
      CoreFrame (physReg s.core.cpsr.mode rd :: ((backOf s i).map fun b => physReg s.core.cpsr.mode b.1).toList) s t ∧
      (∀ a, t.peek a = s.peek a) ∧ t.core.halted = s.core.halted ∧ t.core.seq = s.core.seq ∧
      (s.quiet (k.access a).1 = true → SameDevices s t) ∧
      t.report.cost = (s.charge (k.access a).1 (k.access a).2 .n).report.cost + s.par.internal.load

/-- R211, R215, U30: `LDR` and `LDRT` into `r15` branch within the full variant, and write the base back. -/
def Obligations.LoadsToPc : Prop :=
  ∀ (i : Instr) (s : State) (a : Word),
    Ready i s → loadOf s i = some (.word, a, 15) → transferAllowed s i →
    ∃ t, exec i s = .next t ∧ t.pc = LoadKind.word.value s a &&& ~~~3 ∧
      (∀ rn v, backOf s i = some (rn, v) → t.reg rn = v) ∧ SameFlags s t ∧
      CoreFrame ((backOf s i).map fun b => physReg s.core.cpsr.mode b.1).toList s t ∧
      (∀ b, t.peek b = s.peek b) ∧ t.core.seq = true

/-- R82, R210, R212, R214, R216, R218, R221, R340, R342, R343, R346, R350, R352, R354, R356, R567: every single store of
both variants: the bytes it puts, and no other, the written-back base, `pc`, the cost, flags unchanged, the next fetch
non-sequential. `stored` computes the address as the meaning does. -/
def Obligations.SingleStores : Prop :=
  ∀ (i : Instr) (s : State) (x : Word × Width × Word),
    Memory.wf s.mem → Ready i s → shape i = .store → stored s i = [x] → transferAllowed s i →
    ∃ t, exec i s = .next t ∧ (∀ a, t.peek a = s.peekAfter [x] a) ∧
      (∀ rn v, backOf s i = some (rn, v) → t.reg rn = v) ∧ t.pc = s.pc + s.step ∧ SameFlags s t ∧
      CoreFrame ((backOf s i).map fun b => physReg s.core.cpsr.mode b.1).toList s t ∧ t.core.seq = false ∧
      (s.plain x.1 = true → t.core.halted = s.core.halted) ∧ (s.quiet x.1 = true → SameDevices s t) ∧
      t.report.cost = (s.charge x.1 x.2.1 .n).report.cost

/-- R224, R225: `SWP`, `SWPB`: the old content (a word rotated) in `Rd`, the source in memory. -/
def Obligations.Swaps : Prop :=
  ∀ (byte : Bool) (c : Cond) (rn rd rm : Reg) (i : Instr) (s : State),
    i = (if byte then .swpb c rn rd rm else .swp c rn rd rm) → Memory.wf s.mem → Ready i s →
    rn ≠ 15 → rd ≠ 15 → rm ≠ 15 →
    ∃ t, exec i s = .next t ∧
      t.reg rd = (if byte then LoadKind.byte else LoadKind.word).value s (s.reg rn) ∧
      (∀ a, t.peek a = s.peekAfter
        [if byte then (s.reg rn, .byte, s.reg rm) else (s.reg rn &&& ~~~3, .word, s.reg rm)] a) ∧
      t.pc = s.pc + 4 ∧ SameFlags s t ∧ CoreFrame [physReg s.core.cpsr.mode rd] s t ∧
      (s.plain (if byte then s.reg rn else s.reg rn &&& ~~~3) = true → t.core.halted = s.core.halted) ∧
      (s.quiet (if byte then s.reg rn else s.reg rn &&& ~~~3) = true → SameDevices s t)

/-! ## Multiple transfers -/

/-- R240, R241, R243, R244, R359, R361: `LDM`, `T.POP`, `T.LDMIA` without `r15` in the list: each register of the list
holds its word (where the whole block lies in storage), a base not in the list is written back, and nothing else
changes. With `S` the registers are the User bank's. What the renderer's storage answers is the model's choice
(log 34). -/
def Obligations.MultipleLoads : Prop :=
  ∀ (i : Instr) (s : State) (m : Mode) (regs : List Reg) (start : Word),
    Ready i s → blockLoad s i = some (m, regs, start) → blockAllowed i → 15 ∉ regs →
    ∃ t, exec i s = .next t ∧ t.pc = s.pc + s.step ∧ SameFlags s t ∧
      CoreFrame (regs.map (physReg m) ++ ((backOf s i).map fun b => physReg s.core.cpsr.mode b.1).toList) s t ∧
      (∀ a, t.peek a = s.peek a) ∧ t.core.halted = s.core.halted ∧
      (∀ rn v, backOf s i = some (rn, v) → rn ∉ regs → t.reg rn = v) ∧
      (eachWord s.quiet start regs.length → SameDevices s t) ∧
      (eachWord s.plain start regs.length →
        ∀ k (h : k < regs.length), t.getMode m regs[k] = s.blockWord start k)

/-- R241, R244, R359: `LDM` with `S = 0` and `T.POP` with `r15` in the list: the other registers as in `MultipleLoads`,
and a branch within the variant to the last word. What the renderer's storage answers is the model's choice (log 34). -/
def Obligations.MultipleLoadsToPc : Prop :=
  ∀ (i : Instr) (s : State) (m : Mode) (regs : List Reg) (start : Word),
    Ready i s → blockLoad s i = some (m, regs, start) → blockAllowed i → 15 ∈ regs → restoresStatus i = false →
    ∃ t, exec i s = .next t ∧ SameFlags s t ∧
      CoreFrame (regs.map (physReg m) ++ ((backOf s i).map fun b => physReg s.core.cpsr.mode b.1).toList) s t ∧
      (∀ a, t.peek a = s.peek a) ∧ (∀ rn v, backOf s i = some (rn, v) → rn ∉ regs → t.reg rn = v) ∧
      (eachWord s.plain start regs.length →
        (∀ k (h : k < regs.length), regs[k] ≠ 15 → t.getMode m regs[k] = s.blockWord start k) ∧
        t.pc = (if s.core.cpsr.t then s.blockWord start (regs.length - 1) &&& ~~~1
          else s.blockWord start (regs.length - 1) &&& ~~~3))

/-- R240, R242, R244, R358, R360, R567: `STM`, `T.PUSH`, `T.STMIA`: the bytes they put, and no other, the written-back
base, the next fetch non-sequential. The values they put out, in register order: `r15` as `pc + 12`, a written-back base
as its old value if it is the first of the list and as the new one otherwise. -/
def Obligations.MultipleStores : Prop :=
  (∀ (i : Instr) (s : State), Memory.wf s.mem → Ready i s → shape i = .stores → blockAllowed i →
    ∃ t, exec i s = .next t ∧ (∀ a, t.peek a = s.peekAfter (stored s i) a) ∧
      (∀ rn v, backOf s i = some (rn, v) → t.reg rn = v) ∧ t.pc = s.pc + s.step ∧ SameFlags s t ∧
      CoreFrame ((backOf s i).map fun b => physReg s.core.cpsr.mode b.1).toList s t ∧ t.core.seq = false ∧
      ((∀ x ∈ stored s i, s.plain x.1 = true) → t.core.halted = s.core.halted) ∧
      ((∀ x ∈ stored s i, s.quiet x.1 = true) → SameDevices s t)) ∧
  (∀ (s : State) (m : Mode) (back : Option (Reg × Word)) (regs : List Reg) (k : Nat) (h : k < regs.length),
    regs.Pairwise (· < ·) → ∃ h' : k < (s.storeValues m back regs 0).length,
      (∀ wb, 0 < k → regs[k] ≠ 15 → back = some (regs[k], wb) → (s.storeValues m back regs 0)[k]'h' = wb) ∧
      ((k = 0 ∨ ∀ wb, back ≠ some (regs[k], wb)) → regs[k] ≠ 15 →
        (s.storeValues m back regs 0)[k]'h' = s.getMode m regs[k]) ∧
      (regs[k] = 15 → (s.storeValues m back regs 0)[k]'h' = s.pc + 12))

/-! ## Branches -/

/-- R250, R251, R252: `B`, `BL`, `BX` under a true condition: target, link, variant; nothing else. -/
def Obligations.Branches : Prop :=
  (∀ (c : Cond) (imm24 : BitVec 24) (s : State), Ready (.b c imm24) s → s.core.aligned = true →
    ∃ t, exec (.b c imm24) s = .next t ∧ t.pc = s.pc + 8 + BitVec.ofInt 32 (imm24.toInt * 4) ∧ SameFlags s t ∧
      OnlyCore [] s t) ∧
  (∀ (c : Cond) (imm24 : BitVec 24) (s : State), Ready (.bl c imm24) s → s.core.aligned = true →
    ∃ t, exec (.bl c imm24) s = .next t ∧ t.pc = s.pc + 8 + BitVec.ofInt 32 (imm24.toInt * 4) ∧
      t.reg 14 = s.pc + 4 ∧ SameFlags s t ∧ OnlyCore [physReg s.core.cpsr.mode 14] s t) ∧
  (∀ (c : Cond) (rm : Reg) (s : State), Ready (.bx c rm) s →
    ∃ t, exec (.bx c rm) s = .next t ∧ t.core.cpsr.t = (s.reg rm).getLsbD 0 ∧
      t.pc = (if (s.reg rm).getLsbD 0 then s.reg rm &&& ~~~1 else s.reg rm &&& ~~~3) ∧ SameFlags s t ∧
      SameControl s t ∧ RegsExcept [] s t ∧ t.core.spsrs = s.core.spsrs ∧ (∀ a, t.peek a = s.peek a) ∧
      SameDevices s t)

/-- R380, R382 to R385: the compact branches: `T.B<cond>` taken and not taken, `T.B`, the two halves of `T.BL`,
`T.BX`. -/
def Obligations.CompactBranches : Prop :=
  (∀ (c : Cond) (imm8 : BitVec 8) (s : State), s.core.cpsr.t = true → s.core.aligned = true →
    ∃ t, exec (.tBcond c imm8) s = .next t ∧ SameFlags s t ∧ OnlyCore [] s t ∧
      t.pc = if condHolds c s.core.cpsr then s.pc + 4 + BitVec.ofInt 32 (imm8.toInt * 2) else s.pc + 2) ∧
  (∀ (imm11 : BitVec 11) (s : State), s.core.cpsr.t = true → s.core.aligned = true →
    ∃ t, exec (.tB imm11) s = .next t ∧ SameFlags s t ∧ OnlyCore [] s t ∧
      t.pc = s.pc + 4 + BitVec.ofInt 32 (imm11.toInt * 2)) ∧
  (∀ (imm11 : BitVec 11) (s : State), s.core.cpsr.t = true →
    ∃ t, exec (.tBlHi imm11) s = .next t ∧ SameFlags s t ∧ OnlyCore [physReg s.core.cpsr.mode 14] s t ∧
      t.reg 14 = s.pc + 4 + BitVec.ofInt 32 (imm11.toInt * 4096) ∧ t.pc = s.pc + 2) ∧
  (∀ (imm11 : BitVec 11) (s : State), s.core.cpsr.t = true →
    ∃ t, exec (.tBlLo imm11) s = .next t ∧ SameFlags s t ∧ OnlyCore [physReg s.core.cpsr.mode 14] s t ∧
      t.reg 14 = (s.pc + 2) ||| 1 ∧ t.pc = (s.reg 14 + BitVec.ofNat 32 (imm11.toNat * 2)) &&& ~~~1) ∧
  (∀ (rs : Reg) (sbz : BitVec 3) (s : State), s.core.cpsr.t = true →
    ∃ t, exec (.tBx rs sbz) s = .next t ∧ t.core.cpsr.t = (s.reg rs).getLsbD 0 ∧
      t.pc = (if (s.reg rs).getLsbD 0 then s.reg rs &&& ~~~1 else s.reg rs &&& ~~~3) ∧ SameFlags s t ∧
      SameControl s t ∧ RegsExcept [] s t ∧ t.core.spsrs = s.core.spsrs ∧ (∀ a, t.peek a = s.peek a) ∧
      SameDevices s t)

/-! ## Exceptions and status -/

/-- R260, R381, R406, R410, R411: `SWI` and `T.SWI` enter Supervisor mode at `0x08`, whatever the comment and the
mode. Beside the fetch they cost the two accesses of the refill at the vector and no internal cycle (R272, R387, R413,
R566, R568). -/
def Obligations.SoftwareInterrupts : Prop :=
  (∀ (c : Cond) (comment : BitVec 24) (s : State), Ready (.swi c comment) s →
    ∃ t, exec (.swi c comment) s = .next t ∧ Entered .software (s.pc + 4) s t ∧ t.core.seq = true ∧
      t.report.cost = ((s.charge 0x08 .word .n).charge 0x0C .word .s).report.cost) ∧
  ∀ (comment : BitVec 8) (s : State), s.core.cpsr.t = true →
    ∃ t, exec (.tSwi comment) s = .next t ∧ Entered .software (s.pc + 2) s t ∧ t.core.seq = true ∧
      t.report.cost = ((s.charge 0x08 .word .n).charge 0x0C .word .s).report.cost

/-- R264 to R268, R270, R386, R405, R410: the undefined rows of both variants, `CDP`, `LDC`, `STC` and the register
moves of any coprocessor but 15 enter Undefined mode at `0x04`. -/
def Obligations.UndefinedInstructions : Prop :=
  ∀ (i : Instr) (s : State), Ready i s →
    ((∃ c hi lo, i = .undSpace c hi lo) ∨ (∃ c b, i = .undOther c b) ∨ (∃ x, i = .tUndCond x) ∨
      (∃ x, i = .tUndOther x) ∨ (∃ c o1 crn crd cp o2 crm, i = .cdp c o1 crn crd cp o2 crm) ∨
      (∃ c p u n w rn crd cp imm8, i = .ldc c p u n w rn crd cp imm8) ∨
      (∃ c p u n w rn crd cp imm8, i = .stc c p u n w rn crd cp imm8) ∨
      (∃ c o1 crn rd cp o2 crm, cp ≠ 15 ∧ i = .mcr c o1 crn rd cp o2 crm) ∨
      (∃ c o1 crn rd cp o2 crm, cp ≠ 15 ∧ i = .mrc c o1 crn rd cp o2 crm)) →
    ∃ t, exec i s = .next t ∧ Entered .undefined (s.pc + s.step) s t

/-- R261: `MRS` of `cpsr` in every mode, of `spsr` in a mode that has one: the 32 bits, reserved ones zero. -/
def Obligations.StatusReads : Prop :=
  ∀ (c : Cond) (r : Bool) (rd : Reg) (s : State) (n z cc v i f t : Bool) (m : BitVec 5),
    Ready (.mrs c r rd) s → rd ≠ 15 →
    (r = false → s.core.cpsr.save = ⟨n, z, cc, v, i, f, t, m⟩) →
    (r = true → s.spsr = some ⟨n, z, cc, v, i, f, t, m⟩) →
    ∃ u, exec (.mrs c r rd) s = .next u ∧ u.pc = s.pc + 4 ∧ SameFlags s u ∧
      OnlyCore [physReg s.core.cpsr.mode rd] s u ∧
      u.reg rd = BitVec.ofBool n ++ BitVec.ofBool z ++ BitVec.ofBool cc ++ BitVec.ofBool v ++ 0#20 ++
        BitVec.ofBool i ++ BitVec.ofBool f ++ BitVec.ofBool t ++ m

/-- R262: `MSR` of a register or an immediate `op`, field by field. To `cpsr`: the flags field writes N, Z, C, V, the
control field, in a privileged mode and with a legal mode code, I, F and the mode, never `T`. To `spsr`: the same two
fields of the current mode's saved status, `T` and any mode bits included. -/
def Obligations.StatusWrites : Prop :=
  ∀ (i : Instr) (c : Cond) (r : Bool) (mask : BitVec 4) (op : Word) (s : State), Ready i s →
    ((∃ rm, rm ≠ 15 ∧ i = .msrReg c r mask rm ∧ op = s.reg rm) ∨
      ∃ rot imm8, i = .msrImm c r mask rot imm8 ∧ op = (imm8.setWidth 32).rotateRight (2 * rot.toNat)) →
    (r = false → ∀ m : Mode,
      (if mask.getLsbD 0 then s.core.cpsr.mode ≠ .usr ∧ m.code = op.extractLsb' 0 5 else m = s.core.cpsr.mode) →
      ∃ t, exec i s = .next t ∧ t.pc = s.pc + 4 ∧ RegsExcept [] s t ∧ t.core.spsrs = s.core.spsrs ∧
        (∀ a, t.peek a = s.peek a) ∧ SameDevices s t ∧
        t.core.cpsr =
          { n := if mask.getLsbD 3 then op.getLsbD 31 else s.core.cpsr.n
            z := if mask.getLsbD 3 then op.getLsbD 30 else s.core.cpsr.z
            c := if mask.getLsbD 3 then op.getLsbD 29 else s.core.cpsr.c
            v := if mask.getLsbD 3 then op.getLsbD 28 else s.core.cpsr.v
            i := if mask.getLsbD 0 then op.getLsbD 7 else s.core.cpsr.i
            f := if mask.getLsbD 0 then op.getLsbD 6 else s.core.cpsr.f
            t := s.core.cpsr.t
            mode := m }) ∧
    (r = true → ∀ x : Spsr, s.spsr = some x →
      ∃ t, exec i s = .next t ∧ t.pc = s.pc + 4 ∧ RegsExcept [] s t ∧ t.core.cpsr = s.core.cpsr ∧
        (∀ a, t.peek a = s.peek a) ∧ SameDevices s t ∧
        t.core.spsrs = s.core.spsrs.set s.core.cpsr.mode
          { n := if mask.getLsbD 3 then op.getLsbD 31 else x.n
            z := if mask.getLsbD 3 then op.getLsbD 30 else x.z
            c := if mask.getLsbD 3 then op.getLsbD 29 else x.c
            v := if mask.getLsbD 3 then op.getLsbD 28 else x.v
            i := if mask.getLsbD 0 then op.getLsbD 7 else x.i
            f := if mask.getLsbD 0 then op.getLsbD 6 else x.f
            t := if mask.getLsbD 0 then op.getLsbD 5 else x.t
            m := if mask.getLsbD 0 then op.extractLsb' 0 5 else x.m })

/-- R265, R266, R269, R271, R272, R445: the system-control unit in a privileged mode: a write changes nothing, a read
gives `CP15_OPEN` (to the flags when `Rd = r15`), `WFI` halts; each costs one internal cycle. -/
def Obligations.SystemControl : Prop :=
  (∀ (c : Cond) (opc1 : BitVec 3) (crn : BitVec 4) (rd : Reg) (opc2 : BitVec 3) (crm : BitVec 4) (s : State),
    Ready (.mcr c opc1 crn rd 15 opc2 crm) s → s.core.cpsr.mode ≠ .usr → isWfi opc1 crn 15 opc2 crm = false → rd ≠ 15 →
    ∃ t, exec (.mcr c opc1 crn rd 15 opc2 crm) s = .next t ∧ t.pc = s.pc + 4 ∧ SameFlags s t ∧ OnlyCore [] s t ∧
      t.report.cost = s.report.cost + s.par.internal.cp15) ∧
  (∀ (c : Cond) (opc1 : BitVec 3) (crn : BitVec 4) (rd : Reg) (opc2 : BitVec 3) (crm : BitVec 4) (s : State),
    Ready (.mrc c opc1 crn rd 15 opc2 crm) s → s.core.cpsr.mode ≠ .usr →
    ∃ t, exec (.mrc c opc1 crn rd 15 opc2 crm) s = .next t ∧ t.pc = s.pc + 4 ∧
      (rd ≠ 15 → t.reg rd = s.par.cp15Open ∧ SameFlags s t ∧ OnlyCore [physReg s.core.cpsr.mode rd] s t) ∧
      (rd = 15 → t.core.cpsr.n = s.par.cp15Open.getLsbD 31 ∧ t.core.cpsr.z = s.par.cp15Open.getLsbD 30 ∧
        t.core.cpsr.c = s.par.cp15Open.getLsbD 29 ∧ t.core.cpsr.v = s.par.cp15Open.getLsbD 28 ∧ OnlyCore [] s t) ∧
      t.report.cost = s.report.cost + s.par.internal.cp15) ∧
  (∀ (c : Cond) (rd : Reg) (s : State), Ready (.wfi c rd) s → s.core.cpsr.mode ≠ .usr →
    ∃ t, exec (.wfi c rd) s = .next t ∧ t.core.halted = true ∧ t.pc = s.pc + 4 ∧ SameFlags s t ∧ CoreFrame [] s t ∧
      (∀ a, t.peek a = s.peek a) ∧ SameDevices s t ∧ t.report.cost = s.report.cost + s.par.internal.cp15)

/-! ## Privilege -/

/-- R263, R407, R444: in User mode under `PRIV_POLICY = trap` every privileged operation raises the
undefined-instruction exception and changes nothing else. The operand combinations the model refuses before it looks at
the mode (log 18) are left out by the last three hypotheses. `MRS` of `spsr` and `MCR` of coprocessor 15 with `Rd = r15`,
which U40 refuses, are included: that their mode is looked at first is the model's choice (log 18). -/
def Obligations.PrivilegedTraps : Prop :=
  ∀ (i : Instr) (s : State), Ready i s → isPrivileged i = true → s.core.cpsr.mode = .usr → s.par.privPolicy = .trap →
    (∀ k c sf rn rd o, i = DpOp.instr k c sf rn rd o → o.Allowed) → (shape i = .loads → blockAllowed i) →
    (∀ c r mask rm, i = .msrReg c r mask rm → rm ≠ 15) →
    ∃ t, exec i s = .next t ∧ Entered .undefined (s.pc + 4) s t

/-- R263, R444: in User mode under `PRIV_POLICY = ignore` the privileged part is dropped: a status restore writes `pc`
only (an `LDM` its list and base too), `MSR` with the control field writes the flags only, `MSR` to `spsr`, `MCR` and
`WFI` do nothing, `MRC` reads `CP15_OPEN`, `MRS` of `spsr` writes some value. The model's choices among this: that an
`MCR` with `Rd = r15` is looked at for its mode first (log 18), that the rest of a status restore runs (log 23), that an
`MRC` with `Rd = r15` gives the flags (log 31), what the renderer's storage answers an `LDM` (log 34). -/
def Obligations.PrivilegedIgnored : Prop :=
  ∀ (s : State), s.core.cpsr.mode = .usr → s.par.privPolicy = .ignore →
    (∀ (k : DpOp) (c : Cond) (rn : Reg) (o : Operand2), Ready (k.instr c true rn 15 o) s → o.Allowed →
      ∃ t, exec (k.instr c true rn 15 o) s = .next t ∧ t.pc = k.result s rn o &&& ~~~3 ∧ SameFlags s t ∧
        OnlyCore [] s t) ∧
    (∀ (c : Cond) (p u w : Bool) (rn : Reg) (list : BitVec 16) (start : Word), Ready (.ldm c p u true w rn list) s →
      list.getLsbD 15 = true → rn ≠ 15 → start = blockStart p u (s.reg rn) (listRegs list).length →
      eachWord s.plain start (listRegs list).length →
      ∃ t, exec (.ldm c p u true w rn list) s = .next t ∧
        t.pc = s.blockWord start ((listRegs list).length - 1) &&& ~~~3 ∧ SameFlags s t ∧
        (∀ k (h : k < (listRegs list).length), (listRegs list)[k] ≠ 15 →
          t.getMode .usr (listRegs list)[k] = s.blockWord start k) ∧
        (w = true → rn ∉ listRegs list →
          t.getMode .usr rn = blockBase u (s.reg rn) (listRegs list).length) ∧
        CoreFrame ((listRegs list).map (physReg .usr) ++ if w then [physReg .usr rn] else []) s t ∧
        (∀ a, t.peek a = s.peek a)) ∧
    (∀ (i : Instr) (c : Cond) (r : Bool) (mask : BitVec 4) (op : Word), Ready i s →
      ((∃ rm, rm ≠ 15 ∧ i = .msrReg c r mask rm ∧ op = s.reg rm) ∨
        ∃ rot imm8, i = .msrImm c r mask rot imm8 ∧ op = (imm8.setWidth 32).rotateRight (2 * rot.toNat)) →
      (r = true ∨ mask.getLsbD 0 = true) →
      ∃ t, exec i s = .next t ∧ t.pc = s.pc + 4 ∧ OnlyCore [] s t ∧
        t.core.cpsr.n = (if !r && mask.getLsbD 3 then op.getLsbD 31 else s.core.cpsr.n) ∧
        t.core.cpsr.z = (if !r && mask.getLsbD 3 then op.getLsbD 30 else s.core.cpsr.z) ∧
        t.core.cpsr.c = (if !r && mask.getLsbD 3 then op.getLsbD 29 else s.core.cpsr.c) ∧
        t.core.cpsr.v = (if !r && mask.getLsbD 3 then op.getLsbD 28 else s.core.cpsr.v)) ∧
    (∀ (c : Cond) (rd : Reg), Ready (.mrs c true rd) s → rd ≠ 15 →
      ∃ t, exec (.mrs c true rd) s = .next t ∧ t.pc = s.pc + 4 ∧ SameFlags s t ∧ OnlyCore [physReg .usr rd] s t) ∧
    (∀ (c : Cond) (o1 : BitVec 3) (crn : BitVec 4) (rd : Reg) (o2 : BitVec 3) (crm : BitVec 4),
      Ready (.mcr c o1 crn rd 15 o2 crm) s →
      ∃ t, exec (.mcr c o1 crn rd 15 o2 crm) s = .next t ∧ t.pc = s.pc + 4 ∧ SameFlags s t ∧ OnlyCore [] s t) ∧
    (∀ (c : Cond) (rd : Reg), Ready (.wfi c rd) s →
      ∃ t, exec (.wfi c rd) s = .next t ∧ t.pc = s.pc + 4 ∧ SameFlags s t ∧ OnlyCore [] s t) ∧
    (∀ (c : Cond) (o1 : BitVec 3) (crn : BitVec 4) (rd : Reg) (o2 : BitVec 3) (crm : BitVec 4),
      Ready (.mrc c o1 crn rd 15 o2 crm) s →
      ∃ t, exec (.mrc c o1 crn rd 15 o2 crm) s = .next t ∧ t.pc = s.pc + 4 ∧ OnlyCore [physReg .usr rd] s t ∧
        (rd ≠ 15 → SameFlags s t ∧ t.reg rd = s.par.cp15Open) ∧
        (rd = 15 → t.core.cpsr.n = s.par.cp15Open.getLsbD 31 ∧ t.core.cpsr.z = s.par.cp15Open.getLsbD 30 ∧
          t.core.cpsr.c = s.par.cp15Open.getLsbD 29 ∧ t.core.cpsr.v = s.par.cp15Open.getLsbD 28))

/-- R25, R28, R442, R443: an instruction executed in User mode either takes an exception, which its own saved status
records as coming from User mode, or leaves the mode, I, F, the saved status registers and every register only another
mode sees. -/
def Obligations.UserModeConfined : Prop :=
  ∀ (i : Instr) (s t : State), Ready i s → s.core.cpsr.mode = .usr → exec i s = .next t →
    (takesException s i = true →
      Entered .undefined (s.pc + s.step) s t ∨ Entered .software (s.pc + s.step) s t) ∧
    (takesException s i = false →
      SameControl s t ∧ t.core.spsrs = s.core.spsrs ∧ t.core.regs.midFiq = s.core.regs.midFiq ∧
      ∀ b, b ≠ .usr → t.core.regs.sp.get b = s.core.regs.sp.get b ∧ t.core.regs.lr.get b = s.core.regs.lr.get b)

/-! ## Refusals -/

/-- U3, U4, U5, U6, U8, U9, U30: the operand combinations of data processing, multiplies, swaps and single transfers
that the spec refuses, each under its name. The model's choices among this: that `Rs = r15` is refused before the mode is
looked at where `S = 1` and `Rd = r15` (log 18), and that `r15` as offset is refused in the halfword format too
(log 17). -/
def Obligations.RefusedOperands : Prop :=
  (∀ (k : DpOp) (c : Cond) (sf : Bool) (rn rd : Reg) (ty : ShiftKind) (rm : Reg) (s : State),
    Ready (k.instr c sf rn rd (.rsr 15 ty rm)) s →
    exec (k.instr c sf rn rd (.rsr 15 ty rm)) s = .refused .shiftAmountR15) ∧
  (∀ (k : TestOp) (c : Cond) (rn rd : Reg) (ty : ShiftKind) (rm : Reg) (s : State),
    Ready (k.instr c rn rd (.rsr 15 ty rm)) s →
    exec (k.instr c rn rd (.rsr 15 ty rm)) s = .refused .shiftAmountR15) ∧
  (∀ (k : TestOp) (c : Cond) (rn : Reg) (o : Operand2) (s : State), Ready (k.instr c rn 15 o) s → o.Allowed →
    exec (k.instr c rn 15 o) s = .refused .testDestinationR15) ∧
  (∀ (c : Cond) (sf : Bool) (rd rn rs rm : Reg) (s : State), Ready (.mul c sf rd rn rs rm) s →
    (rd = 15 ∨ rs = 15 ∨ rm = 15) → exec (.mul c sf rd rn rs rm) s = .refused .multiplyOperand) ∧
  (∀ (c : Cond) (sf : Bool) (rd rn rs rm : Reg) (s : State), Ready (.mla c sf rd rn rs rm) s →
    (rd = 15 ∨ rn = 15 ∨ rs = 15 ∨ rm = 15) → exec (.mla c sf rd rn rs rm) s = .refused .multiplyOperand) ∧
  (∀ (c : Cond) (sf : Bool) (rdHi rdLo rs rm : Reg) (s : State) (i : Instr),
    (i = .umull c sf rdHi rdLo rs rm ∨ i = .umlal c sf rdHi rdLo rs rm ∨ i = .smull c sf rdHi rdLo rs rm ∨
      i = .smlal c sf rdHi rdLo rs rm) → Ready i s →
    (rdHi = 15 ∨ rdLo = 15 ∨ rs = 15 ∨ rm = 15 ∨ rdHi = rdLo) → exec i s = .refused .multiplyOperand) ∧
  (∀ (c : Cond) (rn rd rm : Reg) (s : State) (i : Instr), (i = .swp c rn rd rm ∨ i = .swpb c rn rd rm) → Ready i s →
    (rn = 15 ∨ rd = 15 ∨ rm = 15) → exec i s = .refused .swapOperand) ∧
  (∀ (i : Instr) (s : State), Ready i s → (shape i = .load ∨ shape i = .store) → badHalfword i = true →
    exec i s = .refused .halfwordPostWriteback) ∧
  (∀ (i : Instr) (s : State), Ready i s → badHalfword i = false → offsetReg i = some 15 →
    exec i s = .refused .offsetR15) ∧
  (∀ (i : Instr) (s : State) (v : Word), Ready i s → (shape i = .load ∨ shape i = .store) → badHalfword i = false →
    offsetReg i ≠ some 15 → backOf s i = some (15, v) → exec i s = .refused .baseR15) ∧
  (∀ (i : Instr) (s : State) (rn : Reg) (v : Word), Ready i s → badHalfword i = false → offsetReg i ≠ some 15 →
    backOf s i = some (rn, v) → rn ≠ 15 → storeSource i = some rn → exec i s = .refused .storeBaseWriteback) ∧
  (∀ (i : Instr) (s : State) (k : LoadKind) (a : Word), Ready i s → transferAllowed s i →
    loadOf s i = some (k, a, 15) → k ≠ .word → exec i s = .refused .narrowLoadR15)

/-- U6, U10 to U13, U20, U40: the block transfers and status accesses that the spec refuses, each under its name, in
the modes each clause names. The model's choice: in User mode an `LDM` that would restore the status and an `MSR` from
`r15` are refused before the mode is looked at (log 18). -/
def Obligations.RefusedBlocksAndStatus : Prop :=
  (∀ (c : Cond) (p u sf w : Bool) (rn : Reg) (list : BitVec 16) (s : State) (i : Instr),
    (i = .ldm c p u sf w rn list ∨ i = .stm c p u sf w rn list) → Ready i s →
    (rn = 15 → exec i s = .refused .baseR15) ∧ (rn ≠ 15 → list = 0 → exec i s = .refused .emptyList)) ∧
  (∀ (c : Cond) (p u : Bool) (rn : Reg) (list : BitVec 16) (s : State), rn ≠ 15 → list ≠ 0 →
    (Ready (.stm c p u true true rn list) s → exec (.stm c p u true true rn list) s = .refused .userBankWriteback) ∧
    (Ready (.ldm c p u true true rn list) s → list.getLsbD 15 = false →
      exec (.ldm c p u true true rn list) s = .refused .userBankWriteback)) ∧
  (∀ (rb : LReg) (s : State), s.core.cpsr.t = true →
    exec (.tPush false 0) s = .refused .emptyList ∧ exec (.tPop false 0) s = .refused .emptyList ∧
    exec (.tStmia rb 0) s = .refused .emptyList ∧ exec (.tLdmia rb 0) s = .refused .emptyList) ∧
  (∀ (k : DpOp) (c : Cond) (rn : Reg) (o : Operand2) (s : State), Ready (k.instr c true rn 15 o) s → o.Allowed →
    (s.core.cpsr.mode = .sys → exec (k.instr c true rn 15 o) s = .refused .noSpsr) ∧
    (∀ p, s.spsr = some p → p.restore = none → exec (k.instr c true rn 15 o) s = .refused .illegalMode)) ∧
  (∀ (c : Cond) (p u w : Bool) (rn : Reg) (list : BitVec 16) (s : State), Ready (.ldm c p u true w rn list) s →
    rn ≠ 15 → list.getLsbD 15 = true →
    (s.core.cpsr.mode = .sys → exec (.ldm c p u true w rn list) s = .refused .noSpsr) ∧
    (∀ x, s.spsr = some x → x.restore = none → exec (.ldm c p u true w rn list) s = .refused .illegalMode)) ∧
  (∀ (c : Cond) (rd : Reg) (s : State), Ready (.mrs c true rd) s →
    (s.core.cpsr.mode = .sys → exec (.mrs c true rd) s = .refused .noSpsr) ∧
    (rd = 15 → s.spsr ≠ none → exec (.mrs c true rd) s = .refused .systemOperandR15)) ∧
  (∀ (c : Cond) (s : State), Ready (.mrs c false 15) s → exec (.mrs c false 15) s = .refused .systemOperandR15) ∧
  (∀ (c : Cond) (r : Bool) (mask : BitVec 4) (s : State), Ready (.msrReg c r mask 15) s →
    exec (.msrReg c r mask 15) s = .refused .systemOperandR15) ∧
  (∀ (i : Instr) (c : Cond) (r : Bool) (mask : BitVec 4) (op : Word) (s : State), Ready i s →
    ((∃ rm, rm ≠ 15 ∧ i = .msrReg c r mask rm ∧ op = s.reg rm) ∨
      ∃ rot imm8, i = .msrImm c r mask rot imm8 ∧ op = (imm8.setWidth 32).rotateRight (2 * rot.toNat)) →
    (r = true → s.core.cpsr.mode = .sys → exec i s = .refused .noSpsr) ∧
    (r = false → s.core.cpsr.mode ≠ .usr → mask.getLsbD 0 = true → (∀ m : Mode, m.code ≠ op.extractLsb' 0 5) →
      exec i s = .refused .illegalMode)) ∧
  (∀ (c : Cond) (o1 : BitVec 3) (crn : BitVec 4) (o2 : BitVec 3) (crm : BitVec 4) (s : State),
    Ready (.mcr c o1 crn 15 15 o2 crm) s → s.core.cpsr.mode ≠ .usr → isWfi o1 crn 15 o2 crm = false →
    exec (.mcr c o1 crn 15 15 o2 crm) s = .refused .systemOperandR15)

/-! ## The compact variant's arithmetic, logic and moves -/

/-- R280, R284 to R287, R290, R291, R297, R298, R301, and the comparisons R289, R302, R303, R309: the result and the
flags by the exact values, `pc`, no cost beside the fetch (R315), and that nothing else changes. -/
def Obligations.CompactArithmetic : Prop :=
  (∀ (i : Instr) (s : State) (k : ArithOp) (a b : Word) (rd : LReg), s.core.cpsr.t = true →
    compactArith s i = some (k, a, b, rd) →
    ∃ t, exec i s = .next t ∧ t.reg (lowReg rd) = k.result a b s.core.cpsr.c ∧ t.pc = s.pc + 2 ∧
      ArithFlags t k a b s.core.cpsr.c ∧ OnlyCore [physReg s.core.cpsr.mode (lowReg rd)] s t ∧ t.report = s.report) ∧
  (∀ (i : Instr) (s : State) (k : ArithOp) (a b : Word), s.core.cpsr.t = true → compactCompare s i = some (k, a, b) →
    ∃ t, exec i s = .next t ∧ t.pc = s.pc + 2 ∧ ArithFlags t k a b s.core.cpsr.c ∧ OnlyCore [] s t ∧
      t.report = s.report)

/-- R281 to R283, R288, R292 to R296, R299, R300, R304, R306, R307, and `T.MUL` (R305): result, flags, `pc`, internal
cycles (R315), and that nothing else changes. `T.MUL` leaves C free and counts its cycles by the old `Rd`. -/
def Obligations.CompactLogic : Prop :=
  (∀ (i : Instr) (s : State) (x : Shifted) (rd : Option LReg) (n : Nat), s.core.cpsr.t = true →
    compactLogic s i = some (x, rd, n) →
    ∃ t, exec i s = .next t ∧ (∀ d, rd = some d → t.reg (lowReg d) = x.value) ∧ t.pc = s.pc + 2 ∧
      LogicalFlags s t x.value x.carry ∧
      OnlyCore (rd.map fun d => physReg s.core.cpsr.mode (lowReg d)).toList s t ∧
      t.report.cost = s.report.cost + n) ∧
  (∀ (rs rd : LReg) (s : State) (r : Word) (q : Int), s.core.cpsr.t = true →
    r = BitVec.ofNat 32 ((s.reg (lowReg rd)).toNat * (s.reg (lowReg rs)).toNat) → q = (s.reg (lowReg rd)).toInt →
    ∃ t, exec (.tMul rs rd) s = .next t ∧ t.reg (lowReg rd) = r ∧ t.pc = s.pc + 2 ∧
      t.core.cpsr.n = r.getLsbD 31 ∧ (t.core.cpsr.z = true ↔ r = 0) ∧ t.core.cpsr.v = s.core.cpsr.v ∧
      OnlyCore [physReg s.core.cpsr.mode (lowReg rd)] s t ∧
      t.report.cost = s.report.cost + s.par.internal.mul +
        (if -2 ^ 8 ≤ q ∧ q < 2 ^ 8 then 1 else if -2 ^ 16 ≤ q ∧ q < 2 ^ 16 then 2
          else if -2 ^ 24 ≤ q ∧ q < 2 ^ 24 then 3 else 4))

/-- R308, R310 to R314: the compact instructions that write a register and no flag; to `r15`, which only `T.ADD` and
`T.MOV` name, a branch that stays in the compact variant. -/
def Obligations.CompactMoves : Prop :=
  ∀ (i : Instr) (s : State) (rd : Reg) (v : Word), s.core.cpsr.t = true → compactMove s i = some (rd, v) →
    ∃ t, exec i s = .next t ∧ SameFlags s t ∧
      (rd ≠ 15 → t.reg rd = v ∧ t.pc = s.pc + 2 ∧ OnlyCore [physReg s.core.cpsr.mode rd] s t ∧ t.report = s.report) ∧
      (rd = 15 → t.pc = v &&& ~~~1 ∧ OnlyCore [] s t ∧ t.core.seq = true)

/-! ## What no instruction changes -/

/-- R21, R24, R28, R443: an instruction that takes no exception changes no general register, in any bank, but its own
destinations. -/
def Obligations.RegisterFrame : Prop :=
  ∀ (i : Instr) (s t : State), Ready i s → takesException s i = false → exec i s = .next t →
    RegsExcept (destRegs s i) s t

/-- R82, R85, R88, R111: after any instruction every byte is what it was, but for the bytes the instruction stores;
`stored` computes their addresses as the meanings do. -/
def Obligations.MemoryFrame : Prop :=
  ∀ (i : Instr) (s t : State), Memory.wf s.mem → Ready i s → exec i s = .next t →
    ∀ a, t.peek a = s.peekAfter (if takesException s i then [] else stored s i) a

/-- R21, R36 to R39, R42, R91, R445, R451: which instructions change the condition codes, the mode and masks, the
variant, a saved status register, the halt flag, a device; every other leaves them. None touches the other core, the
parameters, its core's time, or the devices' time and scanline position. -/
def Obligations.StatusFrame : Prop :=
  ∀ (i : Instr) (s t : State), Ready i s → exec i s = .next t →
    (setsFlags i = false → restoresStatus i = false → SameFlags s t) ∧
    (takesException s i = false → restoresStatus i = false →
      (∀ c mask rm, i = .msrReg c false mask rm → mask.getLsbD 0 = false) →
      (∀ c mask rot imm8, i = .msrImm c false mask rot imm8 → mask.getLsbD 0 = false) → SameControl s t) ∧
    (takesException s i = false → restoresStatus i = false → (∀ c rm, i ≠ .bx c rm) → (∀ rs sbz, i ≠ .tBx rs sbz) →
      t.core.cpsr.t = s.core.cpsr.t) ∧
    (takesException s i = false → (∀ c mask rm, i ≠ .msrReg c true mask rm) →
      (∀ c mask rot imm8, i ≠ .msrImm c true mask rot imm8) → t.core.spsrs = s.core.spsrs) ∧
    ((∀ c rd, i ≠ .wfi c rd) → (∀ c o1 crn rd cp o2 crm, i ≠ .mcr c o1 crn rd cp o2 crm) →
      shape i ≠ .store → shape i ≠ .stores → shape i ≠ .swap → t.core.halted = s.core.halted) ∧
    (shape i ≠ .load → shape i ≠ .loads → shape i ≠ .store → shape i ≠ .stores → shape i ≠ .swap → SameDevices s t) ∧
    t.other = s.other ∧ t.par = s.par ∧ t.core.index = s.core.index ∧ t.core.time = s.core.time ∧
    t.sched.now = s.sched.now ∧ t.sched.devNow = s.sched.devNow ∧ t.sched.line = s.sched.line ∧
    t.sched.dot = s.sched.dot

/-! ## The Bus -/

/-- R74, R84: where the default platform keeps the byte of every address: mirrors are one byte, the three ROM windows
share one image, the VRAM fold. The two sizes R84 leaves to the loader are the model's choice (log 6). -/
def Obligations.CellsOfAddresses : Prop :=
  ∀ (s : State) (a : Word) (n : Nat), s.par.regions = defaultRegions → n = a.toNat →
    s.cell a =
      if n < 0x4000 then some n
      else if n < 0x02000000 then none
      else if n < 0x03000000 then some (0x02000000 + n % 0x40000)
      else if n < 0x04000000 then some (0x03000000 + n % 0x8000)
      else if n < 0x04000400 then some n
      else if n < 0x05000000 then none
      else if n < 0x06000000 then some (0x05000000 + n % 0x400)
      else if n < 0x07000000 then
        some (0x06000000 + if n % 0x20000 < 0x18000 then n % 0x20000 else n % 0x20000 - 0x8000)
      else if n < 0x08000000 then some (0x07000000 + n % 0x400)
      else if n < 0x0E000000 then some (0x08000000 + n % 0x02000000)
      else if n < 0x10000000 then some (0x0E000000 + n % 0x10000)
      else none

/-- R76, R77, R82, R87, R88, on the default platform: an aligned read of storage is its bytes, the lowest address
lowest; a read after an aligned write of work RAM, or of a halfword or word of video or object memory, gives the value
back, at its width or byte by byte; no other byte changes. That the renderer's storage answers the bytes stored, with a
collaborator attached too, is the model's choice (log 34). -/
def Obligations.StorageBytes : Prop :=
  (∀ (s : State) (a : Word) (k : AccessKind) (b0 b1 b2 b3 : Byte), s.par.regions = defaultRegions →
    s.plain a = true → s.peek a = some b0 →
    (s.busRead a .byte k).1 = 0#24 ++ b0 ∧
    (a.toNat % 2 = 0 → s.peek (a + 1) = some b1 → (s.busRead a .half k).1 = 0#16 ++ b1 ++ b0) ∧
    (a.toNat % 4 = 0 → s.peek (a + 1) = some b1 → s.peek (a + 2) = some b2 → s.peek (a + 3) = some b3 →
      (s.busRead a .word k).1 = b3 ++ b2 ++ b1 ++ b0)) ∧
  (∀ (s t : State) (req : Requester) (a : Word) (w : Width) (v : Word) (k k' : AccessKind),
    s.par.regions = defaultRegions → Memory.wf s.mem →
    (0x02000000 ≤ a.toNat ∧ a.toNat < 0x04000000 ∨ 0x05000000 ≤ a.toNat ∧ a.toNat < 0x08000000 ∧ w ≠ .byte) →
    a.toNat % w.bytes = 0 → t = s.busWrite req a w v k →
    (t.busRead a w k').1 = w.trim v ∧
    (∀ i, i < w.bytes → t.peek (a + BitVec.ofNat 32 i) = some (v.extractLsb' (8 * i) 8)) ∧
    (∀ b, (∀ i, i < w.bytes → s.cell b ≠ s.cell (a + BitVec.ofNat 32 i)) → t.peek b = s.peek b))

/-- R85, R86, R90, R531, on the default platform (the byte rules of video and object memory are the spec's default for a
point its source leaves unsettled, U35): ROM ignores writes; a byte written to palette or video memory fills its
halfword; a byte written to object memory is dropped; the backup storage's one byte is read in every lane and written
from the low byte; an unmapped address, an IO offset nothing is assigned to, a write-only register and a collaborator's
register read open bus, and the first two ignore writes. Here no collaborator is attached (log 7). The model's choices
among this: that backup memory then answers its stored byte (log 8), that every offset of it is backed (log 6), that a
wide access of it is one of one byte (log 28), and that the dropped byte marks the step as one that touched a
collaborator's region (log 22). -/
def Obligations.WidthRules : Prop :=
  ∀ (s : State) (req : Requester) (a : Word) (w : Width) (v : Word) (k : AccessKind),
    s.par.regions = defaultRegions → Memory.wf s.mem → s.answers = [] → a.toNat % w.bytes = 0 →
    (a.toNat < 0x4000 ∨ 0x08000000 ≤ a.toNat ∧ a.toNat < 0x0E000000 → s.busWrite req a w v k = s.charge a w k) ∧
    (0x05000000 ≤ a.toNat ∧ a.toNat < 0x07000000 → w = .byte →
      ∀ b, (s.busWrite req a w v k).peek b =
        if s.cell b = s.cell (a &&& ~~~1) ∨ s.cell b = s.cell (a ||| 1) then some (v.extractLsb' 0 8) else s.peek b) ∧
    (0x07000000 ≤ a.toNat ∧ a.toNat < 0x08000000 → w = .byte → s.busWrite req a w v k = (s.charge a w k).setTouched) ∧
    (0x0E000000 ≤ a.toNat ∧ a.toNat < 0x10000000 →
      (∀ b, s.peek a = some b → (s.busRead a w k).1 = w.trim (b ++ b ++ b ++ b)) ∧
      ∀ b, (s.busWrite req a w v k).peek b = if s.cell b = s.cell a then some (v.extractLsb' 0 8) else s.peek b) ∧
    (0x4000 ≤ a.toNat ∧ a.toNat < 0x02000000 ∨ 0x04000400 ≤ a.toNat ∧ a.toNat < 0x05000000 ∨ 0x10000000 ≤ a.toNat →
      s.busRead a w k = (w.trim s.par.openBus, s.charge a w k) ∧ s.busWrite req a w v k = s.charge a w k) ∧
    (0x040000E0 ≤ a.toNat ∧ a.toNat < 0x04000100 ∨ 0x04000110 ≤ a.toNat ∧ a.toNat < 0x04000120 ∨
        0x04000160 ≤ a.toNat ∧ a.toNat < 0x04000200 ∨ 0x04000206 ≤ a.toNat ∧ a.toNat < 0x04000208 ∨
        0x0400020C ≤ a.toNat ∧ a.toNat < 0x04000300 ∨ 0x04000302 ≤ a.toNat ∧ a.toNat < 0x04000400 →
      (s.busRead a w k).1 = 0 ∧ s.busWrite req a w v k = (s.charge a w k).setTouched) ∧
    (0x04000000 ≤ a.toNat ∧ a.toNat < 0x040000B0 ∨ 0x04000120 ≤ a.toNat ∧ a.toNat < 0x04000160 →
      (s.busRead a w k).1 = 0) ∧
    (∀ ch : Fin 4, a.toNat = 0x040000B0 + 12 * ch.val ∨ a.toNat = 0x040000B4 + 12 * ch.val →
      (s.busRead a w k).1 = 0)

/-- R95, R96, R97: on the default platform, the cost of an access by region, width and kind, the kind S only in the
region of the access before it, and the region remembered. The default table names no further region. -/
def Obligations.AccessCost : Prop :=
  ∀ (s : State) (a : Word) (w : Width) (k : AccessKind), s.par.regions = defaultRegions →
    (lookup s.par.regions a = none →
      (s.charge a w k).report.cost = s.report.cost + s.par.unmappedCost ∧ (s.charge a w k).lastRegion = none) ∧
    ∀ (r : Region) (seq : Bool), lookup s.par.regions a = some r → (seq = true ↔ k = .s ∧ s.lastRegion = some r.name) →
      (s.charge a w k).lastRegion = some r.name ∧
      (s.charge a w k).report.cost = s.report.cost +
        match r.name with
        | .boot | .iwram | .io | .oam => 1
        | .ewram => if w = .word then 6 else 3
        | .pal | .vram => if w = .word then 2 else 1
        | .rom0 => romCycles (s.waitcnt.extractLsb' 2 2) (s.waitcnt.getLsbD 4) 2 w seq
        | .rom1 => romCycles (s.waitcnt.extractLsb' 5 2) (s.waitcnt.getLsbD 7) 4 w seq
        | .rom2 => romCycles (s.waitcnt.extractLsb' 8 2) (s.waitcnt.getLsbD 10) 8 w seq
        | .backup => 1 + selectedCycles (s.waitcnt.extractLsb' 0 2)
        | .other _ => 0

/-! ## Devices -/

/-- R423: a write of `IF`, alone or as the upper half of a word write of `IE` and `IF`, clears the pending bits whose
written bit is 1 and leaves the others; a byte write covers its eight. -/
def Obligations.InterruptAcknowledge : Prop :=
  ∀ (s : State) (req : Requester) (v : Word) (k : AccessKind), s.par.regions = defaultRegions →
    (s.busWrite req 0x04000202 .half v k).irq =
      { s.irq with pending := s.irq.pending &&& ~~~(v.extractLsb' 0 16) } ∧
    (s.busWrite req 0x04000202 .byte v k).irq =
      { s.irq with pending := s.irq.pending &&& ~~~(0#8 ++ v.extractLsb' 0 8) } ∧
    (s.busWrite req 0x04000203 .byte v k).irq =
      { s.irq with pending := s.irq.pending &&& ~~~(v.extractLsb' 0 8 ++ 0#8) } ∧
    (s.busWrite req 0x04000200 .word v k).irq.pending = s.irq.pending &&& ~~~(v.extractLsb' 16 16)

/-- R97, R424 to R427, R448: the registers `IE`, `IF`, `IME`, `WAITCNT`, the post-boot flag and `HALTCNT`: what each
reads as, what a write of it leaves, reserved bits zero; `HALTCNT` halts the storing core when bit 7 is clear, and never
for a DMA channel. That the halt flag is set inside the access, not at the end of the storing step, is the model's choice
(log 20). -/
def Obligations.ControlRegisters : Prop :=
  ∀ (s : State) (req : Requester) (v : Word) (k : AccessKind), s.par.regions = defaultRegions →
    (s.busRead 0x04000200 .half k).1 = 0#16 ++ s.irq.enable ∧ (s.busRead 0x04000202 .half k).1 = 0#16 ++ s.irq.pending ∧
    (s.busRead 0x04000208 .word k).1 = 0#31 ++ BitVec.ofBool s.irq.master ∧
    (s.busRead 0x04000204 .half k).1 = 0#16 ++ s.waitcnt ∧
    (s.busRead 0x04000300 .byte k).1 = 0#24 ++ s.postFlag ∧ (s.busRead 0x04000301 .byte k).1 = 0 ∧
    (s.busWrite req 0x04000200 .half v k).irq = { s.irq with enable := 0#2 ++ v.extractLsb' 0 14 } ∧
    (s.busWrite req 0x04000208 .word v k).irq = { s.irq with master := v.getLsbD 0 } ∧
    (s.busWrite req 0x04000204 .half v k).waitcnt =
      0#1 ++ v.extractLsb' 14 1 ++ 0#1 ++ v.extractLsb' 0 13 ∧
    (s.busWrite req 0x04000300 .byte v k).postFlag = v.extractLsb' 0 8 ∧
    (s.busWrite req 0x04000300 .byte v k).core.halted = s.core.halted ∧
    (s.busWrite .core 0x04000301 .byte v k).core.halted = (s.core.halted || !v.getLsbD 7) ∧
    (s.busWrite .dma 0x04000301 .byte v k).core.halted = s.core.halted ∧
    (s.busWrite req 0x04000301 .byte v k).postFlag = s.postFlag

/-- R481, R482, R486, R488, R489: the two registers of a timer: `TMtCNT_L` reads the counter and writes the reload value
alone; `TMtCNT_H` reads and writes the control fields; its enable edge reloads the counter and clears the divider, a
change of prescale while enabled clears the divider; no other timer changes. -/
def Obligations.TimerRegisters : Prop :=
  ∀ (s l h : State) (t : Fin 4) (req : Requester) (v : Word) (k : AccessKind) (lo hi : Word),
    s.par.regions = defaultRegions → lo = 0x04000100 + BitVec.ofNat 32 (4 * t.val) → hi = lo + 2 →
    l = s.busWrite req lo .half v k → h = s.busWrite req hi .half v k →
    (s.busRead lo .half k).1 = 0#16 ++ s.timers[t].counter ∧
    (s.busRead hi .half k).1 =
      0#24 ++ BitVec.ofBool s.timers[t].enable ++ BitVec.ofBool s.timers[t].irqEn ++ 0#3 ++
        BitVec.ofBool s.timers[t].cascade ++ s.timers[t].prescale ∧
    l.timers[t] = { s.timers[t] with reload := v.extractLsb' 0 16 } ∧
    h.timers[t].prescale = v.extractLsb' 0 2 ∧ h.timers[t].cascade = v.getLsbD 2 ∧ h.timers[t].irqEn = v.getLsbD 6 ∧
    h.timers[t].enable = v.getLsbD 7 ∧ h.timers[t].reload = s.timers[t].reload ∧
    (s.timers[t].enable = false → v.getLsbD 7 = true →
      h.timers[t].counter = s.timers[t].reload ∧ h.timers[t].div = 0) ∧
    (s.timers[t].enable = true ∨ v.getLsbD 7 = false → h.timers[t].counter = s.timers[t].counter) ∧
    (s.timers[t].enable = true → v.getLsbD 7 = true →
      h.timers[t].div = if v.extractLsb' 0 2 = s.timers[t].prescale then s.timers[t].div else 0) ∧
    ∀ u : Fin 4, u ≠ t → l.timers[u] = s.timers[u] ∧ h.timers[u] = s.timers[u]

/-- R483 to R485, R490, R492, R493: a timer that counts cycles, advanced `n` cycles. Before its next overflow, `counter`
and divider hold the cycles counted; at it, the counter is the reload value, the divider 0, the interrupt requested if
enabled, and an enabled cascading successor has counted one, or overflowed in turn. The divider of a running timer is
below its divisor (`StepKeepsInv`). -/
def Obligations.TimerCounts : Prop :=
  ∀ (s : State) (t : Fin 4) (n p : Nat) (x y : Timer),
    s.countsCycles t = true → x = s.timers[t] → y = (s.advanceBy n).timers[t] → p = prescaleDivisor x.prescale →
    x.div < p →
    (x.counter.toNat * p + x.div + n < 0x10000 * p →
      y.counter.toNat * p + y.div = x.counter.toNat * p + x.div + n ∧ y.div < p ∧
      y = { x with counter := y.counter, div := y.div } ∧
      ∀ u : Fin 4, u.val = t.val + 1 → s.timers[u].cascade = true → (s.advanceBy n).timers[u] = s.timers[u]) ∧
    (x.counter.toNat * p + x.div + n = 0x10000 * p →
      y = { x with counter := x.reload, div := 0 } ∧
      (x.irqEn = true → (s.advanceBy n).irq.pending.getLsbD (3 + t.val) = true) ∧
      ∀ u : Fin 4, u.val = t.val + 1 → s.timers[u].cascade = true → s.timers[u].enable = true →
        ((s.advanceBy n).timers[u] =
          { s.timers[u] with
            counter := if s.timers[u].counter = 0xFFFF then s.timers[u].reload else s.timers[u].counter + 1 }) ∧
        (s.timers[u].counter = 0xFFFF → s.timers[u].irqEn = true →
          (s.advanceBy n).irq.pending.getLsbD (3 + u.val) = true))

/-- R471, R506, R517: the scanline position: `n` cycles inside a line move `dot`; at the end of the line `dot` is 0 and
`line` the next, and at the start of vertical blanking every channel armed with that trigger is requested. -/
def Obligations.ScanlineSignals : Prop :=
  ∀ (s t : State) (n : Nat), s.inFrame = true → t = s.advanceBy n →
    t.sched.devNow = s.sched.devNow + n ∧
    (n < s.par.lineCycles - s.sched.dot → t.sched.dot = s.sched.dot + n ∧ t.sched.line = s.sched.line) ∧
    (n = s.par.lineCycles - s.sched.dot →
      t.sched.dot = 0 ∧ t.sched.line = (s.sched.line + 1) % s.par.linesPerFrame ∧
      (t.sched.line = s.par.vblankLine → ∀ ch : Fin 4, s.dma[ch].armed = true → s.dma[ch].trigger = 1 →
        t.dma[ch].req = true)) ∧
    (s.sched.dot + n = s.par.hblankStart → 0 < n → s.sched.line < s.par.vblankLine → s.par.hblankStart ≤ s.par.lineCycles →
      ∀ ch : Fin 4, s.dma[ch].armed = true → s.dma[ch].trigger = 2 → t.dma[ch].req = true)

/-- R501 to R505: the registers of a DMA channel. A write of `DMAchCNT_H`: bit 15 from 0 to 1 latches both addresses,
masked and aligned, the count, and the immediate request; at 1 already it changes the control bits alone; at 0 it
disarms. The programmed registers stay. A write of `DMAchSAD`, `DMAchDAD` or `DMAchCNT_L`, whole or by halves, armed or
not, changes that programmed register alone; a word write over `CNT_L` and `CNT_H` is the lower half's write, then the
upper's (R89). `CNT_H` reads as stored, the other three as open bus. No other channel changes. -/
def Obligations.DmaArming : Prop :=
  (∀ (s t : State) (ch : Fin 4) (req : Requester) (v : Word) (k : AccessKind) (x y : DmaChannel) (low : Word) (max : Nat),
      s.par.regions = defaultRegions →
      t = s.busWrite req (0x040000BA + BitVec.ofNat 32 (12 * ch.val)) .half v k → x = s.dma[ch] → y = t.dma[ch] →
      low = (if v.getLsbD 10 then 3 else 1) → max = (if ch = 3 then 0x10000 else 0x4000) →
      y.sad = x.sad ∧ y.dad = x.dad ∧ y.cntL = x.cntL ∧ y.cntH = v.extractLsb' 0 16 &&& 0xFFE0 ∧
      (v.getLsbD 15 = true → x.cntH.getLsbD 15 = false →
        y.src = x.sad &&& (if ch = 0 then 0x07FFFFFF else 0x0FFFFFFF) &&& ~~~low ∧
        y.dst = x.dad &&& (if ch = 3 then 0x0FFFFFFF else 0x07FFFFFF) &&& ~~~low ∧
        y.cnt = (if x.cntL.toNat % max = 0 then max else x.cntL.toNat % max) ∧
        (y.req = true ↔ v.extractLsb' 12 2 = 0)) ∧
      (v.getLsbD 15 = true → x.cntH.getLsbD 15 = true →
        y.src = x.src ∧ y.dst = x.dst ∧ y.cnt = x.cnt ∧ y.req = x.req) ∧
      (v.getLsbD 15 = false → y.req = false ∧ y.src = x.src ∧ y.dst = x.dst ∧ y.cnt = x.cnt) ∧
      ∀ c : Fin 4, c ≠ ch → t.dma[c] = s.dma[c]) ∧
  ∀ (s : State) (ch : Fin 4) (req : Requester) (v : Word) (k : AccessKind) (x : DmaChannel) (sad dad cnt : Word),
    s.par.regions = defaultRegions → x = s.dma[ch] → sad = 0x040000B0 + BitVec.ofNat 32 (12 * ch.val) →
    dad = sad + 4 → cnt = sad + 8 →
    (s.busWrite req sad .word v k).dma = s.dma.set ch { x with sad := v } ∧
    (s.busWrite req sad .half v k).dma = s.dma.set ch { x with sad := x.sad.extractLsb' 16 16 ++ v.extractLsb' 0 16 } ∧
    (s.busWrite req (sad + 2) .half v k).dma =
      s.dma.set ch { x with sad := v.extractLsb' 0 16 ++ x.sad.extractLsb' 0 16 } ∧
    (s.busWrite req dad .word v k).dma = s.dma.set ch { x with dad := v } ∧
    (s.busWrite req dad .half v k).dma = s.dma.set ch { x with dad := x.dad.extractLsb' 16 16 ++ v.extractLsb' 0 16 } ∧
    (s.busWrite req (dad + 2) .half v k).dma =
      s.dma.set ch { x with dad := v.extractLsb' 0 16 ++ x.dad.extractLsb' 0 16 } ∧
    (s.busWrite req cnt .half v k).dma = s.dma.set ch { x with cntL := v.extractLsb' 0 16 } ∧
    (s.busWrite req cnt .word v k).dma =
      ((s.busWrite req cnt .half v k).busWrite req (cnt + 2) .half (v >>> 16) k).dma ∧
    (s.busRead (cnt + 2) .half k).1 = 0#16 ++ x.cntH ∧
    (s.busRead sad .word k).1 = 0 ∧ (s.busRead dad .word k).1 = 0 ∧ (s.busRead cnt .half k).1 = 0

/-- R507 to R511, R513, R514: a transfer of `n` units from EWRAM to IWRAM with every address mode of both sides, and the
refill of an audio FIFO: four words to the FIFO register. The bytes arrive (at a fixed destination the last unit's), no
other byte changes, the latches move, the request is gone, the interrupt is requested if asked for, the channel disarms
or reloads, and the cost. The addresses are aligned to the unit, as arming leaves them. No collaborator answers the
refill (log 7); that its reload goes by the programmed width and mode is the model's choice (log 32). -/
def Obligations.DmaCopies : Prop :=
  ∀ (s t : State) (ch : Fin 4) (x y : DmaChannel) (fifo : Bool) (w : Width) (n : Nat) (source dest : Nat → Word)
    (low : Word) (max : Nat),
    s.par.regions = defaultRegions → Memory.wf s.mem → x = s.dma[ch] → t = s.dmaTransfer ch → y = t.dma[ch] →
    (fifo = true ↔ x.cntH.extractLsb' 12 2 = 3 ∧ (ch = 1 ∨ ch = 2)) →
    w = (if fifo || x.cntH.getLsbD 10 then .word else .half) → n = (if fifo then 4 else x.cnt) →
    source = unitAddress x.src x.srcMode w → dest = unitAddress x.dst (if fifo then 2 else x.dstMode) w →
    x.src.toNat % w.bytes = 0 → (∀ k, k < n → 0x02000000 ≤ (source k).toNat ∧ (source k).toNat < 0x02040000) →
    low = (if x.cntH.getLsbD 10 then 3 else 1) → max = (if ch = 3 then 0x10000 else 0x4000) →
    (fifo = false → x.dst.toNat % w.bytes = 0 →
      (∀ k, k < n → 0x03000000 ≤ (dest k).toNat ∧ (dest k).toNat < 0x03008000) →
      (∀ k j, k < n → j < w.bytes → (x.dstMode = 2 → k + 1 = n) →
        t.peek (dest k + BitVec.ofNat 32 j) = s.peek (source k + BitVec.ofNat 32 j)) ∧
      (∀ b, (∀ k j, k < n → j < w.bytes → s.cell b ≠ s.cell (dest k + BitVec.ofNat 32 j)) → t.peek b = s.peek b) ∧
      t.report.cost = s.report.cost + s.par.internal.dma + n * (if w = .word then 6 + 1 else 3 + 1) ∧
      t.outbox = s.outbox) ∧
    (fifo = true → x.dst = 0x040000A0 ∨ x.dst = 0x040000A4 → s.answers = [] →
      t.mem = s.mem ∧ t.report.cost = s.report.cost + s.par.internal.dma + 4 * (6 + 1) ∧
      t.outbox = s.outbox ++ (List.range 4).map fun k =>
        .regWrite (x.dst.toNat - 0x04000000) .word (s.busValue (source k, .word))) ∧
    ((fifo = false → x.dst.toNat % w.bytes = 0 ∧
        ∀ k, k < n → 0x03000000 ≤ (dest k).toNat ∧ (dest k).toNat < 0x03008000) →
      (fifo = true → (x.dst = 0x040000A0 ∨ x.dst = 0x040000A4) ∧ s.answers = []) →
      y.src = source n ∧ y.req = false ∧
      (x.repeats = false ∨ x.trigger = 0 → y.dst = dest n ∧ y.cntH = x.cntH &&& 0x7FFF) ∧
      (x.repeats = true → x.trigger ≠ 0 →
        y.cntH = x.cntH ∧ y.cnt = (if x.cntL.toNat % max = 0 then max else x.cntL.toNat % max) ∧
        y.dst = if x.dstMode = 3 then x.dad &&& (if ch = 3 then 0x0FFFFFFF else 0x07FFFFFF) &&& ~~~low
          else dest n) ∧
      (t.irq.pending.getLsbD (8 + ch.val) = (s.irq.pending.getLsbD (8 + ch.val) || x.irqEn)) ∧
      t.core = s.core ∧ t.other = s.other ∧ t.timers = s.timers)

/-! ## The main loop -/

/-- R116, R131, R132, R467, R560, R561, R569: with no transfer, interrupt or halt, a step runs the instruction at `pc`: where
the word read there is the encoding of a well-formed `i` of the current variant, it is `exec i` on the state after the
fetch, its cost then moving the core's time: what was charged under the default cost function, and under any other what
that says of the checkpoint and of the state `exec` left (that it is told those two is the model's choice, log 35). In
storage the word read is the bytes stored there; that this holds in the renderer's too is the model's choice (log 34). -/
def Obligations.StepRunsDecoded : Prop :=
  ∀ (s u : State) (i : Instr) (v : Word) (f : State),
    u = s.atCheckpoint → u.dmaReady = none → u.deliverable = false → u.core.halted = false → u.core.aligned = true →
    (v, f) = u.busRead u.pc u.width u.fetchKind → i.wf = true → i.isCompact = u.core.cpsr.t →
    (if u.core.cpsr.t then v.extractLsb' 0 16 = encodeHalf i else v = encodeWord i) →
    (∀ t, exec i (f.setSeq true) = .next t → step s = .next t.settle ∧
      ∀ cost : CostFunction, stepWith cost s = .next (t.settleBy (cost.step u t))) ∧
    (∀ r, exec i (f.setSeq true) = .refused r → step s = .refused r) ∧
    (u.quiet u.pc = true → f = u.charge u.pc u.width u.fetchKind) ∧
    (u.par.regions = defaultRegions → u.plain u.pc = true → u.peek u.pc ≠ none →
      ∀ j (h : j < (encode i).length), u.peek (u.pc + BitVec.ofNat 32 j) = some ((encode i)[j]))

/-- R420, R422, R446, R447, R467, R473, R512: what a checkpoint does before any instruction. A requested armed channel
of lowest index transfers, and no core runs; else, with `IE & IF`, `IME` and a clear `cpsr.I`, the interrupt is entered,
a halted core waking, and no pending bit cleared; else a halted core only lets time pass. That a transfer moves the time
of a halted core too is the model's choice (log 12), and so is the sequential fetch after an entry that woke the core (log 33). -/
def Obligations.Checkpoint : Prop :=
  ∀ (s u : State), u = s.atCheckpoint →
    (∀ ch : Fin 4, u.dma[ch].armed = true → u.dma[ch].req = true →
      (∀ c : Fin 4, c < ch → ¬ (u.dma[c].armed = true ∧ u.dma[c].req = true)) →
      ∃ t, step s = .next t ∧ t.mem = (u.dmaTransfer ch).mem ∧ t.dma[ch].req = false ∧
        t.core = { u.core with time := max u.core.time (u.sched.now + (u.dmaTransfer ch).report.cost) } ∧
        t.other = u.other.map fun o => { o with time := max o.time (u.sched.now + (u.dmaTransfer ch).report.cost) }) ∧
    ((∀ c : Fin 4, ¬ (u.dma[c].armed = true ∧ u.dma[c].req = true)) →
      (u.irq.enable &&& u.irq.pending ≠ 0 → u.irq.master = true → u.core.cpsr.i = false →
        ∃ t, step s = .next t ∧ Entered .interrupt (u.pc + 4) (u.setHalted false) t ∧ t.core.seq = true ∧
          t.core.time = u.core.time +
            (s.par.internal.interrupt +
              (((u.setCpsr { u.core.cpsr with t := false }).charge 0x18 .word .n).charge 0x1C .word .s).report.cost) *
            u.clk) ∧
      ((u.irq.enable &&& u.irq.pending = 0 ∨ u.irq.master = false ∨ u.core.cpsr.i = true) → u.core.halted = true →
        ∃ t, step s = .next t ∧ t = u.setTime t.core.time ∧ u.core.time < t.core.time ∧
          (u.other = none → t.core.time = max (u.core.time + 1) u.nextEvent) ∧
          (∀ o, u.other = some o → o.halted = true → t.core.time = max (u.core.time + 1) u.nextEvent) ∧
          ∀ o, u.other = some o → o.halted = false →
            t.core.time = max (u.core.time + 1) (min u.nextEvent (o.time + 1))))

/-- R460, R472, R569: the core that runs is the one with the smallest time, on a tie the lower index; `now` is that time
and never goes back, whatever the cost function; the devices stand at it. What a step does depends on the cost function
in the cores' times alone. -/
def Obligations.CoreOrder : Prop :=
  (∀ (s : State) (o : Core), s.other = some o → s.core.index ≠ o.index →
    ∃ p, s.begin.other = some p ∧ ((s.begin.core = s.core ∧ p = o) ∨ (s.begin.core = o ∧ p = s.core)) ∧
      s.begin.sched.now = s.begin.core.time ∧
      (s.begin.core.time < p.time ∨ s.begin.core.time = p.time ∧ s.begin.core.index < p.index)) ∧
  (∀ (s t : State), s.onTime = true → step s = .next t →
    s.sched.now ≤ t.sched.now ∧ t.sched.devNow = t.sched.now ∧ t.sched.now ≤ t.core.time) ∧
  ∀ (cost cost' : CostFunction) (s : State),
    (∀ t, stepWith cost s = .next t →
      (∃ u, stepWith cost' s = .next u ∧ u.untimed = t.untimed) ∧
      (s.onTime = true →
        s.sched.now ≤ t.sched.now ∧ t.sched.devNow = t.sched.now ∧ t.sched.now ≤ t.core.time)) ∧
    (∀ r, stepWith cost s = .refused r → stepWith cost' s = .refused r)

/-! ## Reset -/

/-- R10, R51, R52, R542, R544: what the spec gives for the state after reset: `pc`, mode, masks, variant, the first fetch;
every device register and latch zero, no core halted, no time passed, no region remembered, no stored event, the first
signal due at `HBLANK_START`; and the default parameters the costs and policies of the other statements stand on: the
internal cycles (R563, R513; for the multiplies what is added to R207's `m`), the cost of an unmapped access (R87), the
region table, and the values of R10. -/
def Obligations.ResetValues : Prop :=
  State.reset.pc = 0x00000000 ∧ State.reset.core.cpsr.mode = .svc ∧ State.reset.core.cpsr.i = true ∧
  State.reset.core.cpsr.f = true ∧ State.reset.core.cpsr.t = false ∧
  State.reset.core.cpsr.toWord.extractLsb' 8 20 = 0 ∧ State.reset.core.seq = false ∧
  State.reset.core.halted = false ∧ State.reset.core.time = 0 ∧ State.reset.irq = ⟨0, 0, false⟩ ∧
  (∀ t : Fin 4, State.reset.timers[t] = ⟨0, 0, 0, false, false, false, 0⟩) ∧
  (∀ ch : Fin 4, State.reset.dma[ch] = ⟨0, 0, 0, 0, 0, 0, 0, false⟩) ∧
  State.reset.waitcnt = 0x0000 ∧ State.reset.lastRegion = none ∧ State.reset.postFlag = 0 ∧
  State.reset.sched = { now := 0, devNow := 0, line := 0, dot := 0, ticks := [] } ∧
  State.reset.nextEvent = State.reset.par.hblankStart ∧
  State.reset.par.internal =
    { shiftByRegister := 1, load := 1, swap := 1, mul := 0, mla := 1, mull := 1, mlal := 2, cp15 := 1, undefined := 1,
      interrupt := 1, dma := 2 } ∧
  State.reset.par.unmappedCost = 1 ∧ State.reset.par.regions = defaultRegions ∧
  (∀ r ∈ State.reset.par.regions, r.openBus = 0) ∧ State.reset.par.openBus = 0 ∧ State.reset.par.clk0 = 1 ∧
  State.reset.par.privPolicy = .trap ∧ State.reset.par.cp15Open = 0 ∧ State.reset.par.lineCycles = 1232 ∧
  State.reset.par.hblankStart = 960 ∧ State.reset.par.linesPerFrame = 228 ∧ State.reset.par.vblankLine = 160 ∧
  State.reset.par.fastBoot = defaultFastBoot

/-- R10, R540 to R546: the host's reset operation on the default platform. Each core is at its reset state and each
device at its reset values; a soft reset keeps every byte, a power-on every byte but RAM's. With fast boot every core,
work RAM and the devices take `FastBootState`; its default is the table of R546. The model's choices: the registers R51
gives no value for are zero (log 1), what RAM holds after power-on (log 2), and that backup memory keeps its bytes
(log 9). -/
def Obligations.ResetOperation : Prop :=
  ∀ (s t u : State) (kind : ResetKind) (f : FastBoot), s.par.regions = defaultRegions → Memory.wf s.mem →
    t = s.resetMachine kind false → u = s.resetMachine kind true → f = s.par.fastBoot →
    t.par = s.par ∧ t.core = State.reset.core ∧ t.other = (s.other.map fun _ => Core.reset 1) ∧
    t.irq = State.reset.irq ∧ t.timers = State.reset.timers ∧ t.dma = State.reset.dma ∧ t.waitcnt = 0 ∧
    t.postFlag = 0 ∧ t.lastRegion = none ∧ t.sched = State.reset.sched ∧
    (kind = .soft → ∀ a, t.peek a = s.peek a) ∧
    (kind = .powerOn → ∀ a : Word, a.toNat < 0x4000 ∨ 0x08000000 ≤ a.toNat → t.peek a = s.peek a) ∧
    u.par = s.par ∧
    u.core = { index := 0, regs := f.regs, cpsr := f.cpsr, spsrs := f.spsrs, halted := f.halted, seq := f.seq, time := 0 } ∧
    u.other = (s.other.map fun _ => { u.core with index := 1 }) ∧
    u.irq = f.irq ∧ u.timers = f.timers ∧ u.dma = f.dma ∧ u.waitcnt = f.waitcnt ∧ u.postFlag = f.postFlag ∧
    u.lastRegion = none ∧ u.sched = State.reset.sched ∧
    (∀ a : Word, u.peek a =
      if 0x02000000 ≤ a.toNat ∧ a.toNat < 0x04000000 then
        (s.cell a).map fun c => ((f.work.reverse.find? fun x => x.1 == c).map fun x => x.2).getD 0
      else t.peek a) ∧
    (f = defaultFastBoot →
      u.pc = 0x08000000 ∧ u.core.cpsr.toWord = 0x0000001F ∧ u.getMode .usr 13 = 0x03007F00 ∧
      u.getMode .irq 13 = 0x03007FA0 ∧ u.getMode .svc 13 = 0x03007FE0 ∧
      (∀ p, p ≠ .pc → p ≠ .sp .usr → p ≠ .sp .irq → p ≠ .sp .svc → u.core.regs.get p = 0) ∧
      u.core.spsrs = Spsrs.zero ∧ u.core.seq = false ∧ u.core.halted = false ∧
      (∀ a : Word, 0x02000000 ≤ a.toNat → a.toNat < 0x04000000 → u.peek a = some 0) ∧ u.postFlag = 1 ∧
      u.irq = State.reset.irq ∧ u.timers = State.reset.timers ∧ u.dma = State.reset.dma ∧ u.waitcnt = 0)

/-! ## The invariant -/

/-- The invariant of `StepKeepsInv` holds after reset, at the values the model chose among them (logs 1, 2). -/
def Obligations.ResetInv : Prop := State.reset.Inv

/-- R22, R32, R41, R49, R97, R425, R426, R460, R462, R504, R569: from every state that meets the invariant, whatever the
instruction, the devices, the collaborators' answers and the second core do, a step leads to a state that meets it,
under the default cost function and under every other. -/
def Obligations.StepKeepsInv : Prop :=
  (∀ (s t : State), s.Inv → step s = .next t → t.Inv) ∧
  ∀ (cost : CostFunction) (s t : State), s.Inv → stepWith cost s = .next t → t.Inv
end

