-- ==== Sys2Proof/Laws/Memory.lean ====
section
/-! SUPPORT. Backing storage: a read after a write, and the canonical form every operation keeps. -/

namespace Sys2Proof.Machine

/-- A write changes its own cell and no other (R110). -/
theorem Memory.read_write (m : List Host.Cell) (h : m.Pairwise (fun x y => x.1 < y.1)) (a b : Nat) (v : Byte) :
    Memory.read (Memory.write m a v) b = if b = a then v else Memory.read m b := by
  induction m with
  | nil =>
    by_cases hv : v = Memory.unwritten <;> by_cases hb : b = a <;>
      simp [Memory.write, Memory.read, hv, hb, eq_comm]
    all_goals (intro hc; exact absurd hc.symm hb)
  | cons c rest ih =>
    obtain ⟨k, x⟩ := c
    obtain ⟨h1, h2⟩ := List.pairwise_cons.1 h
    have below : ∀ n, n ≤ k → Memory.read rest n = Memory.unwritten := by
      intro n hn
      clear ih h h2
      induction rest with
      | nil => rfl
      | cons d rest ih2 =>
        have hd := h1 d (by simp)
        have hne : d.1 ≠ n := by omega
        simp only [Memory.read, if_neg hne]
        exact ih2 (fun e he => h1 e (by simp [he]))
    simp only [Memory.write]
    split
    · next hlt =>
      split
      · next hv =>
        by_cases hb : b = a
        · subst hb; rw [if_pos rfl, hv]
          simp only [Memory.read, if_neg (by omega : k ≠ b)]
          exact below b (by omega)
        · rw [if_neg hb]
      · next hv =>
        by_cases hb : b = a
        · simp [Memory.read, hb]
        · simp [Memory.read, hb, Ne.symm hb]
    · next hlt =>
      split
      · next hk =>
        subst hk
        split
        · next hv =>
          by_cases hb : b = a
          · subst hb; rw [if_pos rfl, hv]; exact below b (le_refl _)
          · rw [if_neg hb]; simp [Memory.read, Ne.symm hb]
        · next hv =>
          by_cases hb : b = a
          · simp [Memory.read, hb]
          · simp [Memory.read, hb, Ne.symm hb]
      · next hk =>
        simp only [Memory.read]
        by_cases hb : k = b
        · subst hb; simp [Ne.symm hk]
        · simp only [if_neg hb]; exact ih h2

/-- Every cell a write leaves was there before or is the written one. -/
theorem Memory.mem_write {m : List Host.Cell} {a : Nat} {v : Byte} {c : Host.Cell} (h : c ∈ Memory.write m a v) :
    c ∈ m ∨ (c = (a, v) ∧ v ≠ Memory.unwritten) := by
  induction m with
  | nil =>
    simp only [Memory.write] at h
    split at h
    · cases h
    · right; exact ⟨by simpa using h, ‹_›⟩
  | cons d rest ih =>
    obtain ⟨k, x⟩ := d
    simp only [Memory.write] at h
    split at h
    · split at h
      · exact .inl h
      · rcases List.mem_cons.1 h with h | h
        · exact .inr ⟨h, ‹_›⟩
        · exact .inl h
    · split at h
      · split at h
        · exact .inl (List.mem_cons_of_mem _ h)
        · rcases List.mem_cons.1 h with h | h
          · exact .inr ⟨h, ‹_›⟩
          · exact .inl (List.mem_cons_of_mem _ h)
      · rcases List.mem_cons.1 h with h | h
        · exact .inl (by simp [h])
        · rcases ih h with h | h
          · exact .inl (List.mem_cons_of_mem _ h)
          · exact .inr h

/-- A write keeps the canonical form. -/
theorem Memory.write_wf {m : List Host.Cell} (h : Memory.wf m) (a : Nat) (v : Byte) : Memory.wf (Memory.write m a v) := by
  obtain ⟨hp, hv⟩ := h
  refine ⟨?_, ?_⟩
  · clear hv
    induction m with
    | nil => simp only [Memory.write]; split <;> simp
    | cons d rest ih =>
      obtain ⟨k, x⟩ := d
      obtain ⟨h1, h2⟩ := List.pairwise_cons.1 hp
      simp only [Memory.write]
      split
      · next hlt =>
        split
        · exact hp
        · refine List.pairwise_cons.2 ⟨fun y hy => ?_, hp⟩
          rcases List.mem_cons.1 hy with rfl | hy
          · exact hlt
          · exact lt_trans hlt (h1 y hy)
      · next hlt =>
        split
        · next hk =>
          subst hk
          split
          · exact h2
          · exact List.pairwise_cons.2 ⟨h1, h2⟩
        · next hk =>
          refine List.pairwise_cons.2 ⟨fun y hy => ?_, ih h2⟩
          rcases Memory.mem_write hy with hy | ⟨rfl, -⟩
          · exact h1 y hy
          · show k < a; omega
  · intro c hc
    rcases Memory.mem_write hc with hc | ⟨rfl, hne⟩
    · exact hv c hc
    · exact hne

/-- A little-endian store keeps the canonical form. -/
theorem Memory.store_wf {m : List Host.Cell} (h : Memory.wf m) (a : Nat) (w : Width) (v : Word) :
    Memory.wf (Memory.store m a w v) := by
  cases w <;> simp only [Memory.store]
  · exact write_wf h _ _
  · exact write_wf (write_wf h _ _) _ _
  · exact write_wf (write_wf (write_wf (write_wf h _ _) _ _) _ _) _ _

/-- A store puts its byte lanes in the cells from `a` on and changes no other (R76). -/
theorem Memory.read_store {m : List Host.Cell} (h : Memory.wf m) (a b : Nat) (w : Width) (v : Word) :
    Memory.read (Memory.store m a w v) b =
      if a ≤ b ∧ b < a + w.bytes then lane v (b - a) else Memory.read m b := by
  have e1 : Width.byte.bytes = 1 := rfl
  have e2 : Width.half.bytes = 2 := rfl
  have e4 : Width.word.bytes = 4 := rfl
  cases w <;> simp only [Memory.store]
  · rw [read_write _ h.1]
    by_cases hb : b = a
    · subst hb; simp [e1]
    · rw [if_neg hb, if_neg (by omega)]
  · rw [read_write _ (write_wf h _ _).1, read_write _ h.1]
    by_cases h1 : b = a + 1
    · subst h1; simp [e2]
    · by_cases h0 : b = a
      · subst h0; simp [e2]
      · rw [if_neg h1, if_neg h0, if_neg (by omega)]
  · rw [read_write _ (write_wf (write_wf (write_wf h _ _) _ _) _ _).1,
      read_write _ (write_wf (write_wf h _ _) _ _).1, read_write _ (write_wf h _ _).1, read_write _ h.1]
    by_cases h3 : b = a + 3
    · subst h3; simp [e4]
    · by_cases h2 : b = a + 2
      · subst h2; simp [e4]
      · by_cases h1 : b = a + 1
        · subst h1; simp [e4]
        · by_cases h0 : b = a
          · subst h0; simp [e4]
          · rw [if_neg h3, if_neg h2, if_neg h1, if_neg h0, if_neg (by omega)]

/-- Memory with nothing listed is canonical. -/
theorem Memory.nil_wf : Memory.wf [] := by simp [Memory.wf]

/-- Dropping cells keeps the canonical form (power-on, fast boot). -/
theorem Memory.filter_wf {m : List Host.Cell} (h : Memory.wf m) (p : Host.Cell → Bool) : Memory.wf (m.filter p) :=
  ⟨h.1.filter _, fun c hc => h.2 c (List.mem_of_mem_filter hc)⟩

end Sys2Proof.Machine
end

