-- ==== Sys2Proof/Laws/State.lean ====
section
/-! SUPPORT. What each update of the state does to each piece of it: one lemma per field and update. -/

namespace Sys2Proof.Machine

variable (s : State)

/-! ### setRegs -/

@[simp] theorem State.setRegs_par (r : RegFile) : (s.setRegs r).par = s.par := rfl
@[simp] theorem State.setRegs_other (r : RegFile) : (s.setRegs r).other = s.other := rfl
@[simp] theorem State.setRegs_mem (r : RegFile) : (s.setRegs r).mem = s.mem := rfl
@[simp] theorem State.setRegs_lastRegion (r : RegFile) : (s.setRegs r).lastRegion = s.lastRegion := rfl
@[simp] theorem State.setRegs_irq (r : RegFile) : (s.setRegs r).irq = s.irq := rfl
@[simp] theorem State.setRegs_timers (r : RegFile) : (s.setRegs r).timers = s.timers := rfl
@[simp] theorem State.setRegs_dma (r : RegFile) : (s.setRegs r).dma = s.dma := rfl
@[simp] theorem State.setRegs_waitcnt (r : RegFile) : (s.setRegs r).waitcnt = s.waitcnt := rfl
@[simp] theorem State.setRegs_postFlag (r : RegFile) : (s.setRegs r).postFlag = s.postFlag := rfl
@[simp] theorem State.setRegs_sched (r : RegFile) : (s.setRegs r).sched = s.sched := rfl
@[simp] theorem State.setRegs_answers (r : RegFile) : (s.setRegs r).answers = s.answers := rfl
@[simp] theorem State.setRegs_outbox (r : RegFile) : (s.setRegs r).outbox = s.outbox := rfl
@[simp] theorem State.setRegs_draws (r : RegFile) : (s.setRegs r).draws = s.draws := rfl
@[simp] theorem State.setRegs_core_index (r : RegFile) : (s.setRegs r).core.index = s.core.index := rfl
@[simp] theorem State.setRegs_core_regs (r : RegFile) : (s.setRegs r).core.regs = r := rfl
@[simp] theorem State.setRegs_core_cpsr (r : RegFile) : (s.setRegs r).core.cpsr = s.core.cpsr := rfl
@[simp] theorem State.setRegs_core_spsrs (r : RegFile) : (s.setRegs r).core.spsrs = s.core.spsrs := rfl
@[simp] theorem State.setRegs_core_halted (r : RegFile) : (s.setRegs r).core.halted = s.core.halted := rfl
@[simp] theorem State.setRegs_core_seq (r : RegFile) : (s.setRegs r).core.seq = s.core.seq := rfl
@[simp] theorem State.setRegs_core_time (r : RegFile) : (s.setRegs r).core.time = s.core.time := rfl
@[simp] theorem State.setRegs_report (r : RegFile) : (s.setRegs r).report = s.report := rfl

/-! ### setCpsr -/

@[simp] theorem State.setCpsr_par (p : Cpsr) : (s.setCpsr p).par = s.par := rfl
@[simp] theorem State.setCpsr_other (p : Cpsr) : (s.setCpsr p).other = s.other := rfl
@[simp] theorem State.setCpsr_mem (p : Cpsr) : (s.setCpsr p).mem = s.mem := rfl
@[simp] theorem State.setCpsr_lastRegion (p : Cpsr) : (s.setCpsr p).lastRegion = s.lastRegion := rfl
@[simp] theorem State.setCpsr_irq (p : Cpsr) : (s.setCpsr p).irq = s.irq := rfl
@[simp] theorem State.setCpsr_timers (p : Cpsr) : (s.setCpsr p).timers = s.timers := rfl
@[simp] theorem State.setCpsr_dma (p : Cpsr) : (s.setCpsr p).dma = s.dma := rfl
@[simp] theorem State.setCpsr_waitcnt (p : Cpsr) : (s.setCpsr p).waitcnt = s.waitcnt := rfl
@[simp] theorem State.setCpsr_postFlag (p : Cpsr) : (s.setCpsr p).postFlag = s.postFlag := rfl
@[simp] theorem State.setCpsr_sched (p : Cpsr) : (s.setCpsr p).sched = s.sched := rfl
@[simp] theorem State.setCpsr_answers (p : Cpsr) : (s.setCpsr p).answers = s.answers := rfl
@[simp] theorem State.setCpsr_outbox (p : Cpsr) : (s.setCpsr p).outbox = s.outbox := rfl
@[simp] theorem State.setCpsr_draws (p : Cpsr) : (s.setCpsr p).draws = s.draws := rfl
@[simp] theorem State.setCpsr_core_index (p : Cpsr) : (s.setCpsr p).core.index = s.core.index := rfl
@[simp] theorem State.setCpsr_core_regs (p : Cpsr) : (s.setCpsr p).core.regs = s.core.regs := rfl
@[simp] theorem State.setCpsr_core_cpsr (p : Cpsr) : (s.setCpsr p).core.cpsr = p := rfl
@[simp] theorem State.setCpsr_core_spsrs (p : Cpsr) : (s.setCpsr p).core.spsrs = s.core.spsrs := rfl
@[simp] theorem State.setCpsr_core_halted (p : Cpsr) : (s.setCpsr p).core.halted = s.core.halted := rfl
@[simp] theorem State.setCpsr_core_seq (p : Cpsr) : (s.setCpsr p).core.seq = s.core.seq := rfl
@[simp] theorem State.setCpsr_core_time (p : Cpsr) : (s.setCpsr p).core.time = s.core.time := rfl
@[simp] theorem State.setCpsr_report (p : Cpsr) : (s.setCpsr p).report = s.report := rfl

/-! ### setSpsrs -/

@[simp] theorem State.setSpsrs_par (p : Spsrs) : (s.setSpsrs p).par = s.par := rfl
@[simp] theorem State.setSpsrs_other (p : Spsrs) : (s.setSpsrs p).other = s.other := rfl
@[simp] theorem State.setSpsrs_mem (p : Spsrs) : (s.setSpsrs p).mem = s.mem := rfl
@[simp] theorem State.setSpsrs_lastRegion (p : Spsrs) : (s.setSpsrs p).lastRegion = s.lastRegion := rfl
@[simp] theorem State.setSpsrs_irq (p : Spsrs) : (s.setSpsrs p).irq = s.irq := rfl
@[simp] theorem State.setSpsrs_timers (p : Spsrs) : (s.setSpsrs p).timers = s.timers := rfl
@[simp] theorem State.setSpsrs_dma (p : Spsrs) : (s.setSpsrs p).dma = s.dma := rfl
@[simp] theorem State.setSpsrs_waitcnt (p : Spsrs) : (s.setSpsrs p).waitcnt = s.waitcnt := rfl
@[simp] theorem State.setSpsrs_postFlag (p : Spsrs) : (s.setSpsrs p).postFlag = s.postFlag := rfl
@[simp] theorem State.setSpsrs_sched (p : Spsrs) : (s.setSpsrs p).sched = s.sched := rfl
@[simp] theorem State.setSpsrs_answers (p : Spsrs) : (s.setSpsrs p).answers = s.answers := rfl
@[simp] theorem State.setSpsrs_outbox (p : Spsrs) : (s.setSpsrs p).outbox = s.outbox := rfl
@[simp] theorem State.setSpsrs_draws (p : Spsrs) : (s.setSpsrs p).draws = s.draws := rfl
@[simp] theorem State.setSpsrs_core_index (p : Spsrs) : (s.setSpsrs p).core.index = s.core.index := rfl
@[simp] theorem State.setSpsrs_core_regs (p : Spsrs) : (s.setSpsrs p).core.regs = s.core.regs := rfl
@[simp] theorem State.setSpsrs_core_cpsr (p : Spsrs) : (s.setSpsrs p).core.cpsr = s.core.cpsr := rfl
@[simp] theorem State.setSpsrs_core_spsrs (p : Spsrs) : (s.setSpsrs p).core.spsrs = p := rfl
@[simp] theorem State.setSpsrs_core_halted (p : Spsrs) : (s.setSpsrs p).core.halted = s.core.halted := rfl
@[simp] theorem State.setSpsrs_core_seq (p : Spsrs) : (s.setSpsrs p).core.seq = s.core.seq := rfl
@[simp] theorem State.setSpsrs_core_time (p : Spsrs) : (s.setSpsrs p).core.time = s.core.time := rfl
@[simp] theorem State.setSpsrs_report (p : Spsrs) : (s.setSpsrs p).report = s.report := rfl

/-! ### setHalted -/

@[simp] theorem State.setHalted_par (b : Bool) : (s.setHalted b).par = s.par := rfl
@[simp] theorem State.setHalted_other (b : Bool) : (s.setHalted b).other = s.other := rfl
@[simp] theorem State.setHalted_mem (b : Bool) : (s.setHalted b).mem = s.mem := rfl
@[simp] theorem State.setHalted_lastRegion (b : Bool) : (s.setHalted b).lastRegion = s.lastRegion := rfl
@[simp] theorem State.setHalted_irq (b : Bool) : (s.setHalted b).irq = s.irq := rfl
@[simp] theorem State.setHalted_timers (b : Bool) : (s.setHalted b).timers = s.timers := rfl
@[simp] theorem State.setHalted_dma (b : Bool) : (s.setHalted b).dma = s.dma := rfl
@[simp] theorem State.setHalted_waitcnt (b : Bool) : (s.setHalted b).waitcnt = s.waitcnt := rfl
@[simp] theorem State.setHalted_postFlag (b : Bool) : (s.setHalted b).postFlag = s.postFlag := rfl
@[simp] theorem State.setHalted_sched (b : Bool) : (s.setHalted b).sched = s.sched := rfl
@[simp] theorem State.setHalted_answers (b : Bool) : (s.setHalted b).answers = s.answers := rfl
@[simp] theorem State.setHalted_outbox (b : Bool) : (s.setHalted b).outbox = s.outbox := rfl
@[simp] theorem State.setHalted_draws (b : Bool) : (s.setHalted b).draws = s.draws := rfl
@[simp] theorem State.setHalted_core_index (b : Bool) : (s.setHalted b).core.index = s.core.index := rfl
@[simp] theorem State.setHalted_core_regs (b : Bool) : (s.setHalted b).core.regs = s.core.regs := rfl
@[simp] theorem State.setHalted_core_cpsr (b : Bool) : (s.setHalted b).core.cpsr = s.core.cpsr := rfl
@[simp] theorem State.setHalted_core_spsrs (b : Bool) : (s.setHalted b).core.spsrs = s.core.spsrs := rfl
@[simp] theorem State.setHalted_core_halted (b : Bool) : (s.setHalted b).core.halted = b := rfl
@[simp] theorem State.setHalted_core_seq (b : Bool) : (s.setHalted b).core.seq = s.core.seq := rfl
@[simp] theorem State.setHalted_core_time (b : Bool) : (s.setHalted b).core.time = s.core.time := rfl
@[simp] theorem State.setHalted_report (b : Bool) : (s.setHalted b).report = s.report := rfl

/-! ### setSeq -/

@[simp] theorem State.setSeq_par (b : Bool) : (s.setSeq b).par = s.par := rfl
@[simp] theorem State.setSeq_other (b : Bool) : (s.setSeq b).other = s.other := rfl
@[simp] theorem State.setSeq_mem (b : Bool) : (s.setSeq b).mem = s.mem := rfl
@[simp] theorem State.setSeq_lastRegion (b : Bool) : (s.setSeq b).lastRegion = s.lastRegion := rfl
@[simp] theorem State.setSeq_irq (b : Bool) : (s.setSeq b).irq = s.irq := rfl
@[simp] theorem State.setSeq_timers (b : Bool) : (s.setSeq b).timers = s.timers := rfl
@[simp] theorem State.setSeq_dma (b : Bool) : (s.setSeq b).dma = s.dma := rfl
@[simp] theorem State.setSeq_waitcnt (b : Bool) : (s.setSeq b).waitcnt = s.waitcnt := rfl
@[simp] theorem State.setSeq_postFlag (b : Bool) : (s.setSeq b).postFlag = s.postFlag := rfl
@[simp] theorem State.setSeq_sched (b : Bool) : (s.setSeq b).sched = s.sched := rfl
@[simp] theorem State.setSeq_answers (b : Bool) : (s.setSeq b).answers = s.answers := rfl
@[simp] theorem State.setSeq_outbox (b : Bool) : (s.setSeq b).outbox = s.outbox := rfl
@[simp] theorem State.setSeq_draws (b : Bool) : (s.setSeq b).draws = s.draws := rfl
@[simp] theorem State.setSeq_core_index (b : Bool) : (s.setSeq b).core.index = s.core.index := rfl
@[simp] theorem State.setSeq_core_regs (b : Bool) : (s.setSeq b).core.regs = s.core.regs := rfl
@[simp] theorem State.setSeq_core_cpsr (b : Bool) : (s.setSeq b).core.cpsr = s.core.cpsr := rfl
@[simp] theorem State.setSeq_core_spsrs (b : Bool) : (s.setSeq b).core.spsrs = s.core.spsrs := rfl
@[simp] theorem State.setSeq_core_halted (b : Bool) : (s.setSeq b).core.halted = s.core.halted := rfl
@[simp] theorem State.setSeq_core_seq (b : Bool) : (s.setSeq b).core.seq = b := rfl
@[simp] theorem State.setSeq_core_time (b : Bool) : (s.setSeq b).core.time = s.core.time := rfl
@[simp] theorem State.setSeq_report (b : Bool) : (s.setSeq b).report = s.report := rfl

/-! ### setTime -/

@[simp] theorem State.setTime_par (t : Nat) : (s.setTime t).par = s.par := rfl
@[simp] theorem State.setTime_other (t : Nat) : (s.setTime t).other = s.other := rfl
@[simp] theorem State.setTime_mem (t : Nat) : (s.setTime t).mem = s.mem := rfl
@[simp] theorem State.setTime_lastRegion (t : Nat) : (s.setTime t).lastRegion = s.lastRegion := rfl
@[simp] theorem State.setTime_irq (t : Nat) : (s.setTime t).irq = s.irq := rfl
@[simp] theorem State.setTime_timers (t : Nat) : (s.setTime t).timers = s.timers := rfl
@[simp] theorem State.setTime_dma (t : Nat) : (s.setTime t).dma = s.dma := rfl
@[simp] theorem State.setTime_waitcnt (t : Nat) : (s.setTime t).waitcnt = s.waitcnt := rfl
@[simp] theorem State.setTime_postFlag (t : Nat) : (s.setTime t).postFlag = s.postFlag := rfl
@[simp] theorem State.setTime_sched (t : Nat) : (s.setTime t).sched = s.sched := rfl
@[simp] theorem State.setTime_answers (t : Nat) : (s.setTime t).answers = s.answers := rfl
@[simp] theorem State.setTime_outbox (t : Nat) : (s.setTime t).outbox = s.outbox := rfl
@[simp] theorem State.setTime_draws (t : Nat) : (s.setTime t).draws = s.draws := rfl
@[simp] theorem State.setTime_core_index (t : Nat) : (s.setTime t).core.index = s.core.index := rfl
@[simp] theorem State.setTime_core_regs (t : Nat) : (s.setTime t).core.regs = s.core.regs := rfl
@[simp] theorem State.setTime_core_cpsr (t : Nat) : (s.setTime t).core.cpsr = s.core.cpsr := rfl
@[simp] theorem State.setTime_core_spsrs (t : Nat) : (s.setTime t).core.spsrs = s.core.spsrs := rfl
@[simp] theorem State.setTime_core_halted (t : Nat) : (s.setTime t).core.halted = s.core.halted := rfl
@[simp] theorem State.setTime_core_seq (t : Nat) : (s.setTime t).core.seq = s.core.seq := rfl
@[simp] theorem State.setTime_core_time (t : Nat) : (s.setTime t).core.time = t := rfl
@[simp] theorem State.setTime_report (t : Nat) : (s.setTime t).report = s.report := rfl

/-! ### setMem -/

@[simp] theorem State.setMem_par (m : List Host.Cell) : (s.setMem m).par = s.par := rfl
@[simp] theorem State.setMem_other (m : List Host.Cell) : (s.setMem m).other = s.other := rfl
@[simp] theorem State.setMem_mem (m : List Host.Cell) : (s.setMem m).mem = m := rfl
@[simp] theorem State.setMem_lastRegion (m : List Host.Cell) : (s.setMem m).lastRegion = s.lastRegion := rfl
@[simp] theorem State.setMem_irq (m : List Host.Cell) : (s.setMem m).irq = s.irq := rfl
@[simp] theorem State.setMem_timers (m : List Host.Cell) : (s.setMem m).timers = s.timers := rfl
@[simp] theorem State.setMem_dma (m : List Host.Cell) : (s.setMem m).dma = s.dma := rfl
@[simp] theorem State.setMem_waitcnt (m : List Host.Cell) : (s.setMem m).waitcnt = s.waitcnt := rfl
@[simp] theorem State.setMem_postFlag (m : List Host.Cell) : (s.setMem m).postFlag = s.postFlag := rfl
@[simp] theorem State.setMem_sched (m : List Host.Cell) : (s.setMem m).sched = s.sched := rfl
@[simp] theorem State.setMem_answers (m : List Host.Cell) : (s.setMem m).answers = s.answers := rfl
@[simp] theorem State.setMem_outbox (m : List Host.Cell) : (s.setMem m).outbox = s.outbox := rfl
@[simp] theorem State.setMem_draws (m : List Host.Cell) : (s.setMem m).draws = s.draws := rfl
@[simp] theorem State.setMem_core (m : List Host.Cell) : (s.setMem m).core = s.core := rfl
@[simp] theorem State.setMem_report (m : List Host.Cell) : (s.setMem m).report = s.report := rfl

/-! ### setLastRegion -/

@[simp] theorem State.setLastRegion_par (r : Option RegionName) : (s.setLastRegion r).par = s.par := rfl
@[simp] theorem State.setLastRegion_other (r : Option RegionName) : (s.setLastRegion r).other = s.other := rfl
@[simp] theorem State.setLastRegion_mem (r : Option RegionName) : (s.setLastRegion r).mem = s.mem := rfl
@[simp] theorem State.setLastRegion_lastRegion (r : Option RegionName) : (s.setLastRegion r).lastRegion = r := rfl
@[simp] theorem State.setLastRegion_irq (r : Option RegionName) : (s.setLastRegion r).irq = s.irq := rfl
@[simp] theorem State.setLastRegion_timers (r : Option RegionName) : (s.setLastRegion r).timers = s.timers := rfl
@[simp] theorem State.setLastRegion_dma (r : Option RegionName) : (s.setLastRegion r).dma = s.dma := rfl
@[simp] theorem State.setLastRegion_waitcnt (r : Option RegionName) : (s.setLastRegion r).waitcnt = s.waitcnt := rfl
@[simp] theorem State.setLastRegion_postFlag (r : Option RegionName) : (s.setLastRegion r).postFlag = s.postFlag := rfl
@[simp] theorem State.setLastRegion_sched (r : Option RegionName) : (s.setLastRegion r).sched = s.sched := rfl
@[simp] theorem State.setLastRegion_answers (r : Option RegionName) : (s.setLastRegion r).answers = s.answers := rfl
@[simp] theorem State.setLastRegion_outbox (r : Option RegionName) : (s.setLastRegion r).outbox = s.outbox := rfl
@[simp] theorem State.setLastRegion_draws (r : Option RegionName) : (s.setLastRegion r).draws = s.draws := rfl
@[simp] theorem State.setLastRegion_core (r : Option RegionName) : (s.setLastRegion r).core = s.core := rfl
@[simp] theorem State.setLastRegion_report (r : Option RegionName) : (s.setLastRegion r).report = s.report := rfl

/-! ### setIrq -/

@[simp] theorem State.setIrq_par (x : Interrupts) : (s.setIrq x).par = s.par := rfl
@[simp] theorem State.setIrq_other (x : Interrupts) : (s.setIrq x).other = s.other := rfl
@[simp] theorem State.setIrq_mem (x : Interrupts) : (s.setIrq x).mem = s.mem := rfl
@[simp] theorem State.setIrq_lastRegion (x : Interrupts) : (s.setIrq x).lastRegion = s.lastRegion := rfl
@[simp] theorem State.setIrq_irq (x : Interrupts) : (s.setIrq x).irq = x := rfl
@[simp] theorem State.setIrq_timers (x : Interrupts) : (s.setIrq x).timers = s.timers := rfl
@[simp] theorem State.setIrq_dma (x : Interrupts) : (s.setIrq x).dma = s.dma := rfl
@[simp] theorem State.setIrq_waitcnt (x : Interrupts) : (s.setIrq x).waitcnt = s.waitcnt := rfl
@[simp] theorem State.setIrq_postFlag (x : Interrupts) : (s.setIrq x).postFlag = s.postFlag := rfl
@[simp] theorem State.setIrq_sched (x : Interrupts) : (s.setIrq x).sched = s.sched := rfl
@[simp] theorem State.setIrq_answers (x : Interrupts) : (s.setIrq x).answers = s.answers := rfl
@[simp] theorem State.setIrq_outbox (x : Interrupts) : (s.setIrq x).outbox = s.outbox := rfl
@[simp] theorem State.setIrq_draws (x : Interrupts) : (s.setIrq x).draws = s.draws := rfl
@[simp] theorem State.setIrq_core (x : Interrupts) : (s.setIrq x).core = s.core := rfl
@[simp] theorem State.setIrq_report (x : Interrupts) : (s.setIrq x).report = s.report := rfl

/-! ### setTimer -/

@[simp] theorem State.setTimer_par (i : Fin 4) (x : Timer) : (s.setTimer i x).par = s.par := rfl
@[simp] theorem State.setTimer_other (i : Fin 4) (x : Timer) : (s.setTimer i x).other = s.other := rfl
@[simp] theorem State.setTimer_mem (i : Fin 4) (x : Timer) : (s.setTimer i x).mem = s.mem := rfl
@[simp] theorem State.setTimer_lastRegion (i : Fin 4) (x : Timer) : (s.setTimer i x).lastRegion = s.lastRegion := rfl
@[simp] theorem State.setTimer_irq (i : Fin 4) (x : Timer) : (s.setTimer i x).irq = s.irq := rfl
@[simp] theorem State.setTimer_timers (i : Fin 4) (x : Timer) : (s.setTimer i x).timers = s.timers.set i x := rfl
@[simp] theorem State.setTimer_dma (i : Fin 4) (x : Timer) : (s.setTimer i x).dma = s.dma := rfl
@[simp] theorem State.setTimer_waitcnt (i : Fin 4) (x : Timer) : (s.setTimer i x).waitcnt = s.waitcnt := rfl
@[simp] theorem State.setTimer_postFlag (i : Fin 4) (x : Timer) : (s.setTimer i x).postFlag = s.postFlag := rfl
@[simp] theorem State.setTimer_sched (i : Fin 4) (x : Timer) : (s.setTimer i x).sched = s.sched := rfl
@[simp] theorem State.setTimer_answers (i : Fin 4) (x : Timer) : (s.setTimer i x).answers = s.answers := rfl
@[simp] theorem State.setTimer_outbox (i : Fin 4) (x : Timer) : (s.setTimer i x).outbox = s.outbox := rfl
@[simp] theorem State.setTimer_draws (i : Fin 4) (x : Timer) : (s.setTimer i x).draws = s.draws := rfl
@[simp] theorem State.setTimer_core (i : Fin 4) (x : Timer) : (s.setTimer i x).core = s.core := rfl
@[simp] theorem State.setTimer_report (i : Fin 4) (x : Timer) : (s.setTimer i x).report = s.report := rfl

/-! ### setDma -/

@[simp] theorem State.setDma_par (i : Fin 4) (x : DmaChannel) : (s.setDma i x).par = s.par := rfl
@[simp] theorem State.setDma_other (i : Fin 4) (x : DmaChannel) : (s.setDma i x).other = s.other := rfl
@[simp] theorem State.setDma_mem (i : Fin 4) (x : DmaChannel) : (s.setDma i x).mem = s.mem := rfl
@[simp] theorem State.setDma_lastRegion (i : Fin 4) (x : DmaChannel) : (s.setDma i x).lastRegion = s.lastRegion := rfl
@[simp] theorem State.setDma_irq (i : Fin 4) (x : DmaChannel) : (s.setDma i x).irq = s.irq := rfl
@[simp] theorem State.setDma_timers (i : Fin 4) (x : DmaChannel) : (s.setDma i x).timers = s.timers := rfl
@[simp] theorem State.setDma_dma (i : Fin 4) (x : DmaChannel) : (s.setDma i x).dma = s.dma.set i x := rfl
@[simp] theorem State.setDma_waitcnt (i : Fin 4) (x : DmaChannel) : (s.setDma i x).waitcnt = s.waitcnt := rfl
@[simp] theorem State.setDma_postFlag (i : Fin 4) (x : DmaChannel) : (s.setDma i x).postFlag = s.postFlag := rfl
@[simp] theorem State.setDma_sched (i : Fin 4) (x : DmaChannel) : (s.setDma i x).sched = s.sched := rfl
@[simp] theorem State.setDma_answers (i : Fin 4) (x : DmaChannel) : (s.setDma i x).answers = s.answers := rfl
@[simp] theorem State.setDma_outbox (i : Fin 4) (x : DmaChannel) : (s.setDma i x).outbox = s.outbox := rfl
@[simp] theorem State.setDma_draws (i : Fin 4) (x : DmaChannel) : (s.setDma i x).draws = s.draws := rfl
@[simp] theorem State.setDma_core (i : Fin 4) (x : DmaChannel) : (s.setDma i x).core = s.core := rfl
@[simp] theorem State.setDma_report (i : Fin 4) (x : DmaChannel) : (s.setDma i x).report = s.report := rfl

/-! ### setWaitcnt -/

@[simp] theorem State.setWaitcnt_par (v : Half) : (s.setWaitcnt v).par = s.par := rfl
@[simp] theorem State.setWaitcnt_other (v : Half) : (s.setWaitcnt v).other = s.other := rfl
@[simp] theorem State.setWaitcnt_mem (v : Half) : (s.setWaitcnt v).mem = s.mem := rfl
@[simp] theorem State.setWaitcnt_lastRegion (v : Half) : (s.setWaitcnt v).lastRegion = s.lastRegion := rfl
@[simp] theorem State.setWaitcnt_irq (v : Half) : (s.setWaitcnt v).irq = s.irq := rfl
@[simp] theorem State.setWaitcnt_timers (v : Half) : (s.setWaitcnt v).timers = s.timers := rfl
@[simp] theorem State.setWaitcnt_dma (v : Half) : (s.setWaitcnt v).dma = s.dma := rfl
@[simp] theorem State.setWaitcnt_waitcnt (v : Half) : (s.setWaitcnt v).waitcnt = v := rfl
@[simp] theorem State.setWaitcnt_postFlag (v : Half) : (s.setWaitcnt v).postFlag = s.postFlag := rfl
@[simp] theorem State.setWaitcnt_sched (v : Half) : (s.setWaitcnt v).sched = s.sched := rfl
@[simp] theorem State.setWaitcnt_answers (v : Half) : (s.setWaitcnt v).answers = s.answers := rfl
@[simp] theorem State.setWaitcnt_outbox (v : Half) : (s.setWaitcnt v).outbox = s.outbox := rfl
@[simp] theorem State.setWaitcnt_draws (v : Half) : (s.setWaitcnt v).draws = s.draws := rfl
@[simp] theorem State.setWaitcnt_core (v : Half) : (s.setWaitcnt v).core = s.core := rfl
@[simp] theorem State.setWaitcnt_report (v : Half) : (s.setWaitcnt v).report = s.report := rfl

/-! ### setPostFlag -/

@[simp] theorem State.setPostFlag_par (v : Byte) : (s.setPostFlag v).par = s.par := rfl
@[simp] theorem State.setPostFlag_other (v : Byte) : (s.setPostFlag v).other = s.other := rfl
@[simp] theorem State.setPostFlag_mem (v : Byte) : (s.setPostFlag v).mem = s.mem := rfl
@[simp] theorem State.setPostFlag_lastRegion (v : Byte) : (s.setPostFlag v).lastRegion = s.lastRegion := rfl
@[simp] theorem State.setPostFlag_irq (v : Byte) : (s.setPostFlag v).irq = s.irq := rfl
@[simp] theorem State.setPostFlag_timers (v : Byte) : (s.setPostFlag v).timers = s.timers := rfl
@[simp] theorem State.setPostFlag_dma (v : Byte) : (s.setPostFlag v).dma = s.dma := rfl
@[simp] theorem State.setPostFlag_waitcnt (v : Byte) : (s.setPostFlag v).waitcnt = s.waitcnt := rfl
@[simp] theorem State.setPostFlag_postFlag (v : Byte) : (s.setPostFlag v).postFlag = v := rfl
@[simp] theorem State.setPostFlag_sched (v : Byte) : (s.setPostFlag v).sched = s.sched := rfl
@[simp] theorem State.setPostFlag_answers (v : Byte) : (s.setPostFlag v).answers = s.answers := rfl
@[simp] theorem State.setPostFlag_outbox (v : Byte) : (s.setPostFlag v).outbox = s.outbox := rfl
@[simp] theorem State.setPostFlag_draws (v : Byte) : (s.setPostFlag v).draws = s.draws := rfl
@[simp] theorem State.setPostFlag_core (v : Byte) : (s.setPostFlag v).core = s.core := rfl
@[simp] theorem State.setPostFlag_report (v : Byte) : (s.setPostFlag v).report = s.report := rfl

/-! ### setSched -/

@[simp] theorem State.setSched_par (x : Scheduler) : (s.setSched x).par = s.par := rfl
@[simp] theorem State.setSched_other (x : Scheduler) : (s.setSched x).other = s.other := rfl
@[simp] theorem State.setSched_mem (x : Scheduler) : (s.setSched x).mem = s.mem := rfl
@[simp] theorem State.setSched_lastRegion (x : Scheduler) : (s.setSched x).lastRegion = s.lastRegion := rfl
@[simp] theorem State.setSched_irq (x : Scheduler) : (s.setSched x).irq = s.irq := rfl
@[simp] theorem State.setSched_timers (x : Scheduler) : (s.setSched x).timers = s.timers := rfl
@[simp] theorem State.setSched_dma (x : Scheduler) : (s.setSched x).dma = s.dma := rfl
@[simp] theorem State.setSched_waitcnt (x : Scheduler) : (s.setSched x).waitcnt = s.waitcnt := rfl
@[simp] theorem State.setSched_postFlag (x : Scheduler) : (s.setSched x).postFlag = s.postFlag := rfl
@[simp] theorem State.setSched_sched (x : Scheduler) : (s.setSched x).sched = x := rfl
@[simp] theorem State.setSched_answers (x : Scheduler) : (s.setSched x).answers = s.answers := rfl
@[simp] theorem State.setSched_outbox (x : Scheduler) : (s.setSched x).outbox = s.outbox := rfl
@[simp] theorem State.setSched_draws (x : Scheduler) : (s.setSched x).draws = s.draws := rfl
@[simp] theorem State.setSched_core (x : Scheduler) : (s.setSched x).core = s.core := rfl
@[simp] theorem State.setSched_report (x : Scheduler) : (s.setSched x).report = s.report := rfl

/-! ### setAnswers -/

@[simp] theorem State.setAnswers_par (a : List Answer) : (s.setAnswers a).par = s.par := rfl
@[simp] theorem State.setAnswers_other (a : List Answer) : (s.setAnswers a).other = s.other := rfl
@[simp] theorem State.setAnswers_mem (a : List Answer) : (s.setAnswers a).mem = s.mem := rfl
@[simp] theorem State.setAnswers_lastRegion (a : List Answer) : (s.setAnswers a).lastRegion = s.lastRegion := rfl
@[simp] theorem State.setAnswers_irq (a : List Answer) : (s.setAnswers a).irq = s.irq := rfl
@[simp] theorem State.setAnswers_timers (a : List Answer) : (s.setAnswers a).timers = s.timers := rfl
@[simp] theorem State.setAnswers_dma (a : List Answer) : (s.setAnswers a).dma = s.dma := rfl
@[simp] theorem State.setAnswers_waitcnt (a : List Answer) : (s.setAnswers a).waitcnt = s.waitcnt := rfl
@[simp] theorem State.setAnswers_postFlag (a : List Answer) : (s.setAnswers a).postFlag = s.postFlag := rfl
@[simp] theorem State.setAnswers_sched (a : List Answer) : (s.setAnswers a).sched = s.sched := rfl
@[simp] theorem State.setAnswers_answers (a : List Answer) : (s.setAnswers a).answers = a := rfl
@[simp] theorem State.setAnswers_outbox (a : List Answer) : (s.setAnswers a).outbox = s.outbox := rfl
@[simp] theorem State.setAnswers_draws (a : List Answer) : (s.setAnswers a).draws = s.draws := rfl
@[simp] theorem State.setAnswers_core (a : List Answer) : (s.setAnswers a).core = s.core := rfl
@[simp] theorem State.setAnswers_report (a : List Answer) : (s.setAnswers a).report = s.report := rfl

/-! ### note -/

@[simp] theorem State.note_par (n : Note) : (s.note n).par = s.par := rfl
@[simp] theorem State.note_other (n : Note) : (s.note n).other = s.other := rfl
@[simp] theorem State.note_mem (n : Note) : (s.note n).mem = s.mem := rfl
@[simp] theorem State.note_lastRegion (n : Note) : (s.note n).lastRegion = s.lastRegion := rfl
@[simp] theorem State.note_irq (n : Note) : (s.note n).irq = s.irq := rfl
@[simp] theorem State.note_timers (n : Note) : (s.note n).timers = s.timers := rfl
@[simp] theorem State.note_dma (n : Note) : (s.note n).dma = s.dma := rfl
@[simp] theorem State.note_waitcnt (n : Note) : (s.note n).waitcnt = s.waitcnt := rfl
@[simp] theorem State.note_postFlag (n : Note) : (s.note n).postFlag = s.postFlag := rfl
@[simp] theorem State.note_sched (n : Note) : (s.note n).sched = s.sched := rfl
@[simp] theorem State.note_answers (n : Note) : (s.note n).answers = s.answers := rfl
@[simp] theorem State.note_outbox (n : Note) : (s.note n).outbox = s.outbox ++ [n] := rfl
@[simp] theorem State.note_draws (n : Note) : (s.note n).draws = s.draws := rfl
@[simp] theorem State.note_core (n : Note) : (s.note n).core = s.core := rfl
@[simp] theorem State.note_report (n : Note) : (s.note n).report = s.report := rfl

/-! ### addCost -/

@[simp] theorem State.addCost_par (k : Nat) : (s.addCost k).par = s.par := rfl
@[simp] theorem State.addCost_other (k : Nat) : (s.addCost k).other = s.other := rfl
@[simp] theorem State.addCost_mem (k : Nat) : (s.addCost k).mem = s.mem := rfl
@[simp] theorem State.addCost_lastRegion (k : Nat) : (s.addCost k).lastRegion = s.lastRegion := rfl
@[simp] theorem State.addCost_irq (k : Nat) : (s.addCost k).irq = s.irq := rfl
@[simp] theorem State.addCost_timers (k : Nat) : (s.addCost k).timers = s.timers := rfl
@[simp] theorem State.addCost_dma (k : Nat) : (s.addCost k).dma = s.dma := rfl
@[simp] theorem State.addCost_waitcnt (k : Nat) : (s.addCost k).waitcnt = s.waitcnt := rfl
@[simp] theorem State.addCost_postFlag (k : Nat) : (s.addCost k).postFlag = s.postFlag := rfl
@[simp] theorem State.addCost_sched (k : Nat) : (s.addCost k).sched = s.sched := rfl
@[simp] theorem State.addCost_answers (k : Nat) : (s.addCost k).answers = s.answers := rfl
@[simp] theorem State.addCost_outbox (k : Nat) : (s.addCost k).outbox = s.outbox := rfl
@[simp] theorem State.addCost_draws (k : Nat) : (s.addCost k).draws = s.draws := rfl
@[simp] theorem State.addCost_core (k : Nat) : (s.addCost k).core = s.core := rfl
@[simp] theorem State.addCost_report_cost (k : Nat) : (s.addCost k).report.cost = s.report.cost + k := rfl
@[simp] theorem State.addCost_report_raised (k : Nat) : (s.addCost k).report.raised = s.report.raised := rfl
@[simp] theorem State.addCost_report_touched (k : Nat) : (s.addCost k).report.touched = s.report.touched := rfl

/-! ### setRaised -/

@[simp] theorem State.setRaised_par : (s.setRaised).par = s.par := rfl
@[simp] theorem State.setRaised_other : (s.setRaised).other = s.other := rfl
@[simp] theorem State.setRaised_mem : (s.setRaised).mem = s.mem := rfl
@[simp] theorem State.setRaised_lastRegion : (s.setRaised).lastRegion = s.lastRegion := rfl
@[simp] theorem State.setRaised_irq : (s.setRaised).irq = s.irq := rfl
@[simp] theorem State.setRaised_timers : (s.setRaised).timers = s.timers := rfl
@[simp] theorem State.setRaised_dma : (s.setRaised).dma = s.dma := rfl
@[simp] theorem State.setRaised_waitcnt : (s.setRaised).waitcnt = s.waitcnt := rfl
@[simp] theorem State.setRaised_postFlag : (s.setRaised).postFlag = s.postFlag := rfl
@[simp] theorem State.setRaised_sched : (s.setRaised).sched = s.sched := rfl
@[simp] theorem State.setRaised_answers : (s.setRaised).answers = s.answers := rfl
@[simp] theorem State.setRaised_outbox : (s.setRaised).outbox = s.outbox := rfl
@[simp] theorem State.setRaised_draws : (s.setRaised).draws = s.draws := rfl
@[simp] theorem State.setRaised_core : (s.setRaised).core = s.core := rfl
@[simp] theorem State.setRaised_report_cost : (s.setRaised).report.cost = s.report.cost := rfl
@[simp] theorem State.setRaised_report_raised : (s.setRaised).report.raised = true := rfl
@[simp] theorem State.setRaised_report_touched : (s.setRaised).report.touched = s.report.touched := rfl

/-! ### setTouched -/

@[simp] theorem State.setTouched_par : (s.setTouched).par = s.par := rfl
@[simp] theorem State.setTouched_other : (s.setTouched).other = s.other := rfl
@[simp] theorem State.setTouched_mem : (s.setTouched).mem = s.mem := rfl
@[simp] theorem State.setTouched_lastRegion : (s.setTouched).lastRegion = s.lastRegion := rfl
@[simp] theorem State.setTouched_irq : (s.setTouched).irq = s.irq := rfl
@[simp] theorem State.setTouched_timers : (s.setTouched).timers = s.timers := rfl
@[simp] theorem State.setTouched_dma : (s.setTouched).dma = s.dma := rfl
@[simp] theorem State.setTouched_waitcnt : (s.setTouched).waitcnt = s.waitcnt := rfl
@[simp] theorem State.setTouched_postFlag : (s.setTouched).postFlag = s.postFlag := rfl
@[simp] theorem State.setTouched_sched : (s.setTouched).sched = s.sched := rfl
@[simp] theorem State.setTouched_answers : (s.setTouched).answers = s.answers := rfl
@[simp] theorem State.setTouched_outbox : (s.setTouched).outbox = s.outbox := rfl
@[simp] theorem State.setTouched_draws : (s.setTouched).draws = s.draws := rfl
@[simp] theorem State.setTouched_core : (s.setTouched).core = s.core := rfl
@[simp] theorem State.setTouched_report_cost : (s.setTouched).report.cost = s.report.cost := rfl
@[simp] theorem State.setTouched_report_raised : (s.setTouched).report.raised = s.report.raised := rfl
@[simp] theorem State.setTouched_report_touched : (s.setTouched).report.touched = true := rfl

/-! ### setDraws -/

@[simp] theorem State.setDraws_par (n : Nat) : (s.setDraws n).par = s.par := rfl
@[simp] theorem State.setDraws_other (n : Nat) : (s.setDraws n).other = s.other := rfl
@[simp] theorem State.setDraws_mem (n : Nat) : (s.setDraws n).mem = s.mem := rfl
@[simp] theorem State.setDraws_lastRegion (n : Nat) : (s.setDraws n).lastRegion = s.lastRegion := rfl
@[simp] theorem State.setDraws_irq (n : Nat) : (s.setDraws n).irq = s.irq := rfl
@[simp] theorem State.setDraws_timers (n : Nat) : (s.setDraws n).timers = s.timers := rfl
@[simp] theorem State.setDraws_dma (n : Nat) : (s.setDraws n).dma = s.dma := rfl
@[simp] theorem State.setDraws_waitcnt (n : Nat) : (s.setDraws n).waitcnt = s.waitcnt := rfl
@[simp] theorem State.setDraws_postFlag (n : Nat) : (s.setDraws n).postFlag = s.postFlag := rfl
@[simp] theorem State.setDraws_sched (n : Nat) : (s.setDraws n).sched = s.sched := rfl
@[simp] theorem State.setDraws_answers (n : Nat) : (s.setDraws n).answers = s.answers := rfl
@[simp] theorem State.setDraws_outbox (n : Nat) : (s.setDraws n).outbox = s.outbox := rfl
@[simp] theorem State.setDraws_draws (n : Nat) : (s.setDraws n).draws = n := rfl
@[simp] theorem State.setDraws_core (n : Nat) : (s.setDraws n).core = s.core := rfl
@[simp] theorem State.setDraws_report (n : Nat) : (s.setDraws n).report = s.report := rfl

/-! ### setPc -/

@[simp] theorem State.setPc_par (v : Word) : (s.setPc v).par = s.par := rfl
@[simp] theorem State.setPc_other (v : Word) : (s.setPc v).other = s.other := rfl
@[simp] theorem State.setPc_mem (v : Word) : (s.setPc v).mem = s.mem := rfl
@[simp] theorem State.setPc_lastRegion (v : Word) : (s.setPc v).lastRegion = s.lastRegion := rfl
@[simp] theorem State.setPc_irq (v : Word) : (s.setPc v).irq = s.irq := rfl
@[simp] theorem State.setPc_timers (v : Word) : (s.setPc v).timers = s.timers := rfl
@[simp] theorem State.setPc_dma (v : Word) : (s.setPc v).dma = s.dma := rfl
@[simp] theorem State.setPc_waitcnt (v : Word) : (s.setPc v).waitcnt = s.waitcnt := rfl
@[simp] theorem State.setPc_postFlag (v : Word) : (s.setPc v).postFlag = s.postFlag := rfl
@[simp] theorem State.setPc_sched (v : Word) : (s.setPc v).sched = s.sched := rfl
@[simp] theorem State.setPc_answers (v : Word) : (s.setPc v).answers = s.answers := rfl
@[simp] theorem State.setPc_outbox (v : Word) : (s.setPc v).outbox = s.outbox := rfl
@[simp] theorem State.setPc_draws (v : Word) : (s.setPc v).draws = s.draws := rfl
@[simp] theorem State.setPc_report (v : Word) : (s.setPc v).report = s.report := rfl
@[simp] theorem State.setPc_core_index (v : Word) : (s.setPc v).core.index = s.core.index := rfl
@[simp] theorem State.setPc_core_cpsr (v : Word) : (s.setPc v).core.cpsr = s.core.cpsr := rfl
@[simp] theorem State.setPc_core_spsrs (v : Word) : (s.setPc v).core.spsrs = s.core.spsrs := rfl
@[simp] theorem State.setPc_core_halted (v : Word) : (s.setPc v).core.halted = s.core.halted := rfl
@[simp] theorem State.setPc_core_seq (v : Word) : (s.setPc v).core.seq = s.core.seq := rfl
@[simp] theorem State.setPc_core_time (v : Word) : (s.setPc v).core.time = s.core.time := rfl

/-! ### setMode -/

@[simp] theorem State.setMode_par (m : Mode) (i : Reg) (v : Word) : (s.setMode m i v).par = s.par := rfl
@[simp] theorem State.setMode_other (m : Mode) (i : Reg) (v : Word) : (s.setMode m i v).other = s.other := rfl
@[simp] theorem State.setMode_mem (m : Mode) (i : Reg) (v : Word) : (s.setMode m i v).mem = s.mem := rfl
@[simp] theorem State.setMode_lastRegion (m : Mode) (i : Reg) (v : Word) : (s.setMode m i v).lastRegion = s.lastRegion := rfl
@[simp] theorem State.setMode_irq (m : Mode) (i : Reg) (v : Word) : (s.setMode m i v).irq = s.irq := rfl
@[simp] theorem State.setMode_timers (m : Mode) (i : Reg) (v : Word) : (s.setMode m i v).timers = s.timers := rfl
@[simp] theorem State.setMode_dma (m : Mode) (i : Reg) (v : Word) : (s.setMode m i v).dma = s.dma := rfl
@[simp] theorem State.setMode_waitcnt (m : Mode) (i : Reg) (v : Word) : (s.setMode m i v).waitcnt = s.waitcnt := rfl
@[simp] theorem State.setMode_postFlag (m : Mode) (i : Reg) (v : Word) : (s.setMode m i v).postFlag = s.postFlag := rfl
@[simp] theorem State.setMode_sched (m : Mode) (i : Reg) (v : Word) : (s.setMode m i v).sched = s.sched := rfl
@[simp] theorem State.setMode_answers (m : Mode) (i : Reg) (v : Word) : (s.setMode m i v).answers = s.answers := rfl
@[simp] theorem State.setMode_outbox (m : Mode) (i : Reg) (v : Word) : (s.setMode m i v).outbox = s.outbox := rfl
@[simp] theorem State.setMode_draws (m : Mode) (i : Reg) (v : Word) : (s.setMode m i v).draws = s.draws := rfl
@[simp] theorem State.setMode_report (m : Mode) (i : Reg) (v : Word) : (s.setMode m i v).report = s.report := rfl
@[simp] theorem State.setMode_core_index (m : Mode) (i : Reg) (v : Word) : (s.setMode m i v).core.index = s.core.index := rfl
@[simp] theorem State.setMode_core_cpsr (m : Mode) (i : Reg) (v : Word) : (s.setMode m i v).core.cpsr = s.core.cpsr := rfl
@[simp] theorem State.setMode_core_spsrs (m : Mode) (i : Reg) (v : Word) : (s.setMode m i v).core.spsrs = s.core.spsrs := rfl
@[simp] theorem State.setMode_core_halted (m : Mode) (i : Reg) (v : Word) : (s.setMode m i v).core.halted = s.core.halted := rfl
@[simp] theorem State.setMode_core_seq (m : Mode) (i : Reg) (v : Word) : (s.setMode m i v).core.seq = s.core.seq := rfl
@[simp] theorem State.setMode_core_time (m : Mode) (i : Reg) (v : Word) : (s.setMode m i v).core.time = s.core.time := rfl

/-! ### setReg -/

@[simp] theorem State.setReg_par (i : Reg) (v : Word) : (s.setReg i v).par = s.par := rfl
@[simp] theorem State.setReg_other (i : Reg) (v : Word) : (s.setReg i v).other = s.other := rfl
@[simp] theorem State.setReg_mem (i : Reg) (v : Word) : (s.setReg i v).mem = s.mem := rfl
@[simp] theorem State.setReg_lastRegion (i : Reg) (v : Word) : (s.setReg i v).lastRegion = s.lastRegion := rfl
@[simp] theorem State.setReg_irq (i : Reg) (v : Word) : (s.setReg i v).irq = s.irq := rfl
@[simp] theorem State.setReg_timers (i : Reg) (v : Word) : (s.setReg i v).timers = s.timers := rfl
@[simp] theorem State.setReg_dma (i : Reg) (v : Word) : (s.setReg i v).dma = s.dma := rfl
@[simp] theorem State.setReg_waitcnt (i : Reg) (v : Word) : (s.setReg i v).waitcnt = s.waitcnt := rfl
@[simp] theorem State.setReg_postFlag (i : Reg) (v : Word) : (s.setReg i v).postFlag = s.postFlag := rfl
@[simp] theorem State.setReg_sched (i : Reg) (v : Word) : (s.setReg i v).sched = s.sched := rfl
@[simp] theorem State.setReg_answers (i : Reg) (v : Word) : (s.setReg i v).answers = s.answers := rfl
@[simp] theorem State.setReg_outbox (i : Reg) (v : Word) : (s.setReg i v).outbox = s.outbox := rfl
@[simp] theorem State.setReg_draws (i : Reg) (v : Word) : (s.setReg i v).draws = s.draws := rfl
@[simp] theorem State.setReg_report (i : Reg) (v : Word) : (s.setReg i v).report = s.report := rfl
@[simp] theorem State.setReg_core_index (i : Reg) (v : Word) : (s.setReg i v).core.index = s.core.index := rfl
@[simp] theorem State.setReg_core_cpsr (i : Reg) (v : Word) : (s.setReg i v).core.cpsr = s.core.cpsr := rfl
@[simp] theorem State.setReg_core_spsrs (i : Reg) (v : Word) : (s.setReg i v).core.spsrs = s.core.spsrs := rfl
@[simp] theorem State.setReg_core_halted (i : Reg) (v : Word) : (s.setReg i v).core.halted = s.core.halted := rfl
@[simp] theorem State.setReg_core_seq (i : Reg) (v : Word) : (s.setReg i v).core.seq = s.core.seq := rfl
@[simp] theorem State.setReg_core_time (i : Reg) (v : Word) : (s.setReg i v).core.time = s.core.time := rfl

/-! ### advance -/

@[simp] theorem State.advance_par : (s.advance).par = s.par := rfl
@[simp] theorem State.advance_other : (s.advance).other = s.other := rfl
@[simp] theorem State.advance_mem : (s.advance).mem = s.mem := rfl
@[simp] theorem State.advance_lastRegion : (s.advance).lastRegion = s.lastRegion := rfl
@[simp] theorem State.advance_irq : (s.advance).irq = s.irq := rfl
@[simp] theorem State.advance_timers : (s.advance).timers = s.timers := rfl
@[simp] theorem State.advance_dma : (s.advance).dma = s.dma := rfl
@[simp] theorem State.advance_waitcnt : (s.advance).waitcnt = s.waitcnt := rfl
@[simp] theorem State.advance_postFlag : (s.advance).postFlag = s.postFlag := rfl
@[simp] theorem State.advance_sched : (s.advance).sched = s.sched := rfl
@[simp] theorem State.advance_answers : (s.advance).answers = s.answers := rfl
@[simp] theorem State.advance_outbox : (s.advance).outbox = s.outbox := rfl
@[simp] theorem State.advance_draws : (s.advance).draws = s.draws := rfl
@[simp] theorem State.advance_report : (s.advance).report = s.report := rfl
@[simp] theorem State.advance_core_index : (s.advance).core.index = s.core.index := rfl
@[simp] theorem State.advance_core_cpsr : (s.advance).core.cpsr = s.core.cpsr := rfl
@[simp] theorem State.advance_core_spsrs : (s.advance).core.spsrs = s.core.spsrs := rfl
@[simp] theorem State.advance_core_halted : (s.advance).core.halted = s.core.halted := rfl
@[simp] theorem State.advance_core_seq : (s.advance).core.seq = s.core.seq := rfl
@[simp] theorem State.advance_core_time : (s.advance).core.time = s.core.time := rfl

end Sys2Proof.Machine
end

