-- ==== Sys2Proof/Laws/Registers.lean ====
section
/-! SUPPORT. The register file: a read after a write, banking, the named register operations field by field, and the
status registers as words. -/

namespace Sys2Proof.Machine

/-! ## The register file -/

@[simp] theorem Banked.get_set (x : Banked) (b c : Bank) (v : Word) :
    (x.set b v).get c = if c = b then v else x.get c := by
  cases b <;> cases c <;> simp [Banked.set, Banked.get]

/-- A physical register holds the value last written to it (R29). -/
@[simp] theorem RegFile.get_set (r : RegFile) (p q : PhysReg) (v : Word) :
    (r.set p v).get q = if q = p then v else r.get q := by
  cases p <;> cases q <;> simp only [RegFile.set, RegFile.get, PhysReg.low.injEq, PhysReg.mid.injEq,
    PhysReg.midFiq.injEq, PhysReg.sp.injEq, PhysReg.lr.injEq, reduceCtorEq, if_false, Banked.get_set, if_true]
  all_goals
    rename_i i j
    by_cases h : i = j
    · subst h; simp
    · have : j ≠ i := Ne.symm h
      simp [Fin.getElem_fin, Fin.val_inj, h, this]

@[simp] theorem RegFile.set_pc (r : RegFile) (p : PhysReg) (v : Word) :
    (r.set p v).pc = if p = .pc then v else r.pc := by
  have h := RegFile.get_set r p .pc v
  simpa [RegFile.get, eq_comm] using h

/-- In one mode two registers are one only if they have one number (R24). -/
theorem physReg_inj (m : Mode) (i j : Reg) : physReg m i = physReg m j ↔ i = j := by
  revert i j; cases m <;> decide

/-- Only `r15` is the program counter (R24, R30). -/
theorem physReg_eq_pc (m : Mode) (i : Reg) : physReg m i = .pc ↔ i = 15 := by
  revert i; cases m <;> decide

@[simp] theorem physReg_fifteen (m : Mode) : physReg m 15 = .pc := by cases m <;> rfl

theorem physReg_ne_pc {m : Mode} {i : Reg} (h : i ≠ 15) : physReg m i ≠ .pc := fun e => h ((physReg_eq_pc m i).1 e)

/-- The low registers are one copy for every mode (R24). -/
theorem physReg_low (m : Mode) (i : LReg) : physReg m (lowReg i) = .low i := by
  revert i; cases m <;> decide

@[simp] theorem lowReg_ne_fifteen (i : LReg) : lowReg i ≠ 15 := by revert i; decide

/-! ## Registers of the executing core -/

section
variable (s : State)

@[simp] theorem State.setPc_pc (v : Word) : (s.setPc v).pc = v := by simp [State.pc, State.setPc]

theorem State.setMode_pc (m : Mode) (i : Reg) (v : Word) (h : i ≠ 15) : (s.setMode m i v).pc = s.pc := by
  simp [State.pc, State.setMode, physReg_ne_pc h]

theorem State.setReg_pc (i : Reg) (v : Word) (h : i ≠ 15) : (s.setReg i v).pc = s.pc := s.setMode_pc _ i v h

@[simp] theorem State.setReg_low_pc (i : LReg) (v : Word) : (s.setReg (lowReg i) v).pc = s.pc :=
  s.setReg_pc _ v (lowReg_ne_fifteen i)

@[simp] theorem State.setReg_sp_pc (v : Word) : (s.setReg 13 v).pc = s.pc := s.setReg_pc 13 v (by decide)
@[simp] theorem State.setReg_lr_pc (v : Word) : (s.setReg 14 v).pc = s.pc := s.setReg_pc 14 v (by decide)

@[simp] theorem State.getMode_setMode (m : Mode) (i : Reg) (v : Word) (n : Mode) (j : Reg) :
    (s.setMode m i v).getMode n j = if physReg n j = physReg m i then v else s.getMode n j := by
  simp [State.getMode, State.setMode]

/-- A register reads what was last written to it; no other changes (R12, R29). -/
theorem State.reg_setReg (i j : Reg) (v : Word) (h : i ≠ 15) :
    (s.setReg i v).reg j = if j = i then v else s.reg j := by
  by_cases hj : j = 15
  · subst hj
    have := s.setReg_pc i v h
    rw [if_neg (Ne.symm h)]
    show (s.setReg i v).pc + _ = s.pc + _
    rw [this]; rfl
  · simp only [State.reg, if_neg hj, State.setReg_core_cpsr]
    simp only [State.setReg, State.getMode_setMode, physReg_inj]

/-- Reading a register after the step's end: only `r15` sees the new `pc` (R33). -/
theorem State.reg_advance (j : Reg) (h : j ≠ 15) : s.advance.reg j = s.reg j := by
  simp only [State.reg, if_neg h, State.advance_core_cpsr]
  simp [State.getMode, State.advance, State.setPc, physReg_ne_pc h]

/-- The same after a write of `pc`. -/
theorem State.reg_setPc (j : Reg) (v : Word) (h : j ≠ 15) : (s.setPc v).reg j = s.reg j := by
  simp only [State.reg, if_neg h, State.setPc_core_cpsr]
  simp [State.getMode, State.setPc, physReg_ne_pc h]

@[simp] theorem State.advance_pc : s.advance.pc = s.pc + s.step := by simp [State.advance]

/-- A flag-only or memory-only update leaves every register (R21). -/
theorem State.reg_congr {s t : State} (hr : t.core.regs = s.core.regs) (hc : t.core.cpsr.mode = s.core.cpsr.mode)
    (ht : t.core.cpsr.t = s.core.cpsr.t) (j : Reg) : t.reg j = s.reg j := by
  simp only [State.reg, State.pc, State.getMode, hr, hc, ht]

end

/-! ## Status registers as words (R36) -/

@[simp] theorem Mode.ofCode_code (m : Mode) : Mode.ofCode m.code = some m := by cases m <;> rfl

/-- Only the seven codes of R40 are modes. -/
theorem Mode.ofCode_eq_some {b : BitVec 5} {m : Mode} : Mode.ofCode b = some m ↔ m.code = b := by
  revert b; cases m <;> decide

@[simp] theorem Cpsr.restore_save (p : Cpsr) : p.save.restore = some p := by simp [Cpsr.save, Spsr.restore]

/-- Bit by bit, the layout of R36. -/
theorem statusWord_getLsbD (n z c v i f t : Bool) (m : BitVec 5) (k : Nat) (hk : k < 32) :
    (statusWord n z c v i f t m).getLsbD k =
      if k < 5 then m.getLsbD k else if k = 5 then t else if k = 6 then f else if k = 7 then i
      else if k < 28 then false else if k = 28 then v else if k = 29 then c else if k = 30 then z else n := by
  simp only [statusWord, BitVec.getLsbD_append]
  interval_cases k <;> simp

/-- Writing a status word back gives the same saved status register. -/
@[simp] theorem Spsr.ofWord_toWord (p : Spsr) : Spsr.ofWord p.toWord = p := by
  cases p with
  | mk n z c v i f t m =>
    simp only [Spsr.ofWord, Spsr.toWord]
    congr 1 <;> (try (rw [statusWord_getLsbD _ _ _ _ _ _ _ _ _ (by decide)]; rfl))
    apply BitVec.eq_of_getLsbD_eq
    intro k hk
    rw [BitVec.getLsbD_extractLsb', statusWord_getLsbD _ _ _ _ _ _ _ _ _ (by omega)]
    simp [hk]

@[simp] theorem Cpsr.ofWord_toWord (p : Cpsr) : Cpsr.ofWord p.toWord = some p := by
  have h : Spsr.ofWord p.toWord = p.save := Spsr.ofWord_toWord p.save
  simp [Cpsr.ofWord, h]

end Sys2Proof.Machine
end

