-- ==== Sys2Proof/Laws/Bus.lean ====
section
/-! SUPPORT. Everything a Bus access can do to the state beside the value it answers: what it leaves, and that memory
keeps its canonical form. Later proofs cite these instead of unfolding `busRead` and `busWrite`. -/

namespace Sys2Proof.Machine

/-! ## What a callback can change -/

/-- What no collaborator and no register read can change: all of the executing core, the other core, memory, the timers,
the programmed part of the interrupt controller, the scheduler's times; a stored event that is new is not due in the
past (R462). -/
structure Sheltered (s t : State) : Prop where
  par : t.par = s.par
  core : t.core = s.core
  other : t.other = s.other
  mem : t.mem = s.mem
  timers : t.timers = s.timers
  enable : t.irq.enable = s.irq.enable
  master : t.irq.master = s.irq.master
  waitcnt : t.waitcnt = s.waitcnt
  postFlag : t.postFlag = s.postFlag
  now : t.sched.now = s.sched.now
  devNow : t.sched.devNow = s.sched.devNow
  line : t.sched.line = s.sched.line
  dot : t.sched.dot = s.sched.dot
  draws : t.draws = s.draws
  ticks : ∀ x ∈ t.sched.ticks, x ∈ s.sched.ticks ∨ s.sched.devNow ≤ x.due

theorem Sheltered.refl (s : State) : Sheltered s s :=
  ⟨rfl, rfl, rfl, rfl, rfl, rfl, rfl, rfl, rfl, rfl, rfl, rfl, rfl, rfl, fun _ h => .inl h⟩

theorem Sheltered.trans {s t u : State} (h : Sheltered s t) (k : Sheltered t u) : Sheltered s u :=
  ⟨k.par.trans h.par, k.core.trans h.core, k.other.trans h.other, k.mem.trans h.mem, k.timers.trans h.timers,
    k.enable.trans h.enable, k.master.trans h.master, k.waitcnt.trans h.waitcnt, k.postFlag.trans h.postFlag,
    k.now.trans h.now, k.devNow.trans h.devNow, k.line.trans h.line, k.dot.trans h.dot, k.draws.trans h.draws,
    fun x hx => (k.ticks x hx).elim (h.ticks x) fun d => .inr (h.devNow ▸ d)⟩

/-- A fold of operations that shelter the state shelters it. -/
theorem Sheltered.foldl {α : Type} {f : State → α → State} (h : ∀ s a, Sheltered s (f s a)) (l : List α) (s : State) :
    Sheltered s (l.foldl f s) := by
  induction l generalizing s with
  | nil => exact .refl s
  | cons a l ih => exact (h s a).trans (ih (f s a))

theorem State.setDma_sheltered (s : State) (ch : Fin 4) (x : DmaChannel) : Sheltered s (s.setDma ch x) :=
  ⟨rfl, rfl, rfl, rfl, rfl, rfl, rfl, rfl, rfl, rfl, rfl, rfl, rfl, rfl, fun _ h => .inl h⟩

theorem State.request_sheltered (s : State) (k : Nat) : Sheltered s (s.request k) :=
  ⟨rfl, rfl, rfl, rfl, rfl, rfl, rfl, rfl, rfl, rfl, rfl, rfl, rfl, rfl, fun _ h => .inl h⟩

theorem State.latchRequest_sheltered (trig : BitVec 2) (s : State) (ch : Fin 4) :
    Sheltered s (s.latchRequest trig ch) := by
  unfold State.latchRequest; split
  · exact s.setDma_sheltered ch _
  · exact .refl s

theorem State.checkSpecial_sheltered (s : State) (ch : Fin 4) : Sheltered s (s.checkSpecial ch) := by
  unfold State.checkSpecial; split
  · exact .refl s
  · exact State.latchRequest_sheltered 3 s ch

theorem State.collabCall_sheltered (s : State) (c : CollabCall) : Sheltered s (s.collabCall c) := by
  cases c with
  | request k =>
    simp only [State.collabCall]; split
    · exact s.request_sheltered k
    · exact .refl s
  | special ch => exact s.checkSpecial_sheltered ch
  | schedule due id =>
    simp only [State.collabCall]; split
    · next h =>
      refine ⟨rfl, rfl, rfl, rfl, rfl, rfl, rfl, rfl, rfl, rfl, rfl, rfl, rfl, rfl, fun x hx => ?_⟩
      rcases List.mem_append.1 hx with hx | hx
      · exact .inl hx
      · exact .inr (List.mem_singleton.1 hx ▸ h)
    · exact .refl s

theorem State.takeAnswer_sheltered (s : State) : Sheltered s s.takeAnswer.2 := by
  unfold State.takeAnswer; split
  · exact .refl s
  · exact ⟨rfl, rfl, rfl, rfl, rfl, rfl, rfl, rfl, rfl, rfl, rfl, rfl, rfl, rfl, fun _ h => .inl h⟩

theorem State.note_sheltered (s : State) (n : Note) : Sheltered s (s.note n) :=
  ⟨rfl, rfl, rfl, rfl, rfl, rfl, rfl, rfl, rfl, rfl, rfl, rfl, rfl, rfl, fun _ h => .inl h⟩

/-- A callback shelters the state (R531). -/
theorem State.callback_sheltered (s : State) (n : Note) : Sheltered s (s.callback n).2 := by
  have h := (s.note_sheltered n).trans (s.note n).takeAnswer_sheltered
  unfold State.callback
  split
  · next t e => rw [e] at h; exact h
  · next a t e => rw [e] at h; exact h.trans (Sheltered.foldl State.collabCall_sheltered _ _)

/-- With no answer left to come, a callback only sends its note, and hands no value back (R531). -/
theorem State.callback_of_no_answers (s : State) (n : Note) (h : s.answers = []) : s.callback n = (none, s.note n) := by
  simp [State.callback, State.takeAnswer, h]

/-! ## Charging -/

/-- Charging adds to the cost and remembers the region, and does nothing else (R95, R96). -/
theorem State.charge_eq (s : State) (a : Word) (w : Width) (k : AccessKind) :
    ∃ c r, s.charge a w k = (s.addCost c).setLastRegion r := by
  unfold State.charge; split <;> exact ⟨_, _, rfl⟩

section
variable (s : State) (a : Word) (w : Width) (k : AccessKind)

theorem State.charge_sheltered : Sheltered s (s.charge a w k) := by
  obtain ⟨c, r, h⟩ := s.charge_eq a w k
  rw [h]
  exact ⟨rfl, rfl, rfl, rfl, rfl, rfl, rfl, rfl, rfl, rfl, rfl, rfl, rfl, rfl, fun _ h => .inl h⟩

@[simp] theorem State.charge_par : (s.charge a w k).par = s.par := (s.charge_sheltered a w k).par
@[simp] theorem State.charge_core : (s.charge a w k).core = s.core := (s.charge_sheltered a w k).core
@[simp] theorem State.charge_other : (s.charge a w k).other = s.other := (s.charge_sheltered a w k).other
@[simp] theorem State.charge_mem : (s.charge a w k).mem = s.mem := (s.charge_sheltered a w k).mem
@[simp] theorem State.charge_timers : (s.charge a w k).timers = s.timers := (s.charge_sheltered a w k).timers
@[simp] theorem State.charge_waitcnt : (s.charge a w k).waitcnt = s.waitcnt := (s.charge_sheltered a w k).waitcnt
@[simp] theorem State.charge_postFlag : (s.charge a w k).postFlag = s.postFlag := (s.charge_sheltered a w k).postFlag
@[simp] theorem State.charge_draws : (s.charge a w k).draws = s.draws := (s.charge_sheltered a w k).draws

@[simp] theorem State.charge_irq : (s.charge a w k).irq = s.irq := by
  obtain ⟨c, r, h⟩ := s.charge_eq a w k; rw [h]; rfl

@[simp] theorem State.charge_dma : (s.charge a w k).dma = s.dma := by
  obtain ⟨c, r, h⟩ := s.charge_eq a w k; rw [h]; rfl

@[simp] theorem State.charge_sched : (s.charge a w k).sched = s.sched := by
  obtain ⟨c, r, h⟩ := s.charge_eq a w k; rw [h]; rfl

@[simp] theorem State.charge_answers : (s.charge a w k).answers = s.answers := by
  obtain ⟨c, r, h⟩ := s.charge_eq a w k; rw [h]; rfl

@[simp] theorem State.charge_outbox : (s.charge a w k).outbox = s.outbox := by
  obtain ⟨c, r, h⟩ := s.charge_eq a w k; rw [h]; rfl

@[simp] theorem State.charge_raised : (s.charge a w k).report.raised = s.report.raised := by
  obtain ⟨c, r, h⟩ := s.charge_eq a w k; rw [h]; rfl

@[simp] theorem State.charge_touched : (s.charge a w k).report.touched = s.report.touched := by
  obtain ⟨c, r, h⟩ := s.charge_eq a w k; rw [h]; rfl

/-! ## Reads -/

theorem ioRead_sheltered (r : Region) (off : Nat) : Sheltered s (ioRead r off w s).2 := by
  unfold ioRead; split
  · exact s.callback_sheltered _
  · exact .refl s

theorem backupRead_sheltered (r : Region) (off : Nat) : Sheltered s (backupRead r off w s).2 := by
  exact s.callback_sheltered _

theorem State.readRegion_sheltered (r : Region) : Sheltered s (s.readRegion r a w).2 := by
  have touched : Sheltered s s.setTouched := ⟨rfl, rfl, rfl, rfl, rfl, rfl, rfl, rfl, rfl, rfl, rfl, rfl, rfl, rfl, fun _ h => .inl h⟩
  unfold State.readRegion
  dsimp only
  split
  · split
    · exact .refl s
    · exact touched.trans (State.callback_sheltered _ _)
    · exact touched.trans (ioRead_sheltered _ _ r _)
    · exact touched.trans (backupRead_sheltered _ _ r _)
  · exact .refl s

/-- A read changes no core, no byte of memory, no programmed register (R87). -/
theorem State.busRead_sheltered : Sheltered s (s.busRead a w k).2 := by
  unfold State.busRead
  dsimp only
  split
  · exact s.charge_sheltered a w k
  · exact (s.charge_sheltered a w k).trans (State.readRegion_sheltered _ _ _ _)

@[simp] theorem State.busRead_core : (s.busRead a w k).2.core = s.core := (s.busRead_sheltered a w k).core
@[simp] theorem State.busRead_mem : (s.busRead a w k).2.mem = s.mem := (s.busRead_sheltered a w k).mem
@[simp] theorem State.busRead_par : (s.busRead a w k).2.par = s.par := (s.busRead_sheltered a w k).par
@[simp] theorem State.busRead_other : (s.busRead a w k).2.other = s.other := (s.busRead_sheltered a w k).other

/-- Where no region lies a read is charged and answers open bus (R86). -/
theorem State.busRead_unmapped (h : lookup s.par.regions a = none) :
    s.busRead a w k = (w.trim s.par.openBus, s.charge a w k) := by
  simp [State.busRead, h]

/-- A read of a storage region is charged and answers its bytes (R87). -/
theorem State.busRead_storage (r : Region) (h : lookup s.par.regions a = some r) (hs : r.handler = .storage)
    (hw : r.readable (r.offset a) w = true) :
    s.busRead a w k = (Memory.load s.mem (r.store + r.offset a) w, s.charge a w k) := by
  simp [State.busRead, State.readRegion, h, hs, hw]

/-- A read of the renderer's storage answers its bytes, and the renderer is called back (R84). -/
theorem State.busRead_renderer (r : Region) (h : lookup s.par.regions a = some r) (hs : r.handler = .renderer)
    (hw : r.readable (r.offset a) w = true) :
    s.busRead a w k =
      (Memory.load s.mem (r.store + r.offset a) w,
        ((s.charge a w k).setTouched.callback (.videoRead (r.store + r.offset a) w)).2) := by
  simp [State.busRead, State.readRegion, h, hs, hw]

/-! ## Writes -/

/-- What a write can change at most (R88, R91): memory, the devices' registers, and the storing core's halt flag. -/
structure WriteFrame (s t : State) : Prop where
  par : t.par = s.par
  core : ∃ b, t.core = { s.core with halted := b }
  other : t.other = s.other
  now : t.sched.now = s.sched.now
  devNow : t.sched.devNow = s.sched.devNow
  line : t.sched.line = s.sched.line
  dot : t.sched.dot = s.sched.dot
  draws : t.draws = s.draws
  wf : Memory.wf s.mem → Memory.wf t.mem
  ticks : ∀ x ∈ t.sched.ticks, x ∈ s.sched.ticks ∨ s.sched.devNow ≤ x.due

theorem WriteFrame.of_sheltered {s t : State} (h : Sheltered s t) : WriteFrame s t :=
  ⟨h.par, ⟨s.core.halted, by rw [h.core]⟩, h.other, h.now, h.devNow, h.line, h.dot, h.draws, fun m => h.mem ▸ m,
    h.ticks⟩

theorem WriteFrame.refl (s : State) : WriteFrame s s := .of_sheltered (.refl s)

theorem WriteFrame.trans {s t u : State} (h : WriteFrame s t) (k : WriteFrame t u) : WriteFrame s u := by
  obtain ⟨b, hb⟩ := h.core
  obtain ⟨c, hc⟩ := k.core
  exact ⟨k.par.trans h.par, ⟨c, by rw [hc, hb]⟩, k.other.trans h.other, k.now.trans h.now, k.devNow.trans h.devNow,
    k.line.trans h.line, k.dot.trans h.dot, k.draws.trans h.draws, fun m => k.wf (h.wf m),
    fun x hx => (k.ticks x hx).elim (h.ticks x) fun d => .inr (h.devNow ▸ d)⟩

theorem IoHalf.write_frame (r : IoHalf) (req : Requester) (v : Half) (low high : Bool) :
    WriteFrame s (r.write req v low high s) := by
  cases r <;> simp only [IoHalf.write] <;> (try split) <;> (try split) <;>
    first
      | exact ⟨rfl, ⟨s.core.halted, rfl⟩, rfl, rfl, rfl, rfl, rfl, rfl, id, fun _ h => .inl h⟩
      | exact ⟨rfl, ⟨true, rfl⟩, rfl, rfl, rfl, rfl, rfl, rfl, id, fun _ h => .inl h⟩

theorem ioWriteHalf_frame (req : Requester) (off : Nat) (v : Half) (low high : Bool) :
    WriteFrame s (ioWriteHalf req off v low high s) := by
  unfold ioWriteHalf; split
  · exact .refl s
  · exact IoHalf.write_frame s _ req v low high

theorem ioWrite_frame (req : Requester) (off : Nat) (v : Word) : WriteFrame s (ioWrite req off w v s) := by
  unfold ioWrite; split
  · exact .of_sheltered (s.callback_sheltered _)
  · split
    · split <;> exact ioWriteHalf_frame ..
    · exact ioWriteHalf_frame ..
    · exact (ioWriteHalf_frame ..).trans (ioWriteHalf_frame ..)

theorem backupWrite_frame (r : Region) (off : Nat) (v : Word) : WriteFrame s (backupWrite r off v s) :=
  WriteFrame.trans (t := s.setMem (Memory.write s.mem (r.store + off) (lane v 0)))
    ⟨rfl, ⟨s.core.halted, rfl⟩, rfl, rfl, rfl, rfl, rfl, rfl, fun h => Memory.write_wf h _ _,
      fun _ h => .inl h⟩
    (.of_sheltered (State.callback_sheltered _ _))

theorem State.put_frame (t : Option (Nat × Width × Word)) : WriteFrame s (s.put t) := by
  cases t with
  | none => exact .refl s
  | some x => exact ⟨rfl, ⟨s.core.halted, rfl⟩, rfl, rfl, rfl, rfl, rfl, rfl, fun h => Memory.store_wf h _ _ _,
      fun _ h => .inl h⟩

theorem videoWrite_sheltered (t : Option (Nat × Width × Word)) : Sheltered s (videoWrite t s) := by
  cases t with
  | none => exact .refl s
  | some x => exact s.callback_sheltered _

theorem State.writeRegion_frame (req : Requester) (r : Region) (v : Word) :
    WriteFrame s (s.writeRegion req r a w v) := by
  have touched : WriteFrame s s.setTouched := ⟨rfl, ⟨s.core.halted, rfl⟩, rfl, rfl, rfl, rfl, rfl, rfl, id, fun _ h => .inl h⟩
  unfold State.writeRegion
  dsimp only
  split
  · split
    · exact s.put_frame _
    · exact (touched.trans (State.put_frame _ _)).trans (.of_sheltered (videoWrite_sheltered _ _))
    · split
      · exact touched.trans (ioWrite_frame _ _ req _ _)
      · exact touched
    · split
      · exact touched.trans (backupWrite_frame _ r _ _)
      · exact touched
  · exact .refl s

/-- Everything a write leaves, and that memory keeps its canonical form (R88). -/
theorem State.busWrite_frame (req : Requester) (v : Word) : WriteFrame s (s.busWrite req a w v k) := by
  have charged := WriteFrame.of_sheltered (s.charge_sheltered a w k)
  unfold State.busWrite
  dsimp only
  split
  · exact charged
  · exact charged.trans (State.writeRegion_frame _ _ _ req _ v)

/-- Where no region lies a write is charged and does nothing (R86). -/
theorem State.busWrite_unmapped (req : Requester) (v : Word) (h : lookup s.par.regions a = none) :
    s.busWrite req a w v k = s.charge a w k := by
  simp [State.busWrite, h]

/-- A write that is turned away before the width rule changes nothing, so it has no target (R88). -/
theorem Region.target_of_not_writable (r : Region) (v : Word) (h : r.writable (r.offset a) w = false) :
    r.target a w v = none := by
  simp [Region.target, h]

/-- A write of a storage region is charged and stores the cells its width rule covers (R85, R88). -/
theorem State.busWrite_storage (req : Requester) (v : Word) (r : Region) (h : lookup s.par.regions a = some r)
    (hs : r.handler = .storage) : s.busWrite req a w v k = (s.charge a w k).put (r.target a w v) := by
  simp only [State.busWrite, State.charge_par, h, State.writeRegion, hs]
  split
  · rfl
  · next hw => rw [Region.target_of_not_writable a w r v (by simpa using hw)]; rfl

/-- What a write of storage, the Bus's own or the renderer's, leaves in memory (R84, R85, R88). -/
theorem State.busWrite_mem_eq_put (req : Requester) (v : Word) (r : Region) (h : lookup s.par.regions a = some r)
    (hs : r.handler = .storage ∨ r.handler = .renderer) :
    (s.busWrite req a w v k).mem = (s.put (r.target a w v)).mem := by
  rcases hs with hs | hs
  · rw [State.busWrite_storage s a w k req v r h hs]
    cases r.target a w v <;> simp [State.put]
  · simp only [State.busWrite, State.charge_par, h, State.writeRegion, hs]
    split
    · rw [(videoWrite_sheltered _ _).mem]
      cases r.target a w v <;> simp [State.put]
    · next hw => rw [Region.target_of_not_writable a w r v (by simpa using hw)]; simp [State.put]

end

end Sys2Proof.Machine
end

