-- ==== Sys2Proof/Laws/Encoding.lean ====
section
/-! SUPPORT. Bit fields: what `bits` reads of what `cat` put together, and the codes that read back. -/

namespace Sys2Proof

/-- A field above the lowest piece is a field of the rest. -/
theorem bits_cat_high (x : Nat) {n : Nat} (y : BitVec n) (lo len : Nat) (h : n ≤ lo) :
    bits (cat x y) lo len = bits x (lo - n) len := by
  obtain ⟨k, rfl⟩ := Nat.exists_eq_add_of_le h
  unfold bits cat
  congr 1
  rw [Nat.shiftRight_add, Nat.add_sub_cancel_left]
  congr 1
  rw [Nat.shiftRight_eq_div_pow, Nat.mul_comm, Nat.mul_add_div (Nat.two_pow_pos n), Nat.div_eq_of_lt y.isLt]
  rfl

/-- A field inside the lowest piece is a field of that piece. -/
theorem bits_cat_low (x : Nat) {n : Nat} (y : BitVec n) (lo len : Nat) (h : lo + len ≤ n) :
    bits (cat x y) lo len = bits y.toNat lo len := by
  obtain ⟨k, rfl⟩ := Nat.exists_eq_add_of_le h
  apply BitVec.eq_of_toNat_eq
  unfold bits cat
  simp only [BitVec.toNat_ofNat, Nat.shiftRight_eq_div_pow]
  rw [show x * 2 ^ (lo + len + k) + y.toNat = y.toNat + 2 ^ lo * (2 ^ len * (2 ^ k * x)) by ring]
  rw [Nat.add_mul_div_left _ _ (Nat.two_pow_pos lo)]
  simp

/-- A whole piece. -/
@[simp] theorem bits_toNat {m : Nat} (x : BitVec m) : bits x.toNat 0 m = x := by simp [bits]

/-- A field that lies inside a full-variant word does not see what the word dropped. -/
theorem bits_mod_word (x lo len : Nat) (h : lo + len ≤ 32) : bits (x % 4294967296) lo len = bits x lo len := by
  obtain ⟨k, hk⟩ := Nat.exists_eq_add_of_le h
  apply BitVec.eq_of_toNat_eq
  simp only [bits, BitVec.toNat_ofNat, Nat.shiftRight_eq_div_pow]
  rw [show 4294967296 = 2 ^ lo * 2 ^ (len + k) by rw [← Nat.pow_add, ← Nat.add_assoc, ← hk],
    Nat.mod_mul_right_div_self, Nat.mod_mod_of_dvd _ (pow_dvd_pow 2 (Nat.le_add_right len k))]

/-- The same of a compact word. -/
theorem bits_mod_half (x lo len : Nat) (h : lo + len ≤ 16) : bits (x % 65536) lo len = bits x lo len := by
  obtain ⟨k, hk⟩ := Nat.exists_eq_add_of_le h
  apply BitVec.eq_of_toNat_eq
  simp only [bits, BitVec.toNat_ofNat, Nat.shiftRight_eq_div_pow]
  rw [show 65536 = 2 ^ lo * 2 ^ (len + k) by rw [← Nat.pow_add, ← Nat.add_assoc, ← hk],
    Nat.mod_mul_right_div_self, Nat.mod_mod_of_dvd _ (pow_dvd_pow 2 (Nat.le_add_right len k))]

@[simp] theorem regOf_regBits (r : Reg) : regOf (regBits r) = r := rfl
@[simp] theorem lregOf_lregBits (r : LReg) : lregOf (lregBits r) = r := rfl
@[simp] theorem regJoin_high_low (r : Reg) : regJoin (regHigh r) (regLow r) = r := by revert r; decide
@[simp] theorem Cond.ofBits_toBits (c : Cond) : Cond.ofBits c.toBits = c := by cases c <;> rfl
@[simp] theorem ShiftKind.ofBits_toBits (k : ShiftKind) : ShiftKind.ofBits k.toBits = k := by cases k <;> rfl
@[simp] theorem ofBool_beq_one (b : Bool) : (BitVec.ofNat 1 b.toNat == 1#1) = b := by cases b <;> rfl
@[simp] theorem Cond.toBits_ofBits (b : BitVec 4) : (Cond.ofBits b).toBits = b := by revert b; decide
@[simp] theorem ShiftKind.toBits_ofBits (b : BitVec 2) : (ShiftKind.ofBits b).toBits = b := by revert b; decide

end Sys2Proof
end

