-- ==== Sys2Proof/Laws/Operations.lean ====
section
/-! SUPPORT. The shared operations of instructions: the condition gate, control transfer, taking an exception and
returning from one, the flag computations. -/

namespace Sys2Proof.Machine

/-! ## The condition gate (R133) -/

theorem State.when_true {s : State} {c : Cond} (h : condHolds c s.core.cpsr = true) (effect : State → Outcome) :
    s.when c effect = effect s := by simp [State.when, h]

theorem State.when_false {s : State} {c : Cond} (h : condHolds c s.core.cpsr = false) (effect : State → Outcome) :
    s.when c effect = .next s.advance := by simp [State.when, h]

/-- A gated instruction that goes on either had a false condition or ran its effect. -/
theorem State.when_next {s t : State} {c : Cond} {effect : State → Outcome} (h : s.when c effect = .next t) :
    (condHolds c s.core.cpsr = false ∧ t = s.advance) ∨ (condHolds c s.core.cpsr = true ∧ effect s = .next t) := by
  unfold State.when at h
  split at h
  · exact .inr ⟨‹_›, h⟩
  · rename_i hc
    cases h; exact .inl ⟨by simpa using hc, rfl⟩

/-- `Ready` is decidable. -/
theorem ready_iff (i : Instr) (s : State) :
    Ready i s ↔ (s.core.cpsr.t == i.isCompact && i.cond.all fun c => condHolds c s.core.cpsr) = true := by
  simp [Ready, Option.all_eq_true]

/-! ## Control transfer (R32, R566) -/

section
variable (s : State) (v : Word)

theorem State.refill_eq : ∃ c r, s.refill = ((s.addCost c).setLastRegion r).setSeq true := by
  obtain ⟨c1, r1, h1⟩ := s.charge_eq s.pc s.width .n
  obtain ⟨c2, r2, h2⟩ := (s.charge s.pc s.width .n).charge_eq (s.pc + s.step) s.width .s
  refine ⟨c1 + c2, r2, ?_⟩
  rw [State.refill, h2, h1]
  simp [State.addCost, State.setLastRegion, State.setSeq, Nat.add_assoc]

/-- A refill only costs, remembers a region, and makes the next fetch sequential. -/
theorem State.refill_core : s.refill.core = { s.core with seq := true } := by
  obtain ⟨c, r, h⟩ := s.refill_eq; rw [h]; rfl

@[simp] theorem State.refill_pc : s.refill.pc = s.pc := by simp [State.pc, State.refill_core]
@[simp] theorem State.refill_mem : s.refill.mem = s.mem := by obtain ⟨c, r, h⟩ := s.refill_eq; rw [h]; rfl
@[simp] theorem State.refill_par : s.refill.par = s.par := by obtain ⟨c, r, h⟩ := s.refill_eq; rw [h]; rfl

theorem State.refill_devices : SameDevices s s.refill := by
  obtain ⟨c, r, h⟩ := s.refill_eq; rw [h]; exact ⟨rfl, rfl, rfl, rfl, rfl, rfl, rfl, rfl, rfl, rfl⟩

/-- `pc` after a control transfer: aligned by the variant (R32). -/
@[simp] theorem State.writePc_pc : (s.writePc v).pc = s.alignPc v := by simp [State.writePc]

/-- A control transfer changes of the core `pc` and `seq` alone. -/
theorem State.writePc_core :
    (s.writePc v).core = { s.core with regs := s.core.regs.set .pc (s.alignPc v), seq := true } := by
  simp [State.writePc, State.refill_core, State.setPc, State.setRegs]

@[simp] theorem State.writePc_mem : (s.writePc v).mem = s.mem := by simp [State.writePc]

theorem State.writePc_devices : SameDevices s (s.writePc v) := by
  have h := (s.setPc (s.alignPc v)).refill_devices
  simpa [SameDevices, State.writePc] using h

end

/-! ## Exceptions (R410, R416) -/

@[simp] theorem Spsrs.get_set_exception (x : Spsrs) (k : ExceptionKind) (p : Spsr) : (x.set k.mode p).get k.mode = some p := by
  cases k <;> rfl

/-- The core after an exception entry (R410), in full. -/
theorem State.enterException_core (s : State) (k : ExceptionKind) (ret : Word) :
    (s.enterException k ret).core =
      { s.core with
        regs := (s.core.regs.set (physReg k.mode 14) ret).set .pc k.vector
        cpsr := { s.core.cpsr with mode := k.mode, t := false, i := true, f := s.core.cpsr.f || k.setsF }
        spsrs := s.core.spsrs.set k.mode s.core.cpsr.save
        seq := true } := by
  simp [State.enterException, State.refill_core, State.setRaised, State.setPc, State.setReg, State.setMode, State.setRegs,
    State.setSpsrs, State.setCpsr]

/-- An exception entry touches no byte of memory (R410). -/
@[simp] theorem State.enterException_mem (s : State) (k : ExceptionKind) (ret : Word) :
    (s.enterException k ret).mem = s.mem := by simp [State.enterException]

theorem State.enterException_devices (s : State) (k : ExceptionKind) (ret : Word) :
    SameDevices s (s.enterException k ret) := by
  have h := State.refill_devices ((((s.setCpsr { s.core.cpsr with
    mode := k.mode, t := false, i := true, f := s.core.cpsr.f || k.setsF }).setSpsrs
    (s.core.spsrs.set k.mode s.core.cpsr.save)).setReg 14 ret).setPc k.vector)
  simpa [SameDevices, State.enterException] using h

/-- A return from an exception goes on in exactly one case, with the restored status (R416). -/
theorem State.exceptionReturn_next {s t : State} {v : Word} (h : s.exceptionReturn v = .next t) :
    ∃ p q, s.spsr = some p ∧ p.restore = some q ∧ t = (s.setCpsr q).writePc v := by
  unfold State.exceptionReturn at h
  split at h
  · cases h
  · split at h
    · cases h
    · cases h; exact ⟨_, _, ‹_›, ‹_›, rfl⟩

/-! ## Privilege (R444) -/

theorem State.privileged_of_mode {s : State} (h : s.core.cpsr.mode ≠ .usr) (ignored effect : State → Outcome) :
    s.privileged ignored effect = effect s := by simp [State.privileged, h]

theorem State.privileged_of_trap {s : State} (h : s.core.cpsr.mode = .usr) (hp : s.par.privPolicy = .trap)
    (ignored effect : State → Outcome) : s.privileged ignored effect = .next s.takeUndefined := by
  simp [State.privileged, h, hp]

theorem State.privileged_of_ignore {s : State} (h : s.core.cpsr.mode = .usr) (hp : s.par.privPolicy = .ignore)
    (ignored effect : State → Outcome) : s.privileged ignored effect = ignored s := by
  simp [State.privileged, h, hp]

/-! ## Sums (R12, R172) -/

/-- The sum is the sum. -/
theorem addWithCarry_value (a b : Word) (c : Bool) :
    (addWithCarry a b c).value = a + b + BitVec.ofNat 32 c.toNat := by
  apply BitVec.eq_of_toNat_eq
  simp [addWithCarry, BitVec.toNat_add, BitVec.toNat_ofNat, Nat.add_mod]

/-- A subtraction is a sum with the complement and a carry. -/
theorem addWithCarry_not (a b : Word) : (addWithCarry a (~~~b) true).value = a - b := by
  rw [addWithCarry_value]
  simp [BitVec.sub_eq_add_neg, BitVec.neg_eq_not_add, BitVec.add_assoc]

/-- The carry of a subtraction is "no borrow" (R172). -/
theorem addWithCarry_not_carry (a b : Word) : (addWithCarry a (~~~b) true).c = decide (b.toNat ≤ a.toNat) := by
  simp only [addWithCarry, BitVec.toNat_not, Bool.toNat_true, decide_eq_decide]
  have := a.isLt; have := b.isLt
  omega

end Sys2Proof.Machine
end

