-- ==== Sys2Proof/Laws/PerInstr.lean ====
section
/-! SUPPORT. One fact of every instruction as syntax: how long its encoding is, and that an instruction of the full
variant and no other has a condition. -/

namespace Sys2Proof.Laws.Format

/-- A full-variant instruction has four bytes and a condition (R130, R133), a compact one two bytes and none. -/
def Statement (i : Instr) : Prop :=
  (encode i).length = (if i.isCompact then 2 else 4) ∧ i.cond.isSome = !i.isCompact

theorem bx (c : Cond) (rm : Reg) : Statement (.bx c rm) := ⟨rfl, rfl⟩
theorem wfi (c : Cond) (rd : Reg) : Statement (.wfi c rd) := ⟨rfl, rfl⟩
theorem mrs (c : Cond) (r : Bool) (rd : Reg) : Statement (.mrs c r rd) := ⟨rfl, rfl⟩
theorem msrReg (c : Cond) (r : Bool) (mask : BitVec 4) (rm : Reg) : Statement (.msrReg c r mask rm) := ⟨rfl, rfl⟩
theorem msrImm (c : Cond) (r : Bool) (mask rot : BitVec 4) (imm8 : BitVec 8) :
    Statement (.msrImm c r mask rot imm8) := ⟨rfl, rfl⟩
theorem swp (c : Cond) (rn rd rm : Reg) : Statement (.swp c rn rd rm) := ⟨rfl, rfl⟩
theorem swpb (c : Cond) (rn rd rm : Reg) : Statement (.swpb c rn rd rm) := ⟨rfl, rfl⟩
theorem mul (c : Cond) (sf : Bool) (rd rn rs rm : Reg) : Statement (.mul c sf rd rn rs rm) := ⟨rfl, rfl⟩
theorem mla (c : Cond) (sf : Bool) (rd rn rs rm : Reg) : Statement (.mla c sf rd rn rs rm) := ⟨rfl, rfl⟩
theorem umull (c : Cond) (sf : Bool) (rdHi rdLo rs rm : Reg) : Statement (.umull c sf rdHi rdLo rs rm) := ⟨rfl, rfl⟩
theorem umlal (c : Cond) (sf : Bool) (rdHi rdLo rs rm : Reg) : Statement (.umlal c sf rdHi rdLo rs rm) := ⟨rfl, rfl⟩
theorem smull (c : Cond) (sf : Bool) (rdHi rdLo rs rm : Reg) : Statement (.smull c sf rdHi rdLo rs rm) := ⟨rfl, rfl⟩
theorem smlal (c : Cond) (sf : Bool) (rdHi rdLo rs rm : Reg) : Statement (.smlal c sf rdHi rdLo rs rm) := ⟨rfl, rfl⟩
theorem strhReg (c : Cond) (p u w : Bool) (rn rd : Reg) (sbz : BitVec 4) (rm : Reg) :
    Statement (.strhReg c p u w rn rd sbz rm) := ⟨rfl, rfl⟩
theorem strhImm (c : Cond) (p u w : Bool) (rn rd : Reg) (offH offL : BitVec 4) :
    Statement (.strhImm c p u w rn rd offH offL) := ⟨rfl, rfl⟩
theorem ldrhReg (c : Cond) (p u w : Bool) (rn rd : Reg) (sbz : BitVec 4) (rm : Reg) :
    Statement (.ldrhReg c p u w rn rd sbz rm) := ⟨rfl, rfl⟩
theorem ldrhImm (c : Cond) (p u w : Bool) (rn rd : Reg) (offH offL : BitVec 4) :
    Statement (.ldrhImm c p u w rn rd offH offL) := ⟨rfl, rfl⟩
theorem ldrsbReg (c : Cond) (p u w : Bool) (rn rd : Reg) (sbz : BitVec 4) (rm : Reg) :
    Statement (.ldrsbReg c p u w rn rd sbz rm) := ⟨rfl, rfl⟩
theorem ldrsbImm (c : Cond) (p u w : Bool) (rn rd : Reg) (offH offL : BitVec 4) :
    Statement (.ldrsbImm c p u w rn rd offH offL) := ⟨rfl, rfl⟩
theorem ldrshReg (c : Cond) (p u w : Bool) (rn rd : Reg) (sbz : BitVec 4) (rm : Reg) :
    Statement (.ldrshReg c p u w rn rd sbz rm) := ⟨rfl, rfl⟩
theorem ldrshImm (c : Cond) (p u w : Bool) (rn rd : Reg) (offH offL : BitVec 4) :
    Statement (.ldrshImm c p u w rn rd offH offL) := ⟨rfl, rfl⟩
theorem andImm (c : Cond) (sf : Bool) (rn rd : Reg) (rot : BitVec 4) (imm8 : BitVec 8) :
    Statement (.andImm c sf rn rd rot imm8) := ⟨rfl, rfl⟩
theorem andReg (c : Cond) (sf : Bool) (rn rd : Reg) (amt : BitVec 5) (ty : ShiftKind) (rm : Reg) :
    Statement (.andReg c sf rn rd amt ty rm) := ⟨rfl, rfl⟩
theorem andRsr (c : Cond) (sf : Bool) (rn rd rs : Reg) (ty : ShiftKind) (rm : Reg) :
    Statement (.andRsr c sf rn rd rs ty rm) := ⟨rfl, rfl⟩
theorem eorImm (c : Cond) (sf : Bool) (rn rd : Reg) (rot : BitVec 4) (imm8 : BitVec 8) :
    Statement (.eorImm c sf rn rd rot imm8) := ⟨rfl, rfl⟩
theorem eorReg (c : Cond) (sf : Bool) (rn rd : Reg) (amt : BitVec 5) (ty : ShiftKind) (rm : Reg) :
    Statement (.eorReg c sf rn rd amt ty rm) := ⟨rfl, rfl⟩
theorem eorRsr (c : Cond) (sf : Bool) (rn rd rs : Reg) (ty : ShiftKind) (rm : Reg) :
    Statement (.eorRsr c sf rn rd rs ty rm) := ⟨rfl, rfl⟩
theorem subImm (c : Cond) (sf : Bool) (rn rd : Reg) (rot : BitVec 4) (imm8 : BitVec 8) :
    Statement (.subImm c sf rn rd rot imm8) := ⟨rfl, rfl⟩
theorem subReg (c : Cond) (sf : Bool) (rn rd : Reg) (amt : BitVec 5) (ty : ShiftKind) (rm : Reg) :
    Statement (.subReg c sf rn rd amt ty rm) := ⟨rfl, rfl⟩
theorem subRsr (c : Cond) (sf : Bool) (rn rd rs : Reg) (ty : ShiftKind) (rm : Reg) :
    Statement (.subRsr c sf rn rd rs ty rm) := ⟨rfl, rfl⟩
theorem rsbImm (c : Cond) (sf : Bool) (rn rd : Reg) (rot : BitVec 4) (imm8 : BitVec 8) :
    Statement (.rsbImm c sf rn rd rot imm8) := ⟨rfl, rfl⟩
theorem rsbReg (c : Cond) (sf : Bool) (rn rd : Reg) (amt : BitVec 5) (ty : ShiftKind) (rm : Reg) :
    Statement (.rsbReg c sf rn rd amt ty rm) := ⟨rfl, rfl⟩
theorem rsbRsr (c : Cond) (sf : Bool) (rn rd rs : Reg) (ty : ShiftKind) (rm : Reg) :
    Statement (.rsbRsr c sf rn rd rs ty rm) := ⟨rfl, rfl⟩
theorem addImm (c : Cond) (sf : Bool) (rn rd : Reg) (rot : BitVec 4) (imm8 : BitVec 8) :
    Statement (.addImm c sf rn rd rot imm8) := ⟨rfl, rfl⟩
theorem addReg (c : Cond) (sf : Bool) (rn rd : Reg) (amt : BitVec 5) (ty : ShiftKind) (rm : Reg) :
    Statement (.addReg c sf rn rd amt ty rm) := ⟨rfl, rfl⟩
theorem addRsr (c : Cond) (sf : Bool) (rn rd rs : Reg) (ty : ShiftKind) (rm : Reg) :
    Statement (.addRsr c sf rn rd rs ty rm) := ⟨rfl, rfl⟩
theorem adcImm (c : Cond) (sf : Bool) (rn rd : Reg) (rot : BitVec 4) (imm8 : BitVec 8) :
    Statement (.adcImm c sf rn rd rot imm8) := ⟨rfl, rfl⟩
theorem adcReg (c : Cond) (sf : Bool) (rn rd : Reg) (amt : BitVec 5) (ty : ShiftKind) (rm : Reg) :
    Statement (.adcReg c sf rn rd amt ty rm) := ⟨rfl, rfl⟩
theorem adcRsr (c : Cond) (sf : Bool) (rn rd rs : Reg) (ty : ShiftKind) (rm : Reg) :
    Statement (.adcRsr c sf rn rd rs ty rm) := ⟨rfl, rfl⟩
theorem sbcImm (c : Cond) (sf : Bool) (rn rd : Reg) (rot : BitVec 4) (imm8 : BitVec 8) :
    Statement (.sbcImm c sf rn rd rot imm8) := ⟨rfl, rfl⟩
theorem sbcReg (c : Cond) (sf : Bool) (rn rd : Reg) (amt : BitVec 5) (ty : ShiftKind) (rm : Reg) :
    Statement (.sbcReg c sf rn rd amt ty rm) := ⟨rfl, rfl⟩
theorem sbcRsr (c : Cond) (sf : Bool) (rn rd rs : Reg) (ty : ShiftKind) (rm : Reg) :
    Statement (.sbcRsr c sf rn rd rs ty rm) := ⟨rfl, rfl⟩
theorem rscImm (c : Cond) (sf : Bool) (rn rd : Reg) (rot : BitVec 4) (imm8 : BitVec 8) :
    Statement (.rscImm c sf rn rd rot imm8) := ⟨rfl, rfl⟩
theorem rscReg (c : Cond) (sf : Bool) (rn rd : Reg) (amt : BitVec 5) (ty : ShiftKind) (rm : Reg) :
    Statement (.rscReg c sf rn rd amt ty rm) := ⟨rfl, rfl⟩
theorem rscRsr (c : Cond) (sf : Bool) (rn rd rs : Reg) (ty : ShiftKind) (rm : Reg) :
    Statement (.rscRsr c sf rn rd rs ty rm) := ⟨rfl, rfl⟩
theorem tstImm (c : Cond) (rn rd : Reg) (rot : BitVec 4) (imm8 : BitVec 8) :
    Statement (.tstImm c rn rd rot imm8) := ⟨rfl, rfl⟩
theorem tstReg (c : Cond) (rn rd : Reg) (amt : BitVec 5) (ty : ShiftKind) (rm : Reg) :
    Statement (.tstReg c rn rd amt ty rm) := ⟨rfl, rfl⟩
theorem tstRsr (c : Cond) (rn rd rs : Reg) (ty : ShiftKind) (rm : Reg) :
    Statement (.tstRsr c rn rd rs ty rm) := ⟨rfl, rfl⟩
theorem teqImm (c : Cond) (rn rd : Reg) (rot : BitVec 4) (imm8 : BitVec 8) :
    Statement (.teqImm c rn rd rot imm8) := ⟨rfl, rfl⟩
theorem teqReg (c : Cond) (rn rd : Reg) (amt : BitVec 5) (ty : ShiftKind) (rm : Reg) :
    Statement (.teqReg c rn rd amt ty rm) := ⟨rfl, rfl⟩
theorem teqRsr (c : Cond) (rn rd rs : Reg) (ty : ShiftKind) (rm : Reg) :
    Statement (.teqRsr c rn rd rs ty rm) := ⟨rfl, rfl⟩
theorem cmpImm (c : Cond) (rn rd : Reg) (rot : BitVec 4) (imm8 : BitVec 8) :
    Statement (.cmpImm c rn rd rot imm8) := ⟨rfl, rfl⟩
theorem cmpReg (c : Cond) (rn rd : Reg) (amt : BitVec 5) (ty : ShiftKind) (rm : Reg) :
    Statement (.cmpReg c rn rd amt ty rm) := ⟨rfl, rfl⟩
theorem cmpRsr (c : Cond) (rn rd rs : Reg) (ty : ShiftKind) (rm : Reg) :
    Statement (.cmpRsr c rn rd rs ty rm) := ⟨rfl, rfl⟩
theorem cmnImm (c : Cond) (rn rd : Reg) (rot : BitVec 4) (imm8 : BitVec 8) :
    Statement (.cmnImm c rn rd rot imm8) := ⟨rfl, rfl⟩
theorem cmnReg (c : Cond) (rn rd : Reg) (amt : BitVec 5) (ty : ShiftKind) (rm : Reg) :
    Statement (.cmnReg c rn rd amt ty rm) := ⟨rfl, rfl⟩
theorem cmnRsr (c : Cond) (rn rd rs : Reg) (ty : ShiftKind) (rm : Reg) :
    Statement (.cmnRsr c rn rd rs ty rm) := ⟨rfl, rfl⟩
theorem orrImm (c : Cond) (sf : Bool) (rn rd : Reg) (rot : BitVec 4) (imm8 : BitVec 8) :
    Statement (.orrImm c sf rn rd rot imm8) := ⟨rfl, rfl⟩
theorem orrReg (c : Cond) (sf : Bool) (rn rd : Reg) (amt : BitVec 5) (ty : ShiftKind) (rm : Reg) :
    Statement (.orrReg c sf rn rd amt ty rm) := ⟨rfl, rfl⟩
theorem orrRsr (c : Cond) (sf : Bool) (rn rd rs : Reg) (ty : ShiftKind) (rm : Reg) :
    Statement (.orrRsr c sf rn rd rs ty rm) := ⟨rfl, rfl⟩
theorem movImm (c : Cond) (sf : Bool) (rn rd : Reg) (rot : BitVec 4) (imm8 : BitVec 8) :
    Statement (.movImm c sf rn rd rot imm8) := ⟨rfl, rfl⟩
theorem movReg (c : Cond) (sf : Bool) (rn rd : Reg) (amt : BitVec 5) (ty : ShiftKind) (rm : Reg) :
    Statement (.movReg c sf rn rd amt ty rm) := ⟨rfl, rfl⟩
theorem movRsr (c : Cond) (sf : Bool) (rn rd rs : Reg) (ty : ShiftKind) (rm : Reg) :
    Statement (.movRsr c sf rn rd rs ty rm) := ⟨rfl, rfl⟩
theorem bicImm (c : Cond) (sf : Bool) (rn rd : Reg) (rot : BitVec 4) (imm8 : BitVec 8) :
    Statement (.bicImm c sf rn rd rot imm8) := ⟨rfl, rfl⟩
theorem bicReg (c : Cond) (sf : Bool) (rn rd : Reg) (amt : BitVec 5) (ty : ShiftKind) (rm : Reg) :
    Statement (.bicReg c sf rn rd amt ty rm) := ⟨rfl, rfl⟩
theorem bicRsr (c : Cond) (sf : Bool) (rn rd rs : Reg) (ty : ShiftKind) (rm : Reg) :
    Statement (.bicRsr c sf rn rd rs ty rm) := ⟨rfl, rfl⟩
theorem mvnImm (c : Cond) (sf : Bool) (rn rd : Reg) (rot : BitVec 4) (imm8 : BitVec 8) :
    Statement (.mvnImm c sf rn rd rot imm8) := ⟨rfl, rfl⟩
theorem mvnReg (c : Cond) (sf : Bool) (rn rd : Reg) (amt : BitVec 5) (ty : ShiftKind) (rm : Reg) :
    Statement (.mvnReg c sf rn rd amt ty rm) := ⟨rfl, rfl⟩
theorem mvnRsr (c : Cond) (sf : Bool) (rn rd rs : Reg) (ty : ShiftKind) (rm : Reg) :
    Statement (.mvnRsr c sf rn rd rs ty rm) := ⟨rfl, rfl⟩
theorem ldrtImm (c : Cond) (u : Bool) (rn rd : Reg) (imm12 : BitVec 12) :
    Statement (.ldrtImm c u rn rd imm12) := ⟨rfl, rfl⟩
theorem ldrtReg (c : Cond) (u : Bool) (rn rd : Reg) (amt : BitVec 5) (ty : ShiftKind) (rm : Reg) :
    Statement (.ldrtReg c u rn rd amt ty rm) := ⟨rfl, rfl⟩
theorem strtImm (c : Cond) (u : Bool) (rn rd : Reg) (imm12 : BitVec 12) :
    Statement (.strtImm c u rn rd imm12) := ⟨rfl, rfl⟩
theorem strtReg (c : Cond) (u : Bool) (rn rd : Reg) (amt : BitVec 5) (ty : ShiftKind) (rm : Reg) :
    Statement (.strtReg c u rn rd amt ty rm) := ⟨rfl, rfl⟩
theorem ldrbtImm (c : Cond) (u : Bool) (rn rd : Reg) (imm12 : BitVec 12) :
    Statement (.ldrbtImm c u rn rd imm12) := ⟨rfl, rfl⟩
theorem ldrbtReg (c : Cond) (u : Bool) (rn rd : Reg) (amt : BitVec 5) (ty : ShiftKind) (rm : Reg) :
    Statement (.ldrbtReg c u rn rd amt ty rm) := ⟨rfl, rfl⟩
theorem strbtImm (c : Cond) (u : Bool) (rn rd : Reg) (imm12 : BitVec 12) :
    Statement (.strbtImm c u rn rd imm12) := ⟨rfl, rfl⟩
theorem strbtReg (c : Cond) (u : Bool) (rn rd : Reg) (amt : BitVec 5) (ty : ShiftKind) (rm : Reg) :
    Statement (.strbtReg c u rn rd amt ty rm) := ⟨rfl, rfl⟩
theorem ldrImm (c : Cond) (p u w : Bool) (rn rd : Reg) (imm12 : BitVec 12) :
    Statement (.ldrImm c p u w rn rd imm12) := ⟨rfl, rfl⟩
theorem ldrReg (c : Cond) (p u w : Bool) (rn rd : Reg) (amt : BitVec 5) (ty : ShiftKind) (rm : Reg) :
    Statement (.ldrReg c p u w rn rd amt ty rm) := ⟨rfl, rfl⟩
theorem strImm (c : Cond) (p u w : Bool) (rn rd : Reg) (imm12 : BitVec 12) :
    Statement (.strImm c p u w rn rd imm12) := ⟨rfl, rfl⟩
theorem strReg (c : Cond) (p u w : Bool) (rn rd : Reg) (amt : BitVec 5) (ty : ShiftKind) (rm : Reg) :
    Statement (.strReg c p u w rn rd amt ty rm) := ⟨rfl, rfl⟩
theorem ldrbImm (c : Cond) (p u w : Bool) (rn rd : Reg) (imm12 : BitVec 12) :
    Statement (.ldrbImm c p u w rn rd imm12) := ⟨rfl, rfl⟩
theorem ldrbReg (c : Cond) (p u w : Bool) (rn rd : Reg) (amt : BitVec 5) (ty : ShiftKind) (rm : Reg) :
    Statement (.ldrbReg c p u w rn rd amt ty rm) := ⟨rfl, rfl⟩
theorem strbImm (c : Cond) (p u w : Bool) (rn rd : Reg) (imm12 : BitVec 12) :
    Statement (.strbImm c p u w rn rd imm12) := ⟨rfl, rfl⟩
theorem strbReg (c : Cond) (p u w : Bool) (rn rd : Reg) (amt : BitVec 5) (ty : ShiftKind) (rm : Reg) :
    Statement (.strbReg c p u w rn rd amt ty rm) := ⟨rfl, rfl⟩
theorem undSpace (c : Cond) (hi : BitVec 20) (lo : BitVec 4) : Statement (.undSpace c hi lo) := ⟨rfl, rfl⟩
theorem ldm (c : Cond) (p u sf w : Bool) (rn : Reg) (list : BitVec 16) :
    Statement (.ldm c p u sf w rn list) := ⟨rfl, rfl⟩
theorem stm (c : Cond) (p u sf w : Bool) (rn : Reg) (list : BitVec 16) :
    Statement (.stm c p u sf w rn list) := ⟨rfl, rfl⟩
theorem b (c : Cond) (imm24 : BitVec 24) : Statement (.b c imm24) := ⟨rfl, rfl⟩
theorem bl (c : Cond) (imm24 : BitVec 24) : Statement (.bl c imm24) := ⟨rfl, rfl⟩
theorem swi (c : Cond) (comment : BitVec 24) : Statement (.swi c comment) := ⟨rfl, rfl⟩
theorem cdp (c : Cond) (opc1 crn crd cp : BitVec 4) (opc2 : BitVec 3) (crm : BitVec 4) :
    Statement (.cdp c opc1 crn crd cp opc2 crm) := ⟨rfl, rfl⟩
theorem mcr (c : Cond) (opc1 : BitVec 3) (crn : BitVec 4) (rd : Reg) (cp : BitVec 4) (opc2 : BitVec 3) (crm : BitVec 4) :
    Statement (.mcr c opc1 crn rd cp opc2 crm) := ⟨rfl, rfl⟩
theorem mrc (c : Cond) (opc1 : BitVec 3) (crn : BitVec 4) (rd : Reg) (cp : BitVec 4) (opc2 : BitVec 3) (crm : BitVec 4) :
    Statement (.mrc c opc1 crn rd cp opc2 crm) := ⟨rfl, rfl⟩
theorem ldc (c : Cond) (p u n w : Bool) (rn : Reg) (crd cp : BitVec 4) (imm8 : BitVec 8) :
    Statement (.ldc c p u n w rn crd cp imm8) := ⟨rfl, rfl⟩
theorem stc (c : Cond) (p u n w : Bool) (rn : Reg) (crd cp : BitVec 4) (imm8 : BitVec 8) :
    Statement (.stc c p u n w rn crd cp imm8) := ⟨rfl, rfl⟩
theorem undOther (c : Cond) (body : BitVec 28) : Statement (.undOther c body) := ⟨rfl, rfl⟩
theorem tLslImm (imm5 : BitVec 5) (rs rd : LReg) : Statement (.tLslImm imm5 rs rd) := ⟨rfl, rfl⟩
theorem tLsrImm (imm5 : BitVec 5) (rs rd : LReg) : Statement (.tLsrImm imm5 rs rd) := ⟨rfl, rfl⟩
theorem tAsrImm (imm5 : BitVec 5) (rs rd : LReg) : Statement (.tAsrImm imm5 rs rd) := ⟨rfl, rfl⟩
theorem tAddReg (rn rs rd : LReg) : Statement (.tAddReg rn rs rd) := ⟨rfl, rfl⟩
theorem tSubReg (rn rs rd : LReg) : Statement (.tSubReg rn rs rd) := ⟨rfl, rfl⟩
theorem tAddImm3 (imm3 : BitVec 3) (rs rd : LReg) : Statement (.tAddImm3 imm3 rs rd) := ⟨rfl, rfl⟩
theorem tSubImm3 (imm3 : BitVec 3) (rs rd : LReg) : Statement (.tSubImm3 imm3 rs rd) := ⟨rfl, rfl⟩
theorem tMovImm8 (rd : LReg) (imm8 : BitVec 8) : Statement (.tMovImm8 rd imm8) := ⟨rfl, rfl⟩
theorem tCmpImm8 (rd : LReg) (imm8 : BitVec 8) : Statement (.tCmpImm8 rd imm8) := ⟨rfl, rfl⟩
theorem tAddImm8 (rd : LReg) (imm8 : BitVec 8) : Statement (.tAddImm8 rd imm8) := ⟨rfl, rfl⟩
theorem tSubImm8 (rd : LReg) (imm8 : BitVec 8) : Statement (.tSubImm8 rd imm8) := ⟨rfl, rfl⟩
theorem tAnd (rs rd : LReg) : Statement (.tAnd rs rd) := ⟨rfl, rfl⟩
theorem tEor (rs rd : LReg) : Statement (.tEor rs rd) := ⟨rfl, rfl⟩
theorem tLslReg (rs rd : LReg) : Statement (.tLslReg rs rd) := ⟨rfl, rfl⟩
theorem tLsrReg (rs rd : LReg) : Statement (.tLsrReg rs rd) := ⟨rfl, rfl⟩
theorem tAsrReg (rs rd : LReg) : Statement (.tAsrReg rs rd) := ⟨rfl, rfl⟩
theorem tAdc (rs rd : LReg) : Statement (.tAdc rs rd) := ⟨rfl, rfl⟩
theorem tSbc (rs rd : LReg) : Statement (.tSbc rs rd) := ⟨rfl, rfl⟩
theorem tRorReg (rs rd : LReg) : Statement (.tRorReg rs rd) := ⟨rfl, rfl⟩
theorem tTst (rs rd : LReg) : Statement (.tTst rs rd) := ⟨rfl, rfl⟩
theorem tNeg (rs rd : LReg) : Statement (.tNeg rs rd) := ⟨rfl, rfl⟩
theorem tCmpReg (rs rd : LReg) : Statement (.tCmpReg rs rd) := ⟨rfl, rfl⟩
theorem tCmn (rs rd : LReg) : Statement (.tCmn rs rd) := ⟨rfl, rfl⟩
theorem tOrr (rs rd : LReg) : Statement (.tOrr rs rd) := ⟨rfl, rfl⟩
theorem tMul (rs rd : LReg) : Statement (.tMul rs rd) := ⟨rfl, rfl⟩
theorem tBic (rs rd : LReg) : Statement (.tBic rs rd) := ⟨rfl, rfl⟩
theorem tMvn (rs rd : LReg) : Statement (.tMvn rs rd) := ⟨rfl, rfl⟩
theorem tAddHi (rd rs : Reg) : Statement (.tAddHi rd rs) := ⟨rfl, rfl⟩
theorem tCmpHi (rd rs : Reg) : Statement (.tCmpHi rd rs) := ⟨rfl, rfl⟩
theorem tMovHi (rd rs : Reg) : Statement (.tMovHi rd rs) := ⟨rfl, rfl⟩
theorem tBx (rs : Reg) (sbz : BitVec 3) : Statement (.tBx rs sbz) := ⟨rfl, rfl⟩
theorem tLdrPc (rd : LReg) (imm8 : BitVec 8) : Statement (.tLdrPc rd imm8) := ⟨rfl, rfl⟩
theorem tStrReg (ro rb rd : LReg) : Statement (.tStrReg ro rb rd) := ⟨rfl, rfl⟩
theorem tStrbReg (ro rb rd : LReg) : Statement (.tStrbReg ro rb rd) := ⟨rfl, rfl⟩
theorem tLdrReg (ro rb rd : LReg) : Statement (.tLdrReg ro rb rd) := ⟨rfl, rfl⟩
theorem tLdrbReg (ro rb rd : LReg) : Statement (.tLdrbReg ro rb rd) := ⟨rfl, rfl⟩
theorem tStrhReg (ro rb rd : LReg) : Statement (.tStrhReg ro rb rd) := ⟨rfl, rfl⟩
theorem tLdsbReg (ro rb rd : LReg) : Statement (.tLdsbReg ro rb rd) := ⟨rfl, rfl⟩
theorem tLdrhReg (ro rb rd : LReg) : Statement (.tLdrhReg ro rb rd) := ⟨rfl, rfl⟩
theorem tLdshReg (ro rb rd : LReg) : Statement (.tLdshReg ro rb rd) := ⟨rfl, rfl⟩
theorem tStrImm (imm5 : BitVec 5) (rb rd : LReg) : Statement (.tStrImm imm5 rb rd) := ⟨rfl, rfl⟩
theorem tLdrImm (imm5 : BitVec 5) (rb rd : LReg) : Statement (.tLdrImm imm5 rb rd) := ⟨rfl, rfl⟩
theorem tStrbImm (imm5 : BitVec 5) (rb rd : LReg) : Statement (.tStrbImm imm5 rb rd) := ⟨rfl, rfl⟩
theorem tLdrbImm (imm5 : BitVec 5) (rb rd : LReg) : Statement (.tLdrbImm imm5 rb rd) := ⟨rfl, rfl⟩
theorem tStrhImm (imm5 : BitVec 5) (rb rd : LReg) : Statement (.tStrhImm imm5 rb rd) := ⟨rfl, rfl⟩
theorem tLdrhImm (imm5 : BitVec 5) (rb rd : LReg) : Statement (.tLdrhImm imm5 rb rd) := ⟨rfl, rfl⟩
theorem tStrSp (rd : LReg) (imm8 : BitVec 8) : Statement (.tStrSp rd imm8) := ⟨rfl, rfl⟩
theorem tLdrSp (rd : LReg) (imm8 : BitVec 8) : Statement (.tLdrSp rd imm8) := ⟨rfl, rfl⟩
theorem tAddPc (rd : LReg) (imm8 : BitVec 8) : Statement (.tAddPc rd imm8) := ⟨rfl, rfl⟩
theorem tAddSp (rd : LReg) (imm8 : BitVec 8) : Statement (.tAddSp rd imm8) := ⟨rfl, rfl⟩
theorem tAddSpImm (imm7 : BitVec 7) : Statement (.tAddSpImm imm7) := ⟨rfl, rfl⟩
theorem tSubSpImm (imm7 : BitVec 7) : Statement (.tSubSpImm imm7) := ⟨rfl, rfl⟩
theorem tPush (r : Bool) (rlist : BitVec 8) : Statement (.tPush r rlist) := ⟨rfl, rfl⟩
theorem tPop (r : Bool) (rlist : BitVec 8) : Statement (.tPop r rlist) := ⟨rfl, rfl⟩
theorem tStmia (rb : LReg) (rlist : BitVec 8) : Statement (.tStmia rb rlist) := ⟨rfl, rfl⟩
theorem tLdmia (rb : LReg) (rlist : BitVec 8) : Statement (.tLdmia rb rlist) := ⟨rfl, rfl⟩
theorem tSwi (comment : BitVec 8) : Statement (.tSwi comment) := ⟨rfl, rfl⟩
theorem tUndCond (comment : BitVec 8) : Statement (.tUndCond comment) := ⟨rfl, rfl⟩
theorem tBcond (c : Cond) (imm8 : BitVec 8) : Statement (.tBcond c imm8) := ⟨rfl, rfl⟩
theorem tB (imm11 : BitVec 11) : Statement (.tB imm11) := ⟨rfl, rfl⟩
theorem tBlHi (imm11 : BitVec 11) : Statement (.tBlHi imm11) := ⟨rfl, rfl⟩
theorem tBlLo (imm11 : BitVec 11) : Statement (.tBlLo imm11) := ⟨rfl, rfl⟩
theorem tUndOther (word : BitVec 16) : Statement (.tUndOther word) := ⟨rfl, rfl⟩

end Sys2Proof.Laws.Format
end

