-- ==== Sys2Proof/Laws/Scheduler.lean ====
section
/-! SUPPORT. The main loop: what choosing a core and advancing the devices leave, and the four things a step can do. -/

namespace Sys2Proof.Machine

/-! ## Advancing the devices (R465) -/

/-- What advancing the devices leaves: both cores, memory, what software programmed, the times. -/
structure Advanced (s t : State) : Prop where
  par : t.par = s.par
  core : t.core = s.core
  other : t.other = s.other
  mem : t.mem = s.mem
  enable : t.irq.enable = s.irq.enable
  master : t.irq.master = s.irq.master
  waitcnt : t.waitcnt = s.waitcnt
  postFlag : t.postFlag = s.postFlag
  now : t.sched.now = s.sched.now
  devNow : t.sched.devNow = s.sched.devNow
  draws : t.draws = s.draws

theorem Advanced.refl (s : State) : Advanced s s := ⟨rfl, rfl, rfl, rfl, rfl, rfl, rfl, rfl, rfl, rfl, rfl⟩

theorem Advanced.trans {s t u : State} (h : Advanced s t) (k : Advanced t u) : Advanced s u :=
  ⟨k.par.trans h.par, k.core.trans h.core, k.other.trans h.other, k.mem.trans h.mem, k.enable.trans h.enable,
    k.master.trans h.master, k.waitcnt.trans h.waitcnt, k.postFlag.trans h.postFlag, k.now.trans h.now,
    k.devNow.trans h.devNow, k.draws.trans h.draws⟩

/-- What the work inside one cycle leaves: besides, a stored event that is new is not due in the past (R462). -/
structure Worked (s t : State) : Prop extends Advanced s t where
  ticks : ∀ x ∈ t.sched.ticks, x ∈ s.sched.ticks ∨ s.sched.devNow ≤ x.due

theorem Worked.refl (s : State) : Worked s s := ⟨.refl s, fun _ h => .inl h⟩

theorem Worked.trans {s t u : State} (h : Worked s t) (k : Worked t u) : Worked s u :=
  ⟨h.toAdvanced.trans k.toAdvanced, fun x hx => (k.ticks x hx).elim (h.ticks x) fun d => .inr (h.devNow ▸ d)⟩

theorem Worked.of_sheltered {s t : State} (h : Sheltered s t) : Worked s t :=
  ⟨⟨h.par, h.core, h.other, h.mem, h.enable, h.master, h.waitcnt, h.postFlag, h.now, h.devNow, h.draws⟩, h.ticks⟩

theorem Worked.foldl {α : Type} {f : State → α → State} (h : ∀ s a, Worked s (f s a)) (l : List α) (s : State) :
    Worked s (l.foldl f s) := by
  induction l generalizing s with
  | nil => exact .refl s
  | cons a l ih => exact (h s a).trans (ih (f s a))

theorem State.setTimer_worked (s : State) (t : Fin 4) (x : Timer) : Worked s (s.setTimer t x) :=
  ⟨⟨rfl, rfl, rfl, rfl, rfl, rfl, rfl, rfl, rfl, rfl, rfl⟩, fun _ h => .inl h⟩

theorem State.fifoPairing_sheltered (s : State) : Sheltered s s.fifoPairing := by
  have h := s.takeAnswer_sheltered
  unfold State.fifoPairing
  split
  · next t e => rw [e] at h; exact h
  · next a t e => rw [e] at h; exact h.trans (Sheltered.foldl State.checkSpecial_sheltered _ _)

theorem State.increment_worked (s : State) (l : List (Fin 4)) : Worked s (s.increment l) := by
  induction l generalizing s with
  | nil => exact .refl s
  | cons t rest ih =>
    unfold State.increment
    dsimp only
    split
    · have wrapped := s.setTimer_worked t { s.timers[t] with counter := s.timers[t].reload }
      refine wrapped.trans ?_
      generalize s.setTimer t { s.timers[t] with counter := s.timers[t].reload } = u
      have asked : ∀ b : Bool, Worked u (if b then u.request (3 + t.val) else u) := by
        intro b; cases b
        · exact .refl u
        · exact .of_sheltered (u.request_sheltered _)
      refine (asked s.timers[t].irqEn).trans ?_
      generalize (if s.timers[t].irqEn then u.request (3 + t.val) else u) = v
      refine (Worked.of_sheltered v.fifoPairing_sheltered).trans ?_
      split
      · exact .refl _
      · split
        · exact ih _
        · exact .refl _
    · exact s.setTimer_worked t _

theorem State.tickOne_worked (s : State) (l : List (Fin 4)) : Worked s (s.tickOne l) := by
  cases l with
  | nil => exact .refl s
  | cons t rest =>
    unfold State.tickOne
    dsimp only
    split
    · split
      · exact (s.setTimer_worked t _).trans (State.increment_worked _ _)
      · exact s.setTimer_worked t _
    · exact .refl s

theorem State.tickTimers_worked (s : State) : Worked s s.tickTimers :=
  Worked.foldl State.tickOne_worked _ _

theorem State.fireTicks_sheltered (s : State) (T : Nat) : Sheltered s (s.fireTicks T) :=
  Sheltered.trans (t := s.setSched { s.sched with ticks := s.sched.ticks.filter fun t => decide (T < t.due) })
    ⟨rfl, rfl, rfl, rfl, rfl, rfl, rfl, rfl, rfl, rfl, rfl, rfl, rfl, rfl, fun _ h => .inl (List.mem_filter.1 h).1⟩
    (Sheltered.foldl (fun u _ => u.callback_sheltered _) _ _)

theorem State.hblank_sheltered (s : State) : Sheltered s s.hblank := by
  unfold State.hblank
  dsimp only
  split
  · exact (s.callback_sheltered _).trans (Sheltered.foldl (State.latchRequest_sheltered 2) _ _)
  · exact s.callback_sheltered _

theorem Sheltered.ite {s t u : State} (p : Prop) [Decidable p] (h : Sheltered s t) (k : Sheltered s u) :
    Sheltered s (if p then t else u) := by split <;> assumption

theorem Worked.ite {s t u : State} (p : Prop) [Decidable p] (h : Worked s t) (k : Worked s u) :
    Worked s (if p then t else u) := by split <;> assumption

/-- The scanline position is no business of anyone else's. -/
theorem State.setPosition_worked (s : State) (d l : Nat) :
    Worked s (s.setSched { s.sched with dot := d, line := l }) :=
  ⟨⟨rfl, rfl, rfl, rfl, rfl, rfl, rfl, rfl, rfl, rfl, rfl⟩, fun _ h => .inl h⟩

theorem State.endOfLine_worked (s : State) : Worked s s.endOfLine := by
  unfold State.endOfLine
  dsimp only
  refine Worked.trans ?_ (Worked.ite _ (.of_sheltered (State.callback_sheltered _ _)) (.refl _))
  refine Worked.trans ?_
    (Worked.ite _ (.of_sheltered (Sheltered.foldl (State.latchRequest_sheltered 1) _ _)) (.refl _))
  exact (s.setPosition_worked _ _).trans (.of_sheltered (State.callback_sheltered _ _))

theorem State.scanline_worked (s : State) : Worked s s.scanline := by
  unfold State.scanline
  dsimp only
  refine Worked.trans ?_ (Worked.ite _ (State.endOfLine_worked _) (.refl _))
  exact (s.setPosition_worked _ _).trans (Worked.ite _ (.of_sheltered (State.hblank_sheltered _)) (.refl _))

/-- The devices' cycle moved on by `n`. -/
def State.laterBy (s : State) (n : Nat) : State := s.setSched { s.sched with devNow := s.sched.devNow + n }

/-- After the entries due by a cycle fired, those left are due at that cycle or later (R462). -/
theorem State.fireTicks_ticks (s : State) (x : Tick) (h : x ∈ (s.fireTicks s.sched.devNow).sched.ticks) :
    s.sched.devNow ≤ x.due := by
  have fired := (Sheltered.foldl (fun (u : State) (t : Tick) => u.callback_sheltered (.tick t.id))
    (sortTicks (s.sched.ticks.filter fun t => decide (t.due ≤ s.sched.devNow)))
    (s.setSched { s.sched with ticks := s.sched.ticks.filter fun t => decide (s.sched.devNow < t.due) })).ticks x h
  rcases fired with hx | hx
  · have := (List.mem_filter.1 hx).2
    simp only [decide_eq_true_eq] at this
    omega
  · exact hx

/-- A cycle of the devices, from the state that stands at it: the timers and signals work after the stored events. -/
theorem State.advanceOne_worked (s : State) : Worked ((s.laterBy 1).fireTicks (s.sched.devNow + 1)) s.advanceOne :=
  (State.scanline_worked _).trans (State.tickTimers_worked _)

theorem State.advanceOne_advanced (s : State) : Advanced (s.laterBy 1) s.advanceOne :=
  (Worked.of_sheltered (State.fireTicks_sheltered _ _)).toAdvanced.trans s.advanceOne_worked.toAdvanced

/-- After a cycle no stored event is due in the past, whatever was stored before it (R462). -/
theorem State.advanceOne_ticks (s : State) (x : Tick) (h : x ∈ s.advanceOne.sched.ticks) :
    s.advanceOne.sched.devNow ≤ x.due := by
  have dev : s.advanceOne.sched.devNow = s.sched.devNow + 1 := s.advanceOne_advanced.devNow
  have fired : ((s.laterBy 1).fireTicks (s.sched.devNow + 1)).sched.devNow = s.sched.devNow + 1 :=
    ((s.laterBy 1).fireTicks_sheltered _).devNow
  rewrite [dev]
  rcases s.advanceOne_worked.ticks x h with hx | hx
  · exact (s.laterBy 1).fireTicks_ticks x hx
  · exact fired ▸ hx

theorem Advanced.laterBy {s t : State} (h : Advanced s t) (n : Nat) : Advanced (s.laterBy n) (t.laterBy n) :=
  ⟨h.par, h.core, h.other, h.mem, h.enable, h.master, h.waitcnt, h.postFlag, h.now, congrArg (· + n) h.devNow, h.draws⟩

theorem State.laterBy_laterBy (s : State) (m n : Nat) : (s.laterBy m).laterBy n = s.laterBy (m + n) := by
  simp only [State.laterBy, State.setSched_sched, Nat.add_assoc]
  rfl

@[simp] theorem State.laterBy_par (s : State) (n : Nat) : (s.laterBy n).par = s.par := rfl
@[simp] theorem State.laterBy_core (s : State) (n : Nat) : (s.laterBy n).core = s.core := rfl
@[simp] theorem State.laterBy_other (s : State) (n : Nat) : (s.laterBy n).other = s.other := rfl
@[simp] theorem State.laterBy_mem (s : State) (n : Nat) : (s.laterBy n).mem = s.mem := rfl
@[simp] theorem State.laterBy_irq (s : State) (n : Nat) : (s.laterBy n).irq = s.irq := rfl
@[simp] theorem State.laterBy_waitcnt (s : State) (n : Nat) : (s.laterBy n).waitcnt = s.waitcnt := rfl
@[simp] theorem State.laterBy_postFlag (s : State) (n : Nat) : (s.laterBy n).postFlag = s.postFlag := rfl
@[simp] theorem State.laterBy_draws (s : State) (n : Nat) : (s.laterBy n).draws = s.draws := rfl
@[simp] theorem State.laterBy_now (s : State) (n : Nat) : (s.laterBy n).sched.now = s.sched.now := rfl
@[simp] theorem State.laterBy_devNow (s : State) (n : Nat) : (s.laterBy n).sched.devNow = s.sched.devNow + n := rfl

theorem repeated_zero {α : Type} (f : α → α) (a : α) : repeated f 0 a = a := rfl

theorem repeated_succ {α : Type} (f : α → α) (n : Nat) (a : α) : repeated f (n + 1) a = repeated f n (f a) := rfl

/-- Two runs of an operation, one after the other. -/
theorem repeated_add {α : Type} (f : α → α) (m n : Nat) (a : α) : repeated f (m + n) a = repeated f n (repeated f m a) := by
  induction m generalizing a with
  | zero => rw [Nat.zero_add]; rfl
  | succ m ih => rw [Nat.succ_add, repeated_succ, ih, repeated_succ]

@[simp] theorem State.advanceBy_zero (s : State) : s.advanceBy 0 = s := repeated_zero State.advanceOne s

theorem State.advanceBy_succ (s : State) (n : Nat) : s.advanceBy (n + 1) = s.advanceOne.advanceBy n :=
  repeated_succ State.advanceOne n s

/-- Advancing is additive. -/
theorem State.advanceBy_add (s : State) (m n : Nat) : s.advanceBy (m + n) = (s.advanceBy m).advanceBy n :=
  repeated_add State.advanceOne m n s

/-- Advancing the devices moves their cycle, and leaves both cores, memory, what software programmed. -/
theorem State.advanceBy_advanced (s : State) (n : Nat) : Advanced (s.laterBy n) (s.advanceBy n) := by
  induction n generalizing s with
  | zero => exact .refl s
  | succ n ih =>
    rewrite [State.advanceBy_succ, Nat.add_comm n 1, ← s.laterBy_laterBy]
    exact (s.advanceOne_advanced.laterBy n).trans (ih s.advanceOne)

/-- After `advance_to` the devices stand at the target, or where they were if they were past it. -/
theorem State.advanceBy_devNow (s : State) (n : Nat) : (s.advanceBy n).sched.devNow = s.sched.devNow + n :=
  (s.advanceBy_advanced n).devNow

/-- No stored event is in the past after the devices advanced, if none was before (R462). -/
theorem State.advanceBy_ticks (s : State) (n : Nat) (h : ∀ x ∈ s.sched.ticks, s.sched.devNow ≤ x.due) :
    ∀ x ∈ (s.advanceBy n).sched.ticks, (s.advanceBy n).sched.devNow ≤ x.due := by
  induction n generalizing s with
  | zero => exact h
  | succ n ih =>
    rewrite [State.advanceBy_succ]
    exact ih s.advanceOne s.advanceOne_ticks

theorem State.atCheckpoint_advanced (s : State) :
    Advanced (s.begin.laterBy (s.begin.sched.now - s.begin.sched.devNow)) s.atCheckpoint :=
  State.advanceBy_advanced _ _

theorem mem_insertTick {t x : Tick} {l : List Tick} : x ∈ insertTick t l ↔ x = t ∨ x ∈ l := by
  induction l with
  | nil => simp [insertTick]
  | cons u l ih =>
    unfold insertTick
    split
    · simp
    · simp only [List.mem_cons, ih]; tauto

/-- The order a cycle fires its entries in (R462): none is due later than one after it. -/
theorem insertTick_sorted (t : Tick) {l : List Tick} (h : l.Pairwise fun x y => x.due ≤ y.due) :
    (insertTick t l).Pairwise fun x y => x.due ≤ y.due := by
  induction l with
  | nil => simp [insertTick]
  | cons u l ih =>
    obtain ⟨hu, hl⟩ := List.pairwise_cons.1 h
    unfold insertTick
    split
    · next ht =>
      refine List.pairwise_cons.2 ⟨fun x hx => ?_, h⟩
      rcases List.mem_cons.1 hx with rfl | hx
      · omega
      · have := hu x hx; omega
    · next ht =>
      refine List.pairwise_cons.2 ⟨fun x hx => ?_, ih hl⟩
      rcases mem_insertTick.1 hx with rfl | hx
      · omega
      · exact hu x hx

theorem sortTicks_sorted (l : List Tick) : (sortTicks l).Pairwise fun x y => x.due ≤ y.due := by
  suffices h : ∀ m : List Tick, (m.Pairwise fun x y => x.due ≤ y.due) →
      ((l.foldl (fun sorted t => insertTick t sorted) m).Pairwise fun x y => x.due ≤ y.due) from h [] .nil
  induction l with
  | nil => exact fun m hm => hm
  | cons t l ih => exact fun m hm => ih _ (insertTick_sorted t hm)

/-! ## DMA transfers (R507) -/

theorem State.dmaUnit_frame (s : State) (ch : Fin 4) (w : Width) (a b : BitVec 2) (k : AccessKind) :
    WriteFrame s (s.dmaUnit ch w a b k) := by
  unfold State.dmaUnit
  dsimp only
  refine WriteFrame.trans ?_ (.of_sheltered (State.setDma_sheltered _ _ _))
  exact (WriteFrame.of_sheltered (s.busRead_sheltered _ _ _)).trans (State.busWrite_frame _ _ _ _ _ _)

theorem State.dmaUnits_frame (s : State) (ch : Fin 4) (w : Width) (a b : BitVec 2) (n : Nat) (k : AccessKind) :
    WriteFrame s (s.dmaUnits ch w a b n k) := by
  induction n generalizing s k with
  | zero => exact .refl s
  | succ n ih => exact (s.dmaUnit_frame ch w a b k).trans (ih _ _)

theorem State.dmaCompletion_sheltered (s : State) (ch : Fin 4) : Sheltered s (s.dmaCompletion ch) := by
  unfold State.dmaCompletion
  dsimp only
  refine Sheltered.trans ?_ (State.setDma_sheltered _ _ _)
  exact Sheltered.ite _ (s.request_sheltered _) (.refl s)

/-- A transfer changes no register of a core, and keeps the canonical form of memory. -/
theorem State.dmaTransfer_frame (s : State) (ch : Fin 4) : WriteFrame s (s.dmaTransfer ch) := by
  unfold State.dmaTransfer
  dsimp only
  refine WriteFrame.trans ?_ (.of_sheltered (State.dmaCompletion_sheltered _ _))
  refine WriteFrame.trans ?_ (.of_sheltered (State.setDma_sheltered _ _ _))
  exact WriteFrame.trans (t := s.addCost s.par.internal.dma) ⟨rfl, ⟨s.core.halted, rfl⟩, rfl, rfl, rfl, rfl, rfl, rfl, id, fun _ h => .inl h⟩
    (State.dmaUnits_frame _ _ _ _ _ _ _)

/-! ## The step (R467) -/

/-- The four things a step can do under a cost function, and what each needs. -/
theorem stepWith_cases {cost : CostFunction} {s t : State} (h : stepWith cost s = .next t) :
    (∃ ch, s.atCheckpoint.dmaReady = some ch ∧
      t = (s.atCheckpoint.dmaTransfer ch).settleDmaBy
        (cost.transfer s.atCheckpoint (s.atCheckpoint.dmaTransfer ch))) ∨
    (s.atCheckpoint.dmaReady = none ∧ s.atCheckpoint.deliverable = true ∧
      t = s.atCheckpoint.wake.takeInterrupt.settleBy
        (cost.step s.atCheckpoint s.atCheckpoint.wake.takeInterrupt)) ∨
    (s.atCheckpoint.dmaReady = none ∧ s.atCheckpoint.deliverable = false ∧ s.atCheckpoint.core.halted = true ∧
      t = s.atCheckpoint.setTime s.atCheckpoint.haltedTime) ∨
    (s.atCheckpoint.dmaReady = none ∧ s.atCheckpoint.deliverable = false ∧ s.atCheckpoint.core.halted = false ∧
      ∃ u, exec (s.atCheckpoint.fetch.2.decodeOpcode s.atCheckpoint.fetch.1) s.atCheckpoint.fetch.2 = .next u ∧
        t = u.settleBy (cost.step s.atCheckpoint u)) := by
  change checkpoint cost s.atCheckpoint = .next t at h
  generalize s.atCheckpoint = u at h ⊢
  unfold checkpoint at h
  split at h
  · next ch hc => cases h; exact .inl ⟨ch, hc, rfl⟩
  · next hc =>
    split at h
    · next hd => cases h; exact .inr (.inl ⟨hc, hd, rfl⟩)
    · next hd =>
      split at h
      · next hh => cases h; exact .inr (.inr (.inl ⟨hc, by simpa using hd, hh, rfl⟩))
      · next hh =>
        refine .inr (.inr (.inr ⟨hc, by simpa using hd, by simpa using hh, ?_⟩))
        unfold runInstruction at h
        split at h
        · next v hv => cases h; exact ⟨v, hv, rfl⟩
        · cases h
        · cases h

/-- The four things a step can do under the default cost function: the cost is what was charged. -/
theorem step_cases {s t : State} (h : step s = .next t) :
    (∃ ch, s.atCheckpoint.dmaReady = some ch ∧
      t = (s.atCheckpoint.dmaTransfer ch).settleDmaBy (s.atCheckpoint.dmaTransfer ch).report.cost) ∨
    (s.atCheckpoint.dmaReady = none ∧ s.atCheckpoint.deliverable = true ∧
      t = s.atCheckpoint.wake.takeInterrupt.settle) ∨
    (s.atCheckpoint.dmaReady = none ∧ s.atCheckpoint.deliverable = false ∧ s.atCheckpoint.core.halted = true ∧
      t = s.atCheckpoint.setTime s.atCheckpoint.haltedTime) ∨
    (s.atCheckpoint.dmaReady = none ∧ s.atCheckpoint.deliverable = false ∧ s.atCheckpoint.core.halted = false ∧
      ∃ u, exec (s.atCheckpoint.fetch.2.decodeOpcode s.atCheckpoint.fetch.1) s.atCheckpoint.fetch.2 = .next u ∧
        t = u.settle) :=
  stepWith_cases h

/-- No step faults: `Fault` has no constructor. -/
theorem step_no_fault (s : State) (f : Fault) : step s ≠ .fault f := nomatch f

/-- The lowest requested armed channel, or none (R512). -/
theorem State.dmaReady_eq_some {s : State} {ch : Fin 4} (h : s.dmaReady = some ch) :
    s.dma[ch].armed = true ∧ s.dma[ch].req = true := by
  have := List.find?_some h
  simpa using this

theorem State.dmaReady_eq_none {s : State} (h : s.dmaReady = none) (ch : Fin 4) :
    ¬ (s.dma[ch].armed = true ∧ s.dma[ch].req = true) := by
  have hm : ch ∈ ([0, 1, 2, 3] : List (Fin 4)) := by revert ch; decide
  have := List.find?_eq_none.1 h ch hm
  simpa using this

end Sys2Proof.Machine
end

