-- ==== Sys2Proof/Tests/Slice0.lean ====
section
/-! SUPPORT. The model's own tests: ill-formed terms, decoding of every constructor, single steps with results from
spec/95_test_vectors.md, and for each obligation a state and operands that meet its hypotheses. -/

set_option Elab.async false

namespace Sys2Proof.Tests

open Sys2Proof.Machine

/-! ## Helpers -/

/-- The single-instruction harness of spec/95_test_vectors.md, section 0.1: an opcode of `nbits` bits at `0x03000100`,
the status `cpsr`, registers of its mode, words of memory. -/
def given (nbits w : Nat) (cpsr : Word) (regs : List (Reg × Word)) (mem : List (Word × Word)) : State :=
  let s := State.reset.setRegs
    { RegFile.reset with
      pc := 0x03000100, sp := { Banked.zero with usr := 0x03007F00, irq := 0x03007FA0, svc := 0x03007FE0 } }
  let s := s.setCpsr ((Cpsr.ofWord cpsr).getD Cpsr.reset)
  let s := (s.setLastRegion (some .iwram)).setSeq true
  let s := regs.foldl (fun s r => s.setReg r.1 r.2) s
  let s := mem.foldl (fun s m => s.loadImage m.1 (leBytes 4 m.2.toNat)) s
  s.withFetchWord nbits w

/-- A step leads to a state that passes the check. -/
def shows (s : State) (check : State → Bool) : Bool :=
  match step s with
  | .next t => check t
  | .fault _ => false
  | .refused _ => false

/-- An outcome is a next state. -/
def goesOn (o : Outcome) : Bool :=
  match o with
  | .next _ => true
  | .fault _ => false
  | .refused _ => false

/-- An outcome is a refusal. -/
def isRefused (o : Outcome) : Bool :=
  match o with
  | .next _ => false
  | .fault _ => false
  | .refused _ => true

theorem refused_of {o : Outcome} (h : isRefused o = true) : ∃ r, o = .refused r := by
  cases o with
  | next t => cases h
  | fault f => cases f
  | refused r => exact ⟨r, rfl⟩

theorem next_of {o : Outcome} (h : goesOn o = true) : ∃ t, o = .next t := by
  cases o with
  | next t => exact ⟨t, rfl⟩
  | fault f => cases f
  | refused r => cases h

theorem ready_of {i : Instr} {s : State}
    (h : (s.core.cpsr.t == i.isCompact && i.cond.all fun c => condHolds c s.core.cpsr) = true) : Ready i s :=
  (ready_iff i s).2 h

theorem transfer_of {i : Instr} {s : State}
    (h : (offsetReg i != some 15 && !badHalfword i &&
      (backOf s i).all fun b => b.1 != 15 && storeSource i != some b.1) = true) : transferAllowed s i := by
  simp only [Bool.and_eq_true, bne_iff_ne, ne_eq, Bool.not_eq_true', Option.all_eq_true] at h
  obtain ⟨⟨ho, hb⟩, hr⟩ := h
  exact ⟨ho, hb, fun rn v e => (hr _ e).1, fun rn v e => (hr _ e).2⟩

/-- System mode, full variant. -/
def sys : State := given 32 0xE1A00000 0x1F [(0, 0x03001000), (1, 0x03001004), (2, 5), (3, 0x80000001)] [(0x03001000, 0x11223344)]

/-- User mode, full variant. -/
def usr : State := given 32 0xE1A00000 0x10 [(0, 0x03001000), (1, 0x03001004), (2, 5), (3, 0x80000001)] [(0x03001000, 0x11223344)]

/-- System mode, compact variant. -/
def thumb : State := given 16 0x1C00 0x3F [(0, 0x03001000), (1, 0x03001004), (2, 5), (3, 0x80000001)] [(0x03001000, 0x11223344)]

/-- Supervisor mode with a saved status: System mode, variant `t`. -/
def handler (t : Bool) : State :=
  (given 32 0xE1A00000 0x13 [(0, 0x03001000), (1, 0x03001004), (14, 0x03000201)] []).setSpsrs
    (Spsrs.zero.set .svc { Spsr.zero with c := true, t := t, m := Mode.sys.code })

/-- User mode under `PRIV_POLICY = ignore`. -/
def lenient : State := { usr with par := { usr.par with privPolicy := .ignore } }

/-! ## Well-formedness: what each check refuses -/

theorem test_wf_plain_transfers :
    (Instr.ldrImm .al false true true 0 0 0).wf = false ∧ (Instr.ldrReg .al false true true 0 0 0 .lsl 0).wf = false ∧
    (Instr.strImm .al false true true 0 0 0).wf = false ∧ (Instr.strReg .al false true true 0 0 0 .lsl 0).wf = false ∧
    (Instr.ldrbImm .al false true true 0 0 0).wf = false ∧ (Instr.ldrbReg .al false true true 0 0 0 .lsl 0).wf = false ∧
    (Instr.strbImm .al false true true 0 0 0).wf = false ∧
    (Instr.strbReg .al false true true 0 0 0 .lsl 0).wf = false := by decide

theorem test_wf_mcr : (Instr.mcr .al 0 7 3 15 4 0).wf = false ∧ (Instr.mcr .al 0 7 3 15 5 0).wf = true := by decide

theorem test_wf_undOther :
    (Instr.undOther .al 0).wf = false ∧ (Instr.undOther .al 0x1000050).wf = true := by decide +kernel

theorem test_wf_tBcond : (Instr.tBcond .al 0).wf = false ∧ (Instr.tBcond .nv 0).wf = false ∧
    (Instr.tBcond .le 0).wf = true := by decide

theorem test_wf_tUndOther : (Instr.tUndOther 0).wf = false ∧ (Instr.tUndOther 0xB100).wf = true := by decide +kernel

/-! ## Decoding: the spec's example words, and one word from the encoding of each remaining row -/

theorem test_decode_block_transfer_and_branch :
    decodeTableWord 32 0xE12FFF1E = some (.bx .al 14) ∧
    decodeTableWord 32 0xE8900006 = some (.ldm .al false true false false 0 6) ∧
    decodeTableWord 32 0xE92D400F = some (.stm .al true false false true 13 0x400f) ∧
    decodeTableWord 32 0xEAFFFFFE = some (.b .al 0xfffffe) ∧
    decodeTableWord 32 0xEB00003E = some (.bl .al 0x3e) := by
  decide +kernel

theorem test_decode_system :
    decodeTableWord 32 0xEE07CF90 = some (.wfi .al 12) ∧
    decodeTableWord 32 0xE14F0000 = some (.mrs .al true 0) ∧
    decodeTableWord 32 0xE121F000 = some (.msrReg .al false 1 0) ∧
    decodeTableWord 32 0xE328F20F = some (.msrImm .al false 8 2 15) ∧
    decodeTableWord 32 0xE7F000F0 = some (.undSpace .al 0xf8007 0) ∧
    decodeTableWord 32 0xEF000005 = some (.swi .al 5) ∧
    decodeTableWord 32 0xEE000100 = some (.cdp .al 0 0 0 1 0 0) ∧
    decodeTableWord 32 0xEE010F10 = some (.mcr .al 0 1 0 15 0 0) ∧
    decodeTableWord 32 0xEE100F10 = some (.mrc .al 0 0 0 15 0 0) ∧
    decodeTableWord 32 0xED900200 = some (.ldc .al true true false false 0 0 2 0) ∧
    decodeTableWord 32 0xED800200 = some (.stc .al true true false false 0 0 2 0) ∧
    decodeTableWord 32 0xE12FFF30 = some (.undOther .al 0x12fff30) := by
  decide +kernel

theorem test_decode_halfword_and_swap :
    decodeTableWord 32 0xE1020091 = some (.swp .al 2 0 1) ∧
    decodeTableWord 32 0xE1420091 = some (.swpb .al 2 0 1) ∧
    decodeTableWord 32 0xE086C3B1 = some (.strhReg .al false true false 6 12 3 1) ∧
    decodeTableWord 32 0xE1C100B2 = some (.strhImm .al true true false 1 0 0 2) ∧
    decodeTableWord 32 0xE19100B2 = some (.ldrhReg .al true true false 1 0 0 2) ∧
    decodeTableWord 32 0xE1D100B2 = some (.ldrhImm .al true true false 1 0 0 2) ∧
    decodeTableWord 32 0xE19100D2 = some (.ldrsbReg .al true true false 1 0 0 2) ∧
    decodeTableWord 32 0xE1D100D1 = some (.ldrsbImm .al true true false 1 0 0 1) ∧
    decodeTableWord 32 0xE096C3F1 = some (.ldrshReg .al false true false 6 12 3 1) ∧
    decodeTableWord 32 0xE05100F2 = some (.ldrshImm .al false false false 1 0 0 2) := by
  decide +kernel

theorem test_decode_multiply :
    decodeTableWord 32 0xE0000291 = some (.mul .al false 0 0 2 1) ∧
    decodeTableWord 32 0xE0203291 = some (.mla .al false 0 3 2 1) ∧
    decodeTableWord 32 0xE0810392 = some (.umull .al false 1 0 3 2) ∧
    decodeTableWord 32 0xE0A10392 = some (.umlal .al false 1 0 3 2) ∧
    decodeTableWord 32 0xE0C10392 = some (.smull .al false 1 0 3 2) ∧
    decodeTableWord 32 0xE0E10392 = some (.smlal .al false 1 0 3 2) := by
  decide +kernel

theorem test_decode_data_processing_immediate :
    decodeTableWord 32 0xE216C371 = some (.andImm .al true 6 12 3 0x71) ∧
    decodeTableWord 32 0xE236C371 = some (.eorImm .al true 6 12 3 0x71) ∧
    decodeTableWord 32 0xE2500001 = some (.subImm .al true 0 0 0 1) ∧
    decodeTableWord 32 0xE2710000 = some (.rsbImm .al true 1 0 0 0) ∧
    decodeTableWord 32 0xE2811001 = some (.addImm .al false 1 1 0 1) ∧
    decodeTableWord 32 0xE2B6C371 = some (.adcImm .al true 6 12 3 0x71) ∧
    decodeTableWord 32 0xE2D6C371 = some (.sbcImm .al true 6 12 3 0x71) ∧
    decodeTableWord 32 0xE2E10000 = some (.rscImm .al false 1 0 0 0) ∧
    decodeTableWord 32 0xE3100001 = some (.tstImm .al 0 0 0 1) ∧
    decodeTableWord 32 0xE336C371 = some (.teqImm .al 6 12 3 0x71) ∧
    decodeTableWord 32 0xE350000A = some (.cmpImm .al 0 0 0 10) ∧
    decodeTableWord 32 0xE3700001 = some (.cmnImm .al 0 0 0 1) ∧
    decodeTableWord 32 0xE3800102 = some (.orrImm .al false 0 0 1 2) ∧
    decodeTableWord 32 0xE3A00E3F = some (.movImm .al false 0 0 14 0x3f) ∧
    decodeTableWord 32 0xE3C0001F = some (.bicImm .al false 0 0 0 0x1f) ∧
    decodeTableWord 32 0xE3F00000 = some (.mvnImm .al true 0 0 0 0) := by
  decide +kernel

theorem test_decode_data_processing_register :
    decodeTableWord 32 0xE0010002 = some (.andReg .al false 1 0 0 .lsl 2) ∧
    decodeTableWord 32 0xE0233104 = some (.eorReg .al false 3 3 2 .lsl 4) ∧
    decodeTableWord 32 0xE0510002 = some (.subReg .al true 1 0 0 .lsl 2) ∧
    decodeTableWord 32 0xE076C361 = some (.rsbReg .al true 6 12 6 .ror 1) ∧
    decodeTableWord 32 0xE0910002 = some (.addReg .al true 1 0 0 .lsl 2) ∧
    decodeTableWord 32 0xE0B44005 = some (.adcReg .al true 4 4 0 .lsl 5) ∧
    decodeTableWord 32 0xE0C10002 = some (.sbcReg .al false 1 0 0 .lsl 2) ∧
    decodeTableWord 32 0xE0F6C361 = some (.rscReg .al true 6 12 6 .ror 1) ∧
    decodeTableWord 32 0xE116C361 = some (.tstReg .al 6 12 6 .ror 1) ∧
    decodeTableWord 32 0xE1310002 = some (.teqReg .al 1 0 0 .lsl 2) ∧
    decodeTableWord 32 0xE1510002 = some (.cmpReg .al 1 0 0 .lsl 2) ∧
    decodeTableWord 32 0xE1710002 = some (.cmnReg .al 1 0 0 .lsl 2) ∧
    decodeTableWord 32 0xE1810002 = some (.orrReg .al false 1 0 0 .lsl 2) ∧
    decodeTableWord 32 0xE1B0F00E = some (.movReg .al true 0 15 0 .lsl 14) ∧
    decodeTableWord 32 0xE1D6C361 = some (.bicReg .al true 6 12 6 .ror 1) ∧
    decodeTableWord 32 0xE1F6C361 = some (.mvnReg .al true 6 12 6 .ror 1) := by
  decide +kernel

theorem test_decode_data_processing_register_shift :
    decodeTableWord 32 0xE016C371 = some (.andRsr .al true 6 12 3 .ror 1) ∧
    decodeTableWord 32 0xE036C371 = some (.eorRsr .al true 6 12 3 .ror 1) ∧
    decodeTableWord 32 0xE056C371 = some (.subRsr .al true 6 12 3 .ror 1) ∧
    decodeTableWord 32 0xE076C371 = some (.rsbRsr .al true 6 12 3 .ror 1) ∧
    decodeTableWord 32 0xE0810312 = some (.addRsr .al false 1 0 3 .lsl 2) ∧
    decodeTableWord 32 0xE0B6C371 = some (.adcRsr .al true 6 12 3 .ror 1) ∧
    decodeTableWord 32 0xE0D6C371 = some (.sbcRsr .al true 6 12 3 .ror 1) ∧
    decodeTableWord 32 0xE0F6C371 = some (.rscRsr .al true 6 12 3 .ror 1) ∧
    decodeTableWord 32 0xE116C371 = some (.tstRsr .al 6 12 3 .ror 1) ∧
    decodeTableWord 32 0xE136C371 = some (.teqRsr .al 6 12 3 .ror 1) ∧
    decodeTableWord 32 0xE156C371 = some (.cmpRsr .al 6 12 3 .ror 1) ∧
    decodeTableWord 32 0xE176C371 = some (.cmnRsr .al 6 12 3 .ror 1) ∧
    decodeTableWord 32 0xE196C371 = some (.orrRsr .al true 6 12 3 .ror 1) ∧
    decodeTableWord 32 0xE1B00211 = some (.movRsr .al true 0 0 2 .lsl 1) ∧
    decodeTableWord 32 0xE1D6C371 = some (.bicRsr .al true 6 12 3 .ror 1) ∧
    decodeTableWord 32 0xE1F6C371 = some (.mvnRsr .al true 6 12 3 .ror 1) := by
  decide +kernel

theorem test_decode_single_transfer :
    decodeTableWord 32 0xE4B10004 = some (.ldrtImm .al true 1 0 4) ∧
    decodeTableWord 32 0xE6B6C361 = some (.ldrtReg .al true 6 12 6 .ror 1) ∧
    decodeTableWord 32 0xE4A10004 = some (.strtImm .al true 1 0 4) ∧
    decodeTableWord 32 0xE6A6C361 = some (.strtReg .al true 6 12 6 .ror 1) ∧
    decodeTableWord 32 0xE4F10004 = some (.ldrbtImm .al true 1 0 4) ∧
    decodeTableWord 32 0xE6F6C361 = some (.ldrbtReg .al true 6 12 6 .ror 1) ∧
    decodeTableWord 32 0xE4E10004 = some (.strbtImm .al true 1 0 4) ∧
    decodeTableWord 32 0xE6E00000 = some (.strbtReg .al true 0 0 0 .lsl 0) ∧
    decodeTableWord 32 0xE5910004 = some (.ldrImm .al true true false 1 0 4) ∧
    decodeTableWord 32 0xE6110102 = some (.ldrReg .al false false false 1 0 2 .lsl 2) ∧
    decodeTableWord 32 0xE4810004 = some (.strImm .al false true false 1 0 4) ∧
    decodeTableWord 32 0xE686C361 = some (.strReg .al false true false 6 12 6 .ror 1) ∧
    decodeTableWord 32 0xE5D10003 = some (.ldrbImm .al true true false 1 0 3) ∧
    decodeTableWord 32 0xE7532004 = some (.ldrbReg .al true false false 3 2 0 .lsl 4) ∧
    decodeTableWord 32 0xE5E10001 = some (.strbImm .al true true true 1 0 1) ∧
    decodeTableWord 32 0xE6C6C361 = some (.strbReg .al false true false 6 12 6 .ror 1) := by
  decide +kernel

theorem test_decode_compact_formats_1_to_3 :
    decodeTableWord 16 0x0088 = some (.tLslImm 2 1 0) ∧
    decodeTableWord 16 0x0848 = some (.tLsrImm 1 1 0) ∧
    decodeTableWord 16 0x17DA = some (.tAsrImm 0x1f 3 2) ∧
    decodeTableWord 16 0x1888 = some (.tAddReg 2 1 0) ∧
    decodeTableWord 16 0x1A88 = some (.tSubReg 2 1 0) ∧
    decodeTableWord 16 0x1CC8 = some (.tAddImm3 3 1 0) ∧
    decodeTableWord 16 0x1EC8 = some (.tSubImm3 3 1 0) ∧
    decodeTableWord 16 0x20FF = some (.tMovImm8 0 0xff) ∧
    decodeTableWord 16 0x2905 = some (.tCmpImm8 1 5) ∧
    decodeTableWord 16 0x3201 = some (.tAddImm8 2 1) ∧
    decodeTableWord 16 0x3A01 = some (.tSubImm8 2 1) := by
  decide +kernel

theorem test_decode_compact_formats_4_and_5 :
    decodeTableWord 16 0x4008 = some (.tAnd 1 0) ∧
    decodeTableWord 16 0x4048 = some (.tEor 1 0) ∧
    decodeTableWord 16 0x4088 = some (.tLslReg 1 0) ∧
    decodeTableWord 16 0x40C8 = some (.tLsrReg 1 0) ∧
    decodeTableWord 16 0x4108 = some (.tAsrReg 1 0) ∧
    decodeTableWord 16 0x4148 = some (.tAdc 1 0) ∧
    decodeTableWord 16 0x4188 = some (.tSbc 1 0) ∧
    decodeTableWord 16 0x41C8 = some (.tRorReg 1 0) ∧
    decodeTableWord 16 0x4208 = some (.tTst 1 0) ∧
    decodeTableWord 16 0x4248 = some (.tNeg 1 0) ∧
    decodeTableWord 16 0x4288 = some (.tCmpReg 1 0) ∧
    decodeTableWord 16 0x42C8 = some (.tCmn 1 0) ∧
    decodeTableWord 16 0x4308 = some (.tOrr 1 0) ∧
    decodeTableWord 16 0x4348 = some (.tMul 1 0) ∧
    decodeTableWord 16 0x4388 = some (.tBic 1 0) ∧
    decodeTableWord 16 0x43C8 = some (.tMvn 1 0) ∧
    decodeTableWord 16 0x4488 = some (.tAddHi 8 1) ∧
    decodeTableWord 16 0x4541 = some (.tCmpHi 1 8) ∧
    decodeTableWord 16 0x46C0 = some (.tMovHi 8 8) ∧
    decodeTableWord 16 0x4770 = some (.tBx 14 0) := by
  decide +kernel

theorem test_decode_compact_transfers :
    decodeTableWord 16 0x4801 = some (.tLdrPc 0 1) ∧
    decodeTableWord 16 0x5088 = some (.tStrReg 2 1 0) ∧
    decodeTableWord 16 0x5488 = some (.tStrbReg 2 1 0) ∧
    decodeTableWord 16 0x5888 = some (.tLdrReg 2 1 0) ∧
    decodeTableWord 16 0x5C88 = some (.tLdrbReg 2 1 0) ∧
    decodeTableWord 16 0x5288 = some (.tStrhReg 2 1 0) ∧
    decodeTableWord 16 0x5688 = some (.tLdsbReg 2 1 0) ∧
    decodeTableWord 16 0x5A88 = some (.tLdrhReg 2 1 0) ∧
    decodeTableWord 16 0x5E88 = some (.tLdshReg 2 1 0) ∧
    decodeTableWord 16 0x6048 = some (.tStrImm 1 1 0) ∧
    decodeTableWord 16 0x6848 = some (.tLdrImm 1 1 0) ∧
    decodeTableWord 16 0x7048 = some (.tStrbImm 1 1 0) ∧
    decodeTableWord 16 0x7848 = some (.tLdrbImm 1 1 0) ∧
    decodeTableWord 16 0x8048 = some (.tStrhImm 1 1 0) ∧
    decodeTableWord 16 0x8848 = some (.tLdrhImm 1 1 0) ∧
    decodeTableWord 16 0x9001 = some (.tStrSp 0 1) ∧
    decodeTableWord 16 0x9801 = some (.tLdrSp 0 1) := by
  decide +kernel

theorem test_decode_compact_formats_12_to_19 :
    decodeTableWord 16 0xA002 = some (.tAddPc 0 2) ∧
    decodeTableWord 16 0xA904 = some (.tAddSp 1 4) ∧
    decodeTableWord 16 0xB002 = some (.tAddSpImm 2) ∧
    decodeTableWord 16 0xB082 = some (.tSubSpImm 2) ∧
    decodeTableWord 16 0xB503 = some (.tPush true 3) ∧
    decodeTableWord 16 0xBD03 = some (.tPop true 3) ∧
    decodeTableWord 16 0xC006 = some (.tStmia 0 6) ∧
    decodeTableWord 16 0xC806 = some (.tLdmia 0 6) ∧
    decodeTableWord 16 0xDF05 = some (.tSwi 5) ∧
    decodeTableWord 16 0xDEFF = some (.tUndCond 0xff) ∧
    decodeTableWord 16 0xD1FD = some (.tBcond .ne 0xfd) ∧
    decodeTableWord 16 0xE7FE = some (.tB 0x7fe) ∧
    decodeTableWord 16 0xF010 = some (.tBlHi 0x10) ∧
    decodeTableWord 16 0xF87E = some (.tBlLo 0x7e) ∧
    decodeTableWord 16 0xB100 = some (.tUndOther 0xb100) := by
  decide +kernel

/-! ## One step each: the vectors of spec/95_test_vectors.md, named by their row -/

theorem test_add_V1 : shows (given 32 0xE0910002 0x1F [(1, 0x7FFFFFFF), (2, 1)] []) (fun t =>
        t.core.time == 1 &&
        t.getMode t.core.cpsr.mode 0 == 0x80000000 &&
        t.core.cpsr.toWord.extractLsb' 28 4 == 0b1001 &&
        t.pc == 0x3000104) = true := by decide +kernel

theorem test_sub_V3 : shows (given 32 0xE2510001 0x1F [(1, 0)] []) (fun t =>
        t.core.time == 1 &&
        t.getMode t.core.cpsr.mode 0 == 0xFFFFFFFF &&
        t.core.cpsr.toWord.extractLsb' 28 4 == 0b1000 &&
        t.pc == 0x3000104) = true := by decide +kernel

theorem test_adc_V6 : shows (given 32 0xE0A10002 0x2000001F [(1, 5), (2, 6)] []) (fun t =>
        t.core.time == 1 &&
        t.getMode t.core.cpsr.mode 0 == 0xC &&
        t.core.cpsr.toWord.extractLsb' 28 4 == 0b0010 &&
        t.pc == 0x3000104) = true := by decide +kernel

theorem test_sbc_V7 : shows (given 32 0xE0D10002 0x1F [(1, 5), (2, 5)] []) (fun t =>
        t.core.time == 1 &&
        t.getMode t.core.cpsr.mode 0 == 0xFFFFFFFF &&
        t.core.cpsr.toWord.extractLsb' 28 4 == 0b1000 &&
        t.pc == 0x3000104) = true := by decide +kernel

theorem test_rsb_V9 : shows (given 32 0xE2710000 0x1F [(1, 1)] []) (fun t =>
        t.core.time == 1 &&
        t.getMode t.core.cpsr.mode 0 == 0xFFFFFFFF &&
        t.core.cpsr.toWord.extractLsb' 28 4 == 0b1000 &&
        t.pc == 0x3000104) = true := by decide +kernel

theorem test_rsc_V10 : shows (given 32 0xE2F10000 0x1F [(1, 0)] []) (fun t =>
        t.core.time == 1 &&
        t.getMode t.core.cpsr.mode 0 == 0xFFFFFFFF &&
        t.core.cpsr.toWord.extractLsb' 28 4 == 0b1000 &&
        t.pc == 0x3000104) = true := by decide +kernel

theorem test_cmp_V11 : shows (given 32 0xE1510002 0x1F [(0, 0x55), (1, 7), (2, 7)] []) (fun t =>
        t.core.time == 1 &&
        t.getMode t.core.cpsr.mode 0 == 0x55 &&
        t.core.cpsr.toWord.extractLsb' 28 4 == 0b0110 &&
        t.pc == 0x3000104) = true := by decide +kernel

theorem test_cmn_V12 : shows (given 32 0xE1710002 0x1F [(1, 0xFFFFFFFF), (2, 1)] []) (fun t =>
        t.core.time == 1 &&
        t.core.cpsr.toWord.extractLsb' 28 4 == 0b0110 &&
        t.pc == 0x3000104) = true := by decide +kernel

theorem test_tst_V13 : shows (given 32 0xE3110102 0x1F [(1, 0x80000000)] []) (fun t =>
        t.core.time == 1 &&
        t.core.cpsr.toWord.extractLsb' 28 4 == 0b1010 &&
        t.pc == 0x3000104) = true := by decide +kernel

theorem test_teq_V14 : shows (given 32 0xE1310002 0x2000001F [(1, 0x1234), (2, 0x1234)] []) (fun t =>
        t.core.time == 1 &&
        t.core.cpsr.toWord.extractLsb' 28 4 == 0b0110 &&
        t.pc == 0x3000104) = true := by decide +kernel

theorem test_and_V15 : shows (given 32 0xE0110F82 0x1F [(1, 0xFFFFFFFF), (2, 3)] []) (fun t =>
        t.core.time == 1 &&
        t.getMode t.core.cpsr.mode 0 == 0x80000000 &&
        t.core.cpsr.toWord.extractLsb' 28 4 == 0b1010 &&
        t.pc == 0x3000104) = true := by decide +kernel

theorem test_mov_V16 : shows (given 32 0xE1B00001 0x2000001F [(1, 0x80000000)] []) (fun t =>
        t.core.time == 1 &&
        t.getMode t.core.cpsr.mode 0 == 0x80000000 &&
        t.core.cpsr.toWord.extractLsb' 28 4 == 0b1010 &&
        t.pc == 0x3000104) = true := by decide +kernel

theorem test_mvn_V31 : shows (given 32 0xE3F00000 0x1F [] []) (fun t =>
        t.core.time == 1 &&
        t.getMode t.core.cpsr.mode 0 == 0xFFFFFFFF &&
        t.core.cpsr.toWord.extractLsb' 28 4 == 0b1000 &&
        t.pc == 0x3000104) = true := by decide +kernel

theorem test_bic_V32 : shows (given 32 0xE3D100FF 0x1F [(1, 0x1FF)] []) (fun t =>
        t.core.time == 1 &&
        t.getMode t.core.cpsr.mode 0 == 0x100 &&
        t.core.cpsr.toWord.extractLsb' 28 4 == 0b0000 &&
        t.pc == 0x3000104) = true := by decide +kernel

theorem test_orr_V33 : shows (given 32 0xE1810002 0x1F [(1, 0xF0), (2, 0xF)] []) (fun t =>
        t.core.time == 1 &&
        t.getMode t.core.cpsr.mode 0 == 0xFF &&
        t.core.cpsr.toWord.extractLsb' 28 4 == 0b0000 &&
        t.pc == 0x3000104) = true := by decide +kernel

theorem test_eor_V34 : shows (given 32 0xE0210001 0x1F [(0, 9), (1, 0xABCD)] []) (fun t =>
        t.core.time == 1 &&
        t.getMode t.core.cpsr.mode 0 == 0 &&
        t.core.cpsr.toWord.extractLsb' 28 4 == 0b0000 &&
        t.pc == 0x3000104) = true := by decide +kernel

theorem test_mul_V50 : shows (given 32 0xE0000291 0x1F [(1, 7), (2, 6)] []) (fun t =>
        t.core.time == 2 &&
        t.getMode t.core.cpsr.mode 0 == 0x2A &&
        t.core.cpsr.toWord.extractLsb' 28 4 == 0b0000 &&
        t.pc == 0x3000104) = true := by decide +kernel

theorem test_mla_V53 : shows (given 32 0xE0203291 0x1F [(1, 3), (2, 4), (3, 5)] []) (fun t =>
        t.core.time == 3 &&
        t.getMode t.core.cpsr.mode 0 == 0x11 &&
        t.pc == 0x3000104) = true := by decide +kernel

theorem test_umull_V54 : shows (given 32 0xE0810392 0x1F [(2, 0xFFFFFFFF), (3, 0xFFFFFFFF)] []) (fun t =>
        t.core.time == 6 &&
        t.getMode t.core.cpsr.mode 0 == 1 &&
        t.getMode t.core.cpsr.mode 1 == 0xFFFFFFFE &&
        t.pc == 0x3000104) = true := by decide +kernel

theorem test_smull_V55 : shows (given 32 0xE0C10392 0x1F [(2, 0xFFFFFFFF), (3, 2)] []) (fun t =>
        t.core.time == 3 &&
        t.getMode t.core.cpsr.mode 0 == 0xFFFFFFFE &&
        t.getMode t.core.cpsr.mode 1 == 0xFFFFFFFF &&
        t.pc == 0x3000104) = true := by decide +kernel

theorem test_umlal_V58 : shows (given 32 0xE0A10392 0x1F [(0, 0xFFFFFFFF), (1, 0), (2, 1), (3, 1)] []) (fun t =>
        t.core.time == 4 &&
        t.getMode t.core.cpsr.mode 0 == 0 &&
        t.getMode t.core.cpsr.mode 1 == 1 &&
        t.pc == 0x3000104) = true := by decide +kernel

theorem test_smlal_V59 : shows (given 32 0xE0E10392 0x1F [(0, 1), (1, 0), (2, 0xFFFFFFFF), (3, 1)] []) (fun t =>
        t.core.time == 4 &&
        t.getMode t.core.cpsr.mode 0 == 0 &&
        t.getMode t.core.cpsr.mode 1 == 0 &&
        t.pc == 0x3000104) = true := by decide +kernel

theorem test_ldr_V70 : shows (given 32 0xE5910000 0x1F [(1, 0x3000000)] [(0x03000000, 0x11223344)]) (fun t =>
        t.core.time == 3 &&
        t.getMode t.core.cpsr.mode 0 == 0x11223344 &&
        t.pc == 0x3000104) = true := by decide +kernel

theorem test_ldrh_V74 : shows (given 32 0xE1D100B0 0x1F [(1, 0x3000000)] [(0x03000000, 0x1122F344)]) (fun t =>
        t.core.time == 3 &&
        t.getMode t.core.cpsr.mode 0 == 0xF344 &&
        t.pc == 0x3000104) = true := by decide +kernel

theorem test_ldrsh_V76 : shows (given 32 0xE1D100F0 0x1F [(1, 0x3000000)] [(0x03000000, 0x1122F344)]) (fun t =>
        t.core.time == 3 &&
        t.getMode t.core.cpsr.mode 0 == 0xFFFFF344 &&
        t.pc == 0x3000104) = true := by decide +kernel

theorem test_ldrsb_V78 : shows (given 32 0xE1D100D1 0x1F [(1, 0x3000000)] [(0x03000000, 0x1122F344)]) (fun t =>
        t.core.time == 3 &&
        t.getMode t.core.cpsr.mode 0 == 0xFFFFFFF3 &&
        t.pc == 0x3000104) = true := by decide +kernel

theorem test_ldrb_V79 : shows (given 32 0xE5D10003 0x1F [(1, 0x3000000)] [(0x03000000, 0x11223344)]) (fun t =>
        t.core.time == 3 &&
        t.getMode t.core.cpsr.mode 0 == 0x11 &&
        t.pc == 0x3000104) = true := by decide +kernel

theorem test_str_V80 : shows (given 32 0xE5810000 0x1F [(0, 0xAABBCCDD), (1, 0x3000003)] [(0x03000000, 0x11223344)]) (fun t =>
        t.core.time == 2 &&
        t.core.seq == false &&
        t.busValue (0x03000000, .word) == 0xAABBCCDD &&
        t.pc == 0x3000104) = true := by decide +kernel

theorem test_strh_V81 : shows (given 32 0xE1C100B0 0x1F [(0, 0xAABBCCDD), (1, 0x3000001)] [(0x03000000, 0x11223344)]) (fun t =>
        t.core.time == 2 &&
        t.busValue (0x03000000, .word) == 0x1122CCDD &&
        t.pc == 0x3000104) = true := by decide +kernel

theorem test_strb_V82 : shows (given 32 0xE5E10001 0x1F [(0, 0x1234), (1, 0x3000000)] [(0x03000000, 0x11223344)]) (fun t =>
        t.core.time == 2 &&
        t.getMode t.core.cpsr.mode 1 == 0x3000001 &&
        t.busValue (0x03000000, .word) == 0x11223444 &&
        t.pc == 0x3000104) = true := by decide +kernel

theorem test_swp_H1 : shows (given 32 0xE1020091 0x1F [(1, 0xAAAAAAAA), (2, 0x3000000)] [(0x03000000, 0x11223344)]) (fun t =>
        t.core.time == 4 &&
        t.getMode t.core.cpsr.mode 0 == 0x11223344 &&
        t.busValue (0x03000000, .word) == 0xAAAAAAAA &&
        t.pc == 0x3000104) = true := by decide +kernel

theorem test_swpb_H3 : shows (given 32 0xE1420091 0x1F [(1, 0xAAAAAAEE), (2, 0x3000001)] [(0x03000000, 0x11223344)]) (fun t =>
        t.core.time == 4 &&
        t.getMode t.core.cpsr.mode 0 == 0x33 &&
        t.busValue (0x03000000, .word) == 0x1122EE44 &&
        t.pc == 0x3000104) = true := by decide +kernel

theorem test_ldrt_H10 : shows (given 32 0xE4B10004 0x13 [(1, 0x3000000)] [(0x03000000, 0x11223344)]) (fun t =>
        t.core.time == 3 &&
        t.getMode t.core.cpsr.mode 0 == 0x11223344 &&
        t.getMode t.core.cpsr.mode 1 == 0x3000004 &&
        t.pc == 0x3000104) = true := by decide +kernel

theorem test_stm_V100 : shows (given 32 0xE92D400F 0x1F [(0, 0xA0), (1, 0xA1), (2, 0xA2), (3, 0xA3), (14, 0xAE)] []) (fun t =>
        t.core.time == 6 &&
        t.getMode t.core.cpsr.mode 13 == 0x3007EEC &&
        t.core.seq == false &&
        t.busValue (0x03007EEC, .word) == 0xA0 &&
        t.busValue (0x03007EF0, .word) == 0xA1 &&
        t.busValue (0x03007EF4, .word) == 0xA2 &&
        t.busValue (0x03007EF8, .word) == 0xA3 &&
        t.busValue (0x03007EFC, .word) == 0xAE &&
        t.pc == 0x3000104) = true := by decide +kernel

theorem test_ldm_V101 : shows (given 32 0xE8BD800F 0x1F [(13, 0x3007EEC)] [(0x03007EEC, 0xA0), (0x03007EF0, 0xA1), (0x03007EF4, 0xA2), (0x03007EF8, 0xA3), (0x03007EFC, 0x3000302)]) (fun t =>
        t.core.time == 9 &&
        t.getMode t.core.cpsr.mode 0 == 0xA0 &&
        t.getMode t.core.cpsr.mode 1 == 0xA1 &&
        t.getMode t.core.cpsr.mode 2 == 0xA2 &&
        t.getMode t.core.cpsr.mode 3 == 0xA3 &&
        t.getMode t.core.cpsr.mode 13 == 0x3007F00 &&
        t.pc == 0x3000300) = true := by decide +kernel

theorem test_b_V120 : shows (given 32 0xEA000000 0x1F [] []) (fun t =>
        t.core.time == 3 &&
        t.pc == 0x3000108) = true := by decide +kernel

theorem test_bl_V124 : shows (given 32 0xEB00003E 0x1F [] []) (fun t =>
        t.core.time == 3 &&
        t.pc == 0x3000200 &&
        t.getMode t.core.cpsr.mode 14 == 0x3000104) = true := by decide +kernel

theorem test_bx_V126 : shows (given 32 0xE12FFF10 0x1F [(0, 0x8000101)] []) (fun t =>
        t.core.time == 9 &&
        t.pc == 0x8000100 &&
        t.core.cpsr.toWord == 0x3F) = true := by decide +kernel

theorem test_swi_V140 : shows (given 32 0xEF000005 0x60000010 [] []) (fun t =>
        t.core.time == 3 &&
        t.pc == 8 &&
        t.core.cpsr.toWord == 0x60000093 &&
        t.getMode t.core.cpsr.mode 14 == 0x3000104 &&
        t.spsr.map Spsr.toWord == some 0x60000010) = true := by decide +kernel

theorem test_und_V141 : shows (given 32 0xE7F000F0 0x10 [] []) (fun t =>
        t.core.time == 4 &&
        t.pc == 4 &&
        t.core.cpsr.toWord == 0x9B &&
        t.getMode t.core.cpsr.mode 14 == 0x3000104 &&
        t.spsr.map Spsr.toWord == some 0x10) = true := by decide +kernel

theorem test_mcr_V142 : shows (given 32 0xEE010E10 0x1F [] []) (fun t =>
        t.core.time == 4 &&
        t.pc == 4 &&
        t.core.cpsr.toWord == 0x9B &&
        t.getMode t.core.cpsr.mode 14 == 0x3000104 &&
        t.spsr.map Spsr.toWord == some 0x1F) = true := by decide +kernel

theorem test_mrs_V145 : shows (given 32 0xE10F0000 0x60000093 [] []) (fun t =>
        t.core.time == 1 &&
        t.getMode t.core.cpsr.mode 0 == 0x60000093 &&
        t.pc == 0x3000104) = true := by decide +kernel

theorem test_msr_V147 : shows (given 32 0xE121F000 0x60000093 [(0, 0x92)] []) (fun t =>
        t.core.time == 1 &&
        t.core.cpsr.toWord == 0x60000092 &&
        t.getMode t.core.cpsr.mode 13 == 0x3007FA0 &&
        t.pc == 0x3000104) = true := by decide +kernel

theorem test_wfi_V151 : shows (given 32 0xEE070F90 0x1F [] []) (fun t =>
        t.core.time == 2 &&
        t.core.halted == true &&
        t.pc == 0x3000104) = true := by decide +kernel

theorem test_mrc_H37 : shows (given 32 0xEE100F10 0x1F [(0, 0x12345678)] []) (fun t =>
        t.core.time == 2 &&
        t.pc == 0x3000104) = true := by decide +kernel

theorem test_tlsl_V200 : shows (given 16 0x8 0x2000003F [(1, 0x80000000)] []) (fun t =>
        t.core.time == 1 &&
        t.getMode t.core.cpsr.mode 0 == 0x80000000 &&
        t.core.cpsr.toWord.extractLsb' 28 4 == 0b1010 &&
        t.pc == 0x3000102) = true := by decide +kernel

theorem test_tlsr_V202 : shows (given 16 0x808 0x3F [(1, 0x80000000)] []) (fun t =>
        t.core.time == 1 &&
        t.getMode t.core.cpsr.mode 0 == 0 &&
        t.core.cpsr.toWord.extractLsb' 28 4 == 0b0110 &&
        t.pc == 0x3000102) = true := by decide +kernel

theorem test_tasr_V203 : shows (given 16 0x1008 0x3F [(1, 0x80000000)] []) (fun t =>
        t.core.time == 1 &&
        t.getMode t.core.cpsr.mode 0 == 0xFFFFFFFF &&
        t.core.cpsr.toWord.extractLsb' 28 4 == 0b1010 &&
        t.pc == 0x3000102) = true := by decide +kernel

theorem test_tadd_V204 : shows (given 16 0x1888 0x3F [(1, 0x7FFFFFFF), (2, 1)] []) (fun t =>
        t.core.time == 1 &&
        t.getMode t.core.cpsr.mode 0 == 0x80000000 &&
        t.core.cpsr.toWord.extractLsb' 28 4 == 0b1001 &&
        t.pc == 0x3000102) = true := by decide +kernel

theorem test_tsub_V205 : shows (given 16 0x1A88 0x3F [(1, 0), (2, 1)] []) (fun t =>
        t.core.time == 1 &&
        t.getMode t.core.cpsr.mode 0 == 0xFFFFFFFF &&
        t.core.cpsr.toWord.extractLsb' 28 4 == 0b1000 &&
        t.pc == 0x3000102) = true := by decide +kernel

theorem test_tmov_V208 : shows (given 16 0x20FF 0xF000003F [] []) (fun t =>
        t.core.time == 1 &&
        t.getMode t.core.cpsr.mode 0 == 0xFF &&
        t.core.cpsr.toWord.extractLsb' 28 4 == 0b0011 &&
        t.pc == 0x3000102) = true := by decide +kernel

theorem test_tcmp_V209 : shows (given 16 0x2805 0x3F [(0, 5)] []) (fun t =>
        t.core.time == 1 &&
        t.getMode t.core.cpsr.mode 0 == 5 &&
        t.core.cpsr.toWord.extractLsb' 28 4 == 0b0110 &&
        t.pc == 0x3000102) = true := by decide +kernel

theorem test_tand_V212 : shows (given 16 0x4008 0x3F [(0, 0xF0F0), (1, 0xFF00)] []) (fun t =>
        t.core.time == 1 &&
        t.getMode t.core.cpsr.mode 0 == 0xF000 &&
        t.core.cpsr.toWord.extractLsb' 28 4 == 0b0000 &&
        t.pc == 0x3000102) = true := by decide +kernel

theorem test_teor_V213 : shows (given 16 0x4048 0x2000003F [(0, 0x1234), (1, 0x1234)] []) (fun t =>
        t.core.time == 1 &&
        t.getMode t.core.cpsr.mode 0 == 0 &&
        t.core.cpsr.toWord.extractLsb' 28 4 == 0b0110 &&
        t.pc == 0x3000102) = true := by decide +kernel

theorem test_tadc_V217 : shows (given 16 0x4148 0x2000003F [(0, 1), (1, 2)] []) (fun t =>
        t.core.time == 1 &&
        t.getMode t.core.cpsr.mode 0 == 4 &&
        t.core.cpsr.toWord.extractLsb' 28 4 == 0b0000 &&
        t.pc == 0x3000102) = true := by decide +kernel

theorem test_tsbc_V218 : shows (given 16 0x4188 0x3F [(0, 5), (1, 5)] []) (fun t =>
        t.core.time == 1 &&
        t.getMode t.core.cpsr.mode 0 == 0xFFFFFFFF &&
        t.core.cpsr.toWord.extractLsb' 28 4 == 0b1000 &&
        t.pc == 0x3000102) = true := by decide +kernel

theorem test_tror_V219 : shows (given 16 0x41C8 0x3F [(0, 0xF), (1, 4)] []) (fun t =>
        t.core.time == 2 &&
        t.getMode t.core.cpsr.mode 0 == 0xF0000000 &&
        t.core.cpsr.toWord.extractLsb' 28 4 == 0b1010 &&
        t.pc == 0x3000102) = true := by decide +kernel

theorem test_ttst_V220 : shows (given 16 0x4208 0x3F [(0, 0xF0), (1, 0xF)] []) (fun t =>
        t.core.time == 1 &&
        t.getMode t.core.cpsr.mode 0 == 0xF0 &&
        t.core.cpsr.toWord.extractLsb' 28 4 == 0b0100 &&
        t.pc == 0x3000102) = true := by decide +kernel

theorem test_tneg_V221 : shows (given 16 0x4248 0x3F [(1, 1)] []) (fun t =>
        t.core.time == 1 &&
        t.getMode t.core.cpsr.mode 0 == 0xFFFFFFFF &&
        t.core.cpsr.toWord.extractLsb' 28 4 == 0b1000 &&
        t.pc == 0x3000102) = true := by decide +kernel

theorem test_tcmn_V224 : shows (given 16 0x42C8 0x3F [(0, 1), (1, 0xFFFFFFFF)] []) (fun t =>
        t.core.time == 1 &&
        t.getMode t.core.cpsr.mode 0 == 1 &&
        t.core.cpsr.toWord.extractLsb' 28 4 == 0b0110 &&
        t.pc == 0x3000102) = true := by decide +kernel

theorem test_torr_V225 : shows (given 16 0x4308 0x3F [(0, 0xF0), (1, 0xF)] []) (fun t =>
        t.core.time == 1 &&
        t.getMode t.core.cpsr.mode 0 == 0xFF &&
        t.core.cpsr.toWord.extractLsb' 28 4 == 0b0000 &&
        t.pc == 0x3000102) = true := by decide +kernel

theorem test_tmul_V226 : shows (given 16 0x4348 0x3F [(0, 0x10000), (1, 0x10000)] []) (fun t =>
        t.core.time == 4 &&
        t.getMode t.core.cpsr.mode 0 == 0 &&
        t.pc == 0x3000102) = true := by decide +kernel

theorem test_tbic_V227 : shows (given 16 0x4388 0x3F [(0, 0xFF), (1, 0xF)] []) (fun t =>
        t.core.time == 1 &&
        t.getMode t.core.cpsr.mode 0 == 0xF0 &&
        t.core.cpsr.toWord.extractLsb' 28 4 == 0b0000 &&
        t.pc == 0x3000102) = true := by decide +kernel

theorem test_tmvn_V228 : shows (given 16 0x43C8 0x3F [(1, 0)] []) (fun t =>
        t.core.time == 1 &&
        t.getMode t.core.cpsr.mode 0 == 0xFFFFFFFF &&
        t.core.cpsr.toWord.extractLsb' 28 4 == 0b1000 &&
        t.pc == 0x3000102) = true := by decide +kernel

theorem test_tldr_V250 : shows (given 16 0x4801 0x3F [] [(0x03000108, 0xCAFEBABE)]) (fun t =>
        t.core.time == 3 &&
        t.getMode t.core.cpsr.mode 0 == 0xCAFEBABE &&
        t.pc == 0x3000102) = true := by decide +kernel

theorem test_tstr_V251 : shows (given 16 0x5088 0x3F [(0, 0xAABBCCDD), (1, 0x3000000), (2, 3)] [(0x03000000, 0x11223344)]) (fun t =>
        t.core.time == 2 &&
        t.busValue (0x03000000, .word) == 0xAABBCCDD &&
        t.pc == 0x3000102) = true := by decide +kernel

theorem test_tstrb_V252 : shows (given 16 0x5488 0x3F [(0, 0xAABBCCDD), (1, 0x3000000), (2, 3)] [(0x03000000, 0x11223344)]) (fun t =>
        t.core.time == 2 &&
        t.busValue (0x03000000, .word) == 0xDD223344 &&
        t.pc == 0x3000102) = true := by decide +kernel

theorem test_tldrb_V254 : shows (given 16 0x5C88 0x3F [(1, 0x3000000), (2, 1)] [(0x03000000, 0x11223344)]) (fun t =>
        t.core.time == 3 &&
        t.getMode t.core.cpsr.mode 0 == 0x33 &&
        t.pc == 0x3000102) = true := by decide +kernel

theorem test_tstrh_V255 : shows (given 16 0x5288 0x3F [(0, 0xBEEF), (1, 0x3000000), (2, 2)] [(0x03000000, 0x11223344)]) (fun t =>
        t.core.time == 2 &&
        t.busValue (0x03000000, .word) == 0xBEEF3344 &&
        t.pc == 0x3000102) = true := by decide +kernel

theorem test_tldsb_V256 : shows (given 16 0x5688 0x3F [(1, 0x3000000), (2, 1)] [(0x03000000, 0x1122F344)]) (fun t =>
        t.core.time == 3 &&
        t.getMode t.core.cpsr.mode 0 == 0xFFFFFFF3 &&
        t.pc == 0x3000102) = true := by decide +kernel

theorem test_tldrh_V257 : shows (given 16 0x5A88 0x3F [(1, 0x3000000), (2, 1)] [(0x03000000, 0x1122F344)]) (fun t =>
        t.core.time == 3 &&
        t.getMode t.core.cpsr.mode 0 == 0x440000F3 &&
        t.pc == 0x3000102) = true := by decide +kernel

theorem test_tldsh_V258 : shows (given 16 0x5E88 0x3F [(1, 0x3000000), (2, 0)] [(0x03000000, 0x1122F344)]) (fun t =>
        t.core.time == 3 &&
        t.getMode t.core.cpsr.mode 0 == 0xFFFFF344 &&
        t.pc == 0x3000102) = true := by decide +kernel

theorem test_tpush_V268 : shows (given 16 0xB501 0x3F [(0, 0x11), (14, 0x22)] []) (fun t =>
        t.core.time == 3 &&
        t.getMode t.core.cpsr.mode 13 == 0x3007EF8 &&
        t.core.seq == false &&
        t.busValue (0x03007EF8, .word) == 0x11 &&
        t.busValue (0x03007EFC, .word) == 0x22 &&
        t.pc == 0x3000102) = true := by decide +kernel

theorem test_tpop_V269 : shows (given 16 0xBD01 0x3F [(13, 0x3007EF8)] [(0x03007EF8, 0x11), (0x03007EFC, 0x3000201)]) (fun t =>
        t.core.time == 6 &&
        t.getMode t.core.cpsr.mode 0 == 0x11 &&
        t.getMode t.core.cpsr.mode 13 == 0x3007F00 &&
        t.pc == 0x3000200 &&
        t.core.cpsr.toWord == 0x3F) = true := by decide +kernel

theorem test_tstmia_V270 : shows (given 16 0xC003 0x3F [(0, 0x3000000), (1, 0x11)] []) (fun t =>
        t.core.time == 3 &&
        t.getMode t.core.cpsr.mode 0 == 0x3000008 &&
        t.busValue (0x03000000, .word) == 0x3000000 &&
        t.busValue (0x03000004, .word) == 0x11 &&
        t.pc == 0x3000102) = true := by decide +kernel

theorem test_tldmia_V272 : shows (given 16 0xC803 0x3F [(0, 0x3000000)] [(0x03000000, 0x77), (0x03000004, 0x88)]) (fun t =>
        t.core.time == 4 &&
        t.getMode t.core.cpsr.mode 0 == 0x77 &&
        t.getMode t.core.cpsr.mode 1 == 0x88 &&
        t.pc == 0x3000102) = true := by decide +kernel

theorem test_tbcond_V280 : shows (given 16 0xD000 0x4000003F [] []) (fun t =>
        t.core.time == 3 &&
        t.pc == 0x3000104) = true := by decide +kernel

theorem test_tswi_V284 : shows (given 16 0xDF01 0x30 [] []) (fun t =>
        t.core.time == 3 &&
        t.pc == 8 &&
        t.core.cpsr.toWord == 0x93 &&
        t.getMode t.core.cpsr.mode 14 == 0x3000102 &&
        t.spsr.map Spsr.toWord == some 0x30) = true := by decide +kernel

theorem test_tund_V285 : shows (given 16 0xDE00 0x3F [] []) (fun t =>
        t.core.time == 4 &&
        t.pc == 4 &&
        t.core.cpsr.toWord == 0x9B &&
        t.getMode t.core.cpsr.mode 14 == 0x3000102 &&
        t.spsr.map Spsr.toWord == some 0x3F) = true := by decide +kernel

theorem test_tb_V287 : shows (given 16 0xE7FE 0x3F [] []) (fun t =>
        t.core.time == 3 &&
        t.pc == 0x3000100) = true := by decide +kernel

theorem test_tbl_V291 : shows (given 16 0xF000 0x3F [] []) (fun t =>
        t.core.time == 1 &&
        t.pc == 0x3000102 &&
        t.getMode t.core.cpsr.mode 14 == 0x3000104) = true := by decide +kernel

theorem test_tbx_V294 : shows (given 16 0x4700 0x3F [(0, 0x8000102)] []) (fun t =>
        t.core.time == 15 &&
        t.pc == 0x8000100 &&
        t.core.cpsr.toWord == 0x1F) = true := by decide +kernel

/-! ## Steps that are not an instruction of the vectors -/

/-- R414, R447: a deliverable interrupt wakes a halted core and saves the next instruction's address plus 4. -/
theorem test_interrupt_entry :
    shows ((sys.setHalted true).setIrq ⟨8, 8, true⟩) (fun t =>
      t.pc == 0x18 && t.core.cpsr.toWord == 0x92 && t.getMode .irq 14 == 0x03000104 && !t.core.halted &&
      t.spsr.map Spsr.toWord == some 0x1F && t.irq.pending == 8) = true := by decide +kernel

/-- R484, R485: timer 0 overflows, reloads, requests source 3 and increments timer 1. -/
theorem test_timer_overflow :
    ((sys.setTimer 0 { Timer.reset with counter := 0xFFFF, reload := 0x1234, enable := true, irqEn := true }).setTimer 1
      { Timer.reset with counter := 7, cascade := true, enable := true }).tickTimers.timers[1].counter = 8 ∧
    ((sys.setTimer 0 { Timer.reset with counter := 0xFFFF, reload := 0x1234, enable := true, irqEn := true }).setTimer 1
      { Timer.reset with counter := 7, cascade := true, enable := true }).tickTimers.timers[0].counter = 0x1234 ∧
    ((sys.setTimer 0 { Timer.reset with counter := 0xFFFF, reload := 0x1234, enable := true, irqEn := true }).setTimer 1
      { Timer.reset with counter := 7, cascade := true, enable := true }).tickTimers.irq.pending = 8 := by decide +kernel

/-- A channel armed for one word from IWRAM to EWRAM, immediate, with interrupt (R504). -/
def armed : State :=
  sys.setDma 3 { DmaChannel.reset with cntH := 0xC400, src := 0x03001000, dst := 0x02000000, cnt := 1, req := true }

/-- R467, R507, R510, R513: the transfer runs instead of the instruction, costs 2 + 1 + 6, and disarms. -/
theorem test_dma_step :
    shows armed (fun t => t.busValue (0x02000000, .word) == 0x11223344 && t.dma[3].cntH == 0x4400 && !t.dma[3].req &&
      t.irq.pending == 0x0800 && t.core.time == 9 && t.pc == armed.pc) = true := by decide +kernel

/-- R263, R444: `MSR CPSR_c` in User mode traps, or is dropped. -/
theorem test_privilege :
    shows (given 32 0xE121F000 0x10 [(0, 0x13)] []) (fun t => t.pc == 4 && t.core.cpsr.mode == .und) = true ∧
    shows { given 32 0xE121F000 0x10 [(0, 0x13)] [] with par := lenient.par } (fun t =>
      t.pc == 0x03000104 && t.core.cpsr.mode == .usr) = true := by decide +kernel

/-! ## Witnesses: for each obligation, what meets its hypotheses -/

theorem witness_EncodeDecode :
    (Instr.mcr .al 0 7 3 15 5 0).wf = true ∧ (Instr.tBcond .le 0xFF).wf = true ∧ (Instr.undOther .nv 0x1000050).wf = true ∧
    (Instr.strImm .al false true false 0 0 0xFFF).wf = true := by decide +kernel

theorem witness_UndefinedWords :
    (∃ c hi lo, decodeWord 0xE7F000F0 = .undSpace c hi lo) ∧
    (∃ c b, decodeWord 0xE0400090 = .undOther c b) ∧ (∃ c b, decodeWord 0xE1000050 = .undOther c b) ∧
    (∃ c b, decodeWord 0xE3000000 = .undOther c b) :=
  ⟨⟨.al, 0xF8007, 0, by decide +kernel⟩, ⟨.al, 0x400090, by decide +kernel⟩, ⟨.al, 0x1000050, by decide +kernel⟩,
    ⟨.al, 0x3000000, by decide +kernel⟩⟩

/-- Whether a compact word decodes to an undefined row. -/
def undefinedRow (h : Half) : Bool :=
  match decodeHalf h with
  | .tUndCond _ => true
  | .tUndOther _ => true
  | _ => false

/-- Both ends of every range of R159, and what lies just outside. -/
theorem witness_UndefinedHalfwords :
    (([0xB100, 0xB3FF, 0xB600, 0xBBFF, 0xBE00, 0xBFFF, 0xDE00, 0xDEFF, 0xE800, 0xEFFF, 0x4780, 0x47FF] : List Half).all
      undefinedRow = true) ∧
    (([0xB0FF, 0xB400, 0xB5FF, 0xBC00, 0xBDFF, 0xC000, 0xDDFF, 0xDF00, 0xE7FF, 0xF000, 0x477F, 0x4800] : List Half).all
      (fun h => !undefinedRow h) = true) ∧
    thumb.core.cpsr.t = true ∧ decodeHalf 0xB100 = .tUndOther 0xB100 ∧ decodeHalf 0xDEFF = .tUndCond 0xFF := by
  decide +kernel

theorem witness_ConditionTable : (13 : BitVec 4) < 14 ∧ decodeHalf 0xDDFF = .tBcond .le 0xFF := by decide +kernel

theorem witness_FalseCondition :
    (Instr.undOther .eq 0x1000050).cond = some .eq ∧ sys.core.cpsr.t = false ∧
    condHolds .eq sys.core.cpsr = false := by decide +kernel

/-- Amounts 0, 1 and 31, of `r15` and of another register. -/
theorem witness_ShiftByImmediate :
    sys.core.cpsr.t = false ∧ sys.pc + 8 = 0x03000108 ∧ sys.getMode sys.core.cpsr.mode 3 = 0x80000001 ∧
    (0 : BitVec 5) = 0 ∧ (1 : BitVec 5) ≠ 0 ∧ (31 : BitVec 5) ≠ 0 := by decide +kernel

/-- The amounts where the clauses meet. -/
theorem witness_ShiftByRegister :
    sys.core.cpsr.t = false ∧ (2 : Reg) ≠ 15 ∧
    ([0, 1, 31, 32, 33, 64, 255] : List Nat).all (fun k =>
      ((sys.setReg 2 (BitVec.ofNat 32 (256 + k))).getMode .sys 2).toNat % 256 == k) = true := by decide +kernel

theorem witness_LogicalInstructions :
    Ready (LogicOp.bic.instr .al true 1 0 (.rsr 2 .ror 15)) sys ∧ (0 : Reg) ≠ 15 ∧ Operand2.Allowed (.rsr 2 .ror 15) ∧
    Ready (LogicOp.mov.instr .al false 0 14 (.imm 15 0xFF)) sys :=
  ⟨ready_of (by decide +kernel), by decide, show (2 : Reg) ≠ 15 by decide, ready_of (by decide +kernel)⟩

theorem witness_ArithmeticInstructions :
    Ready (ArithOp.rsc.instr .ne true 15 3 (.reg 0 .ror 3)) sys ∧ (3 : Reg) ≠ 15 ∧ Operand2.Allowed (.reg 0 .ror 3) :=
  ⟨ready_of (by decide +kernel), by decide, trivial⟩

theorem witness_TestInstructions :
    Ready (TestOp.teq.instr .al 1 0 (.imm 4 1)) sys ∧ Ready (TestOp.cmn.instr .al 3 0 (.rsr 2 .asr 3)) sys ∧
    (0 : Reg) ≠ 15 ∧ Operand2.Allowed (.rsr 2 .asr 3) :=
  ⟨ready_of (by decide +kernel), ready_of (by decide +kernel), by decide, show (2 : Reg) ≠ 15 by decide⟩

theorem witness_ResultToPc :
    Ready (DpOp.instr (.logic .mov) .al false 0 15 (.reg 0 .lsl 14)) sys ∧
    Ready (DpOp.instr (.arith .add) .al false 15 15 (.imm 0 4)) sys :=
  ⟨ready_of (by decide +kernel), ready_of (by decide +kernel)⟩

/-- A return to either variant. -/
theorem witness_ExceptionReturn :
    Ready (DpOp.instr (.arith .sub) .al true 14 15 (.imm 0 4)) (handler false) ∧
    (handler false).spsr = some { Spsr.zero with c := true, t := false, m := 0b11111 } ∧
    ((handler false).spsr.bind Spsr.restore).map Cpsr.t = some false ∧
    ((handler true).spsr.bind Spsr.restore).map Cpsr.t = some true ∧
    Ready (.ldm .al false true true true 0 0x8002) (handler true) ∧ (0x8002 : BitVec 16).getLsbD 15 = true ∧
    eachWord (handler true).plain 0x03001000 2 ∧ eachWord (handler true).quiet 0x03001000 2 ∧
    blockStart false true ((handler true).reg 0) (listRegs 0x8002).length = 0x03001000 :=
  ⟨ready_of (by decide +kernel), by decide +kernel, by decide +kernel, by decide +kernel,
    ready_of (by decide +kernel), by decide +kernel,
    fun k hk => by interval_cases k <;> decide +kernel, fun k hk => by interval_cases k <;> decide +kernel,
    by decide +kernel⟩

theorem witness_Multiplies :
    Ready (.mla .al true 0 1 2 3) sys ∧ Ready (.mul .al false 0 15 2 3) sys ∧ (0 : Reg) ≠ 15 ∧ (1 : Reg) ≠ 15 ∧
    (2 : Reg) ≠ 15 ∧ (3 : Reg) ≠ 15 :=
  ⟨ready_of (by decide +kernel), ready_of (by decide +kernel), by decide, by decide, by decide, by decide⟩

theorem witness_LongMultiplies :
    Ready (.smlal .al true 1 0 2 3) sys ∧ Ready (.umull .al false 1 0 2 3) sys ∧ (1 : Reg) ≠ 0 ∧ (1 : Reg) ≠ 15 :=
  ⟨ready_of (by decide +kernel), ready_of (by decide +kernel), by decide, by decide⟩

/-- A load of each variant; write-back to another register and to the destination itself. -/
theorem witness_SingleLoads :
    (Ready (.ldrImm .al true true true 0 2 4) sys ∧ transferAllowed sys (.ldrImm .al true true true 0 2 4) ∧
      loadOf sys (.ldrImm .al true true true 0 2 4) = some (.word, 0x03001004, 2) ∧
      backOf sys (.ldrImm .al true true true 0 2 4) = some (0, 0x03001004)) ∧
    (Ready (.ldrshReg .al false false false 0 0 0 2) sys ∧
      transferAllowed sys (.ldrshReg .al false false false 0 0 0 2) ∧
      loadOf sys (.ldrshReg .al false false false 0 0 0 2) = some (.signedHalf, 0x03001000, 0)) ∧
    (Ready (.tLdrImm 1 0 1) thumb ∧ transferAllowed thumb (.tLdrImm 1 0 1) ∧
      loadOf thumb (.tLdrImm 1 0 1) = some (.word, 0x03001004, 1)) ∧
    sys.quiet 0x03001000 = true ∧ (2 : Reg) ≠ 15 :=
  ⟨⟨ready_of (by decide +kernel), transfer_of (by decide +kernel), by decide +kernel, by decide +kernel⟩,
    ⟨ready_of (by decide +kernel), transfer_of (by decide +kernel), by decide +kernel⟩,
    ⟨ready_of (by decide +kernel), transfer_of (by decide +kernel), by decide +kernel⟩, by decide +kernel, by decide⟩

theorem witness_LoadsToPc :
    Ready (.ldrImm .al false true false 0 15 4) sys ∧ transferAllowed sys (.ldrImm .al false true false 0 15 4) ∧
    loadOf sys (.ldrImm .al false true false 0 15 4) = some (.word, 0x03001000, 15) :=
  ⟨ready_of (by decide +kernel), transfer_of (by decide +kernel), by decide +kernel⟩

theorem witness_SingleStores :
    (Memory.wf sys.mem ∧ Ready (.strImm .al true true true 0 2 4) sys ∧ shape (.strImm .al true true true 0 2 4) = .store ∧
      stored sys (.strImm .al true true true 0 2 4) = [(0x03001004, .word, 5)] ∧
      transferAllowed sys (.strImm .al true true true 0 2 4) ∧ sys.quiet 0x03001004 = true) ∧
    (Memory.wf thumb.mem ∧ Ready (.tStrhImm 1 0 2) thumb ∧
      stored thumb (.tStrhImm 1 0 2) = [(0x03001002, .half, 5)] ∧ transferAllowed thumb (.tStrhImm 1 0 2)) :=
  ⟨⟨by decide +kernel, ready_of (by decide +kernel), rfl, by decide +kernel, transfer_of (by decide +kernel),
      by decide +kernel⟩,
    by decide +kernel, ready_of (by decide +kernel), by decide +kernel, transfer_of (by decide +kernel)⟩

theorem witness_Swaps :
    Memory.wf sys.mem ∧ Ready (.swp .al 0 2 3) sys ∧ Ready (.swpb .al 0 3 3) sys ∧ (0 : Reg) ≠ 15 ∧ (2 : Reg) ≠ 15 ∧
    (3 : Reg) ≠ 15 ∧ sys.plain (sys.reg 0) = true ∧ sys.quiet (sys.reg 0) = true :=
  ⟨by decide +kernel, ready_of (by decide +kernel), ready_of (by decide +kernel), by decide, by decide, by decide,
    by decide +kernel, by decide +kernel⟩

/-- With a write-back, and with the User bank. -/
theorem witness_MultipleLoads :
    (Ready (.ldm .al false true false true 0 6) sys ∧ blockAllowed (.ldm .al false true false true 0 6) ∧
      blockLoad sys (.ldm .al false true false true 0 6) = some (.sys, [1, 2], 0x03001000) ∧ (15 : Reg) ∉ [(1 : Reg), 2] ∧
      eachWord sys.plain 0x03001000 2 ∧ eachWord sys.quiet 0x03001000 2) ∧
    (Ready (.ldm .al false true true false 0 0x2000) (handler false) ∧
      blockAllowed (.ldm .al false true true false 0 0x2000) ∧
      blockLoad (handler false) (.ldm .al false true true false 0 0x2000) = some (.usr, [13], 0x03001000)) ∧
    (Ready (.tLdmia 0 6) thumb ∧ blockAllowed (.tLdmia 0 6) ∧
      blockLoad thumb (.tLdmia 0 6) = some (.sys, [1, 2], 0x03001000)) :=
  ⟨⟨ready_of (by decide +kernel), by unfold blockAllowed; decide, by decide +kernel, by decide,
      fun k hk => by interval_cases k <;> decide +kernel, fun k hk => by interval_cases k <;> decide +kernel⟩,
    ⟨ready_of (by decide +kernel), by unfold blockAllowed; decide, by decide +kernel⟩,
    ready_of (by decide +kernel), by unfold blockAllowed; decide, by decide +kernel⟩

theorem witness_MultipleLoadsToPc :
    (Ready (.ldm .al false true false true 0 0x8002) sys ∧ blockAllowed (.ldm .al false true false true 0 0x8002) ∧
      blockLoad sys (.ldm .al false true false true 0 0x8002) = some (.sys, [1, 15], 0x03001000) ∧
      restoresStatus (.ldm .al false true false true 0 0x8002) = false) ∧
    (Ready (.tPop true 0) thumb ∧ blockAllowed (.tPop true 0) ∧
      blockLoad thumb (.tPop true 0) = some (.sys, [15], 0x03007F00) ∧ eachWord thumb.plain 0x03007F00 1) :=
  ⟨⟨ready_of (by decide +kernel), by unfold blockAllowed; decide, by decide +kernel, rfl⟩,
    ready_of (by decide +kernel), by unfold blockAllowed; decide, by decide +kernel,
    fun k hk => by interval_cases k; decide +kernel⟩

/-- The base first in the list, the base later in the list, `r15` in the list. -/
theorem witness_MultipleStores :
    (Memory.wf sys.mem ∧ Ready (.stm .al true false false true 1 0x8003) sys ∧
      shape (.stm .al true false false true 1 0x8003) = .stores ∧ blockAllowed (.stm .al true false false true 1 0x8003) ∧
      stored sys (.stm .al true false false true 1 0x8003) =
        [(0x03000FF8, .word, 0x03001000), (0x03000FFC, .word, 0x03000FF8), (0x03001000, .word, 0x0300010C)]) ∧
    (Memory.wf thumb.mem ∧ Ready (.tStmia 0 3) thumb ∧ blockAllowed (.tStmia 0 3) ∧
      stored thumb (.tStmia 0 3) = [(0x03001000, .word, 0x03001000), (0x03001004, .word, 0x03001004)]) ∧
    ([0, 1, 15] : List Reg).Pairwise (· < ·) ∧ 2 < ([0, 1, 15] : List Reg).length :=
  ⟨⟨by decide +kernel, ready_of (by decide +kernel), rfl, by unfold blockAllowed; decide, by decide +kernel⟩,
    ⟨by decide +kernel, ready_of (by decide +kernel), by unfold blockAllowed; decide, by decide +kernel⟩,
    by decide, by decide⟩

theorem witness_Branches :
    Ready (.b .al 0xFFFFFE) sys ∧ Ready (.bl .ne 0x7FFFFF) sys ∧ Ready (.bx .al 15) sys ∧ sys.core.aligned = true :=
  ⟨ready_of (by decide +kernel), ready_of (by decide +kernel), ready_of (by decide +kernel), by decide +kernel⟩

theorem witness_CompactBranches :
    thumb.core.cpsr.t = true ∧ thumb.core.aligned = true ∧ condHolds .ne thumb.core.cpsr = true ∧
    condHolds .eq thumb.core.cpsr = false := by decide +kernel

theorem witness_SoftwareInterrupts : Ready (.swi .al 0xFFFFFF) usr ∧ thumb.core.cpsr.t = true :=
  ⟨ready_of (by decide +kernel), by decide +kernel⟩

theorem witness_UndefinedInstructions :
    Ready (.undSpace .al 0 0) usr ∧ Ready (.undOther .al 0x1000050) sys ∧ Ready (.tUndCond 0) thumb ∧
    Ready (.tUndOther 0xB100) thumb ∧ Ready (.cdp .al 0 0 0 15 0 0) sys ∧ Ready (.ldc .al true true false false 0 0 15 0) sys ∧
    Ready (.stc .al true true false false 0 0 15 0) sys ∧ Ready (.mcr .al 0 0 0 14 0 0) sys ∧
    Ready (.mrc .al 0 0 0 14 0 0) usr ∧ (14 : BitVec 4) ≠ 15 :=
  ⟨ready_of (by decide +kernel), ready_of (by decide +kernel), ready_of (by decide +kernel), ready_of (by decide +kernel),
    ready_of (by decide +kernel), ready_of (by decide +kernel), ready_of (by decide +kernel), ready_of (by decide +kernel),
    ready_of (by decide +kernel), by decide⟩

theorem witness_StatusReads :
    (Ready (.mrs .al false 0) usr ∧ usr.core.cpsr.save = ⟨false, false, false, false, false, false, false, 0b10000⟩) ∧
    (Ready (.mrs .al true 0) (handler true) ∧
      (handler true).spsr = some ⟨false, false, true, false, false, false, true, 0b11111⟩) ∧ (0 : Reg) ≠ 15 :=
  ⟨⟨ready_of (by decide +kernel), by decide +kernel⟩, ⟨ready_of (by decide +kernel), by decide +kernel⟩, by decide⟩

theorem witness_StatusWrites :
    (Ready (.msrReg .al false 9 3) sys ∧ (3 : Reg) ≠ 15) ∧
    (Ready (.msrImm .al false 1 0 0xD3) sys ∧ (1 : BitVec 4).getLsbD 0 = true ∧ sys.core.cpsr.mode ≠ .usr ∧
      Mode.svc.code = (((0xD3 : BitVec 8).setWidth 32).rotateRight (2 * (0 : BitVec 4).toNat)).extractLsb' 0 5) ∧
    (Ready (.msrReg .al false 8 3) usr ∧ (8 : BitVec 4).getLsbD 0 = false) ∧
    (Ready (.msrReg .al true 9 3) (handler false) ∧ (handler false).spsr ≠ none) :=
  ⟨⟨ready_of (by decide +kernel), by decide⟩, ⟨ready_of (by decide +kernel), by decide, by decide +kernel, by decide +kernel⟩,
    ⟨ready_of (by decide +kernel), by decide⟩, ready_of (by decide +kernel), by decide +kernel⟩

theorem witness_SystemControl :
    Ready (.mcr .al 0 1 0 15 0 0) sys ∧ isWfi 0 1 15 0 0 = false ∧ Ready (.mrc .al 0 0 15 15 0 0) sys ∧
    Ready (.mrc .al 0 0 14 15 0 0) sys ∧ Ready (.wfi .al 0) sys ∧ sys.core.cpsr.mode ≠ .usr ∧ (0 : Reg) ≠ 15 :=
  ⟨ready_of (by decide +kernel), by decide, ready_of (by decide +kernel), ready_of (by decide +kernel),
    ready_of (by decide +kernel), by decide +kernel, by decide⟩

theorem witness_PrivilegedTraps :
    Ready (.msrReg .al false 1 0) usr ∧ isPrivileged (.msrReg .al false 1 0) = true ∧ usr.core.cpsr.mode = .usr ∧
    usr.par.privPolicy = .trap ∧ (∀ k c sf rn rd o, Instr.msrReg .al false 1 0 ≠ DpOp.instr k c sf rn rd o) ∧
    shape (.msrReg .al false 1 0) ≠ .loads ∧ (0 : Reg) ≠ 15 := by
  refine ⟨ready_of (by decide +kernel), rfl, by decide +kernel, by decide +kernel, ?_, by decide, by decide⟩
  intro k c sf rn rd o
  cases k with
  | logic k => cases k <;> cases o <;> simp [DpOp.instr, LogicOp.instr]
  | arith k => cases k <;> cases o <;> simp [DpOp.instr, ArithOp.instr]

theorem witness_PrivilegedIgnored :
    lenient.core.cpsr.mode = .usr ∧ lenient.par.privPolicy = .ignore ∧
    Ready (DpOp.instr (.logic .mov) .al true 0 15 (.reg 0 .lsl 14)) lenient ∧ Ready (.msrReg .al false 9 3) lenient ∧
    (9 : BitVec 4).getLsbD 0 = true ∧ Ready (.msrReg .al true 8 3) lenient ∧ Ready (.mrs .al true 0) lenient ∧
    Ready (.mcr .al 0 1 0 15 0 0) lenient ∧ Ready (.wfi .al 0) lenient ∧ Ready (.mrc .al 0 0 0 15 0 0) lenient ∧
    Ready (.msrImm .al false 9 0 0xD3) lenient ∧
    (Ready (.ldm .al false true true true 0 0x8002) lenient ∧ (0x8002 : BitVec 16).getLsbD 15 = true ∧
      blockStart false true (lenient.reg 0) (listRegs 0x8002).length = 0x03001000 ∧ eachWord lenient.plain 0x03001000 2 ∧
      listRegs 0x8002 = [1, 15] ∧ (0 : Reg) ∉ listRegs 0x8002) :=
  ⟨by decide +kernel, by decide +kernel, ready_of (by decide +kernel), ready_of (by decide +kernel), by decide,
    ready_of (by decide +kernel), ready_of (by decide +kernel), ready_of (by decide +kernel), ready_of (by decide +kernel),
    ready_of (by decide +kernel), ready_of (by decide +kernel), ready_of (by decide +kernel), by decide, by decide +kernel,
    fun k hk => by interval_cases k <;> decide +kernel, by decide +kernel, by decide +kernel⟩

/-- An instruction that traps and one that does not. -/
theorem witness_UserModeConfined :
    usr.core.cpsr.mode = .usr ∧ (Ready (.swi .al 0) usr ∧ takesException usr (.swi .al 0) = true ∧
      ∃ t, exec (.swi .al 0) usr = .next t) ∧
    (Ready (.movReg .al true 0 1 0 .lsl 3) usr ∧ takesException usr (.movReg .al true 0 1 0 .lsl 3) = false ∧
      ∃ t, exec (.movReg .al true 0 1 0 .lsl 3) usr = .next t) :=
  ⟨by decide +kernel, ⟨ready_of (by decide +kernel), by decide +kernel, next_of (by decide +kernel)⟩,
    ready_of (by decide +kernel), by decide +kernel, next_of (by decide +kernel)⟩

/-- One combination for each clause. -/
theorem witness_RefusedOperands :
    Ready (DpOp.instr (.logic .and) .al true 0 1 (.rsr 15 .lsl 2)) sys ∧
    Ready (TestOp.instr .teq .al 0 1 (.rsr 15 .ror 2)) sys ∧ Ready (TestOp.instr .cmp .al 0 15 (.imm 0 1)) sys ∧
    Ready (.mul .al false 0 0 15 2) sys ∧
    Ready (.mla .al false 0 15 1 2) sys ∧ Ready (.smull .al false 3 3 1 2) sys ∧ Ready (.swp .al 0 15 1) sys ∧
    (Ready (.ldrhImm .al false true true 0 1 0 2) sys ∧ badHalfword (.ldrhImm .al false true true 0 1 0 2) = true) ∧
    (Ready (.strReg .al true true false 0 1 0 .lsl 15) sys ∧ offsetReg (.strReg .al true true false 0 1 0 .lsl 15) = some 15 ∧
      badHalfword (.strReg .al true true false 0 1 0 .lsl 15) = false) ∧
    (Ready (.ldrImm .al true true true 15 1 4) sys ∧ (backOf sys (.ldrImm .al true true true 15 1 4)).map Prod.fst = some 15) ∧
    (Ready (.strImm .al true true true 1 1 4) sys ∧ (backOf sys (.strImm .al true true true 1 1 4)).map Prod.fst = some 1 ∧
      storeSource (.strImm .al true true true 1 1 4) = some 1) ∧
    (Ready (.ldrbImm .al true true false 0 15 0) sys ∧ transferAllowed sys (.ldrbImm .al true true false 0 15 0) ∧
      loadOf sys (.ldrbImm .al true true false 0 15 0) = some (.byte, 0x03001000, 15)) :=
  ⟨ready_of (by decide +kernel), ready_of (by decide +kernel), ready_of (by decide +kernel), ready_of (by decide +kernel), ready_of (by decide +kernel),
    ready_of (by decide +kernel), ready_of (by decide +kernel), ⟨ready_of (by decide +kernel), rfl⟩,
    ⟨ready_of (by decide +kernel), rfl, rfl⟩, ⟨ready_of (by decide +kernel), by decide +kernel⟩,
    ⟨ready_of (by decide +kernel), by decide +kernel, rfl⟩,
    ready_of (by decide +kernel), transfer_of (by decide +kernel), by decide +kernel⟩

/-- One combination for each clause. -/
theorem witness_RefusedBlocksAndStatus :
    Ready (.ldm .al false true false false 15 1) sys ∧ Ready (.stm .al false true false false 0 0) sys ∧
    Ready (.stm .al false true true true 0 1) sys ∧ Ready (.ldm .al false true true true 0 1) sys ∧
    (1 : BitVec 16).getLsbD 15 = false ∧ thumb.core.cpsr.t = true ∧
    (Ready (DpOp.instr (.logic .mov) .al true 0 15 (.reg 0 .lsl 14)) sys ∧ sys.core.cpsr.mode = .sys) ∧
    (Ready (DpOp.instr (.logic .mov) .al true 0 15 (.reg 0 .lsl 14)) ((handler false).setSpsrs Spsrs.zero) ∧
      ((handler false).setSpsrs Spsrs.zero).spsr = some Spsr.zero ∧ Spsr.zero.restore = none) ∧
    (Ready (.ldm .al false true true false 0 0x8000) sys ∧ (0x8000 : BitVec 16).getLsbD 15 = true) ∧
    Ready (.ldm .al false true true false 0 0x8000) ((handler false).setSpsrs Spsrs.zero) ∧
    Ready (.mrs .al true 0) sys ∧ (Ready (.mrs .al true 15) (handler false) ∧ (handler false).spsr ≠ none) ∧
    Ready (.mrs .al false 15) sys ∧ Ready (.msrReg .al false 1 15) sys ∧
    Ready (.msrReg .al true 1 0) sys ∧ Ready (.msrImm .al true 1 0 0) sys ∧
    (Ready (.msrReg .al false 1 2) sys ∧ ∀ m : Mode, m.code ≠ (sys.reg 2).extractLsb' 0 5) ∧
    (Ready (.msrImm .al false 1 0 5) sys ∧
      ∀ m : Mode, m.code ≠ ((BitVec.setWidth 32 (5 : BitVec 8)).rotateRight (2 * (0 : BitVec 4).toNat)).extractLsb' 0 5) ∧
    (Ready (.mcr .al 0 1 15 15 0 0) sys ∧ isWfi 0 1 15 0 0 = false) :=
  ⟨ready_of (by decide +kernel), ready_of (by decide +kernel), ready_of (by decide +kernel), ready_of (by decide +kernel),
    by decide, by decide +kernel, ⟨ready_of (by decide +kernel), by decide +kernel⟩,
    ⟨ready_of (by decide +kernel), by decide +kernel, by decide +kernel⟩, ⟨ready_of (by decide +kernel), by decide⟩,
    ready_of (by decide +kernel), ready_of (by decide +kernel), ⟨ready_of (by decide +kernel), by decide +kernel⟩,
    ready_of (by decide +kernel), ready_of (by decide +kernel), ready_of (by decide +kernel), ready_of (by decide +kernel),
    ⟨ready_of (by decide +kernel), fun m => by cases m <;> decide +kernel⟩,
    ⟨ready_of (by decide +kernel), fun m => by cases m <;> decide +kernel⟩, ready_of (by decide +kernel), by decide⟩

theorem witness_CompactArithmetic :
    thumb.core.cpsr.t = true ∧ compactArith thumb (.tSbc 3 2) = some (.sbc, 5, 0x80000001, 2) ∧
    compactArith thumb (.tNeg 3 3) = some (.sub, 0, 0x80000001, 3) ∧
    compactCompare thumb (.tCmpHi 15 2) = some (.sub, 0x03000104, 5) := by decide +kernel

theorem witness_CompactLogic :
    thumb.core.cpsr.t = true ∧ compactLogic thumb (.tLslReg 2 3) = some (⟨0x20, false⟩, some 3, 1) ∧
    compactLogic thumb (.tTst 2 3) = some (⟨1, false⟩, none, 0) := by decide +kernel

theorem witness_CompactMoves :
    thumb.core.cpsr.t = true ∧ compactMove thumb (.tMovHi 15 0) = some (15, 0x03001000) ∧
    compactMove thumb (.tAddPc 1 1) = some (1, 0x03000108) := by decide +kernel

theorem witness_RegisterFrame :
    Ready (.movReg .al true 0 1 0 .lsl 3) sys ∧ takesException sys (.movReg .al true 0 1 0 .lsl 3) = false ∧
    ∃ t, exec (.movReg .al true 0 1 0 .lsl 3) sys = .next t :=
  ⟨ready_of (by decide +kernel), by decide +kernel, next_of (by decide +kernel)⟩

/-- A form that stores and one that stores nothing. -/
theorem witness_MemoryFrame :
    Memory.wf sys.mem ∧ (Ready (.strImm .al true true false 0 2 0) sys ∧ ∃ t, exec (.strImm .al true true false 0 2 0) sys = .next t) ∧
    (Ready (.cmpImm .al 0 0 0 1) sys ∧ stored sys (.cmpImm .al 0 0 0 1) = [] ∧ ∃ t, exec (.cmpImm .al 0 0 0 1) sys = .next t) :=
  ⟨by decide +kernel, ⟨ready_of (by decide +kernel), next_of (by decide +kernel)⟩, ready_of (by decide +kernel), rfl,
    next_of (by decide +kernel)⟩

theorem witness_StatusFrame :
    Ready (.movReg .al false 0 1 0 .lsl 3) usr ∧ setsFlags (.movReg .al false 0 1 0 .lsl 3) = false ∧
    restoresStatus (.movReg .al false 0 1 0 .lsl 3) = false ∧ takesException usr (.movReg .al false 0 1 0 .lsl 3) = false ∧
    ∃ t, exec (.movReg .al false 0 1 0 .lsl 3) usr = .next t :=
  ⟨ready_of (by decide +kernel), rfl, rfl, by decide +kernel, next_of (by decide +kernel)⟩

/-- Both ends of every range, and the fold of video memory. -/
theorem witness_CellsOfAddresses :
    sys.par.regions = defaultRegions ∧ sys.cell 0x3FFF = some 0x3FFF ∧ sys.cell 0x4000 = none ∧ sys.cell 0x01FFFFFF = none ∧
    sys.cell 0x02040000 = some 0x02000000 ∧ sys.cell 0x03FFFFFF = some 0x03007FFF ∧ sys.cell 0x040003FF = some 0x040003FF ∧
    sys.cell 0x04000400 = none ∧ sys.cell 0x05FFFFFF = some 0x050003FF ∧ sys.cell 0x06017FFF = some 0x06017FFF ∧
    sys.cell 0x06018000 = some 0x06010000 ∧ sys.cell 0x07FFFFFF = some 0x070003FF ∧ sys.cell 0x0A000000 = some 0x08000000 ∧
    sys.cell 0x0DFFFFFF = some 0x09FFFFFF ∧ sys.cell 0x0E000000 = some 0x0E000000 ∧ sys.cell 0x0FFFFFFF = some 0x0E00FFFF ∧
    sys.cell 0x10000000 = none := by decide +kernel

/-- A word of work RAM, at its first and its last address; a halfword of palette, the last word of object memory. -/
theorem witness_StorageBytes :
    sys.par.regions = defaultRegions ∧ Memory.wf sys.mem ∧ sys.plain 0x03001000 = true ∧
    sys.peek 0x03001000 = some 0x44 ∧ sys.peek 0x03001001 = some 0x33 ∧ sys.peek 0x03001002 = some 0x22 ∧
    sys.peek 0x03001003 = some 0x11 ∧ (0x02000000 : Word).toNat % Width.word.bytes = 0 ∧
    (0x03FFFFFC : Word).toNat % Width.word.bytes = 0 ∧ (0x03FFFFFC : Word).toNat < 0x04000000 ∧
    (sys.plain 0x05000000 = true ∧ sys.peek 0x05000000 = some 0 ∧ (0x05000000 : Word).toNat % Width.half.bytes = 0) ∧
    (0x07FFFFFC : Word).toNat % Width.word.bytes = 0 := by decide +kernel

/-- The ends of the ranges of each clause, at the width the clause asks for. -/
theorem witness_WidthRules :
    sys.par.regions = defaultRegions ∧ Memory.wf sys.mem ∧ sys.answers = [] ∧
    (([0x0, 0x3FFC, 0x08000000, 0x0DFFFFFC, 0x05000000, 0x06FFFFFC, 0x07000000, 0x07FFFFFC, 0x0E000000, 0x0FFFFFFC, 0x4000,
      0x01FFFFFC, 0x04000400, 0x10000000, 0xFFFFFFFC, 0x040000E0, 0x040000FC, 0x0400020C, 0x040003FC, 0x040000B0, 0x040000D8,
      0x04000000, 0x040000AC, 0x04000120, 0x0400015C] :
        List Word).all (fun a => a.toNat % Width.word.bytes == 0) = true) ∧
    (([0x05000000, 0x06FFFFFF, 0x07000000, 0x07FFFFFF, 0x0E000001, 0x0FFFFFFF] : List Word).all
      (fun a => a.toNat % Width.byte.bytes == 0) = true) ∧
    (([0x04000206, 0x04000302] : List Word).all (fun a => a.toNat % Width.half.bytes == 0) = true) ∧
    sys.peek 0x0E000001 = some 0 := by decide +kernel

theorem witness_AccessCost :
    sys.par.regions = defaultRegions ∧ lookup sys.par.regions 0x10000000 = none ∧
    ((lookup sys.par.regions 0x03007FFF).map Region.name = some .iwram ∧ sys.lastRegion = some .iwram) ∧
    (lookup sys.par.regions 0x0DFFFFFF).map Region.name = some .rom2 := by decide +kernel

theorem witness_InterruptAcknowledge : State.reset.par.regions = defaultRegions := rfl

theorem witness_ControlRegisters : sys.par.regions = defaultRegions := by decide +kernel

/-- Both settings of the enable bit before the write. -/
theorem witness_TimerRegisters :
    sys.par.regions = defaultRegions ∧ (sys.timers[(0 : Fin 4)].enable = false ∧ (0x80 : Word).getLsbD 7 = true) ∧
    (sys.setTimer 3 { Timer.reset with enable := true }).timers[(3 : Fin 4)].enable = true ∧ (0 : Word).getLsbD 7 = false := by
  decide +kernel

/-- Two timers, the second cascading from the first; the first one cycle before its overflow. -/
def ticking : State :=
  (sys.setTimer 0 { Timer.reset with counter := 0xFFFF, prescale := 1, div := 62, reload := 3, enable := true, irqEn := true }).setTimer
    1 { Timer.reset with counter := 0xFFFF, cascade := true, enable := true, irqEn := true }

/-- Either side of the overflow. -/
theorem witness_TimerCounts :
    ticking.countsCycles 0 = true ∧ ticking.timers[(0 : Fin 4)].div < prescaleDivisor ticking.timers[(0 : Fin 4)].prescale ∧
    ticking.timers[(0 : Fin 4)].counter.toNat * 64 + ticking.timers[(0 : Fin 4)].div + 1 < 0x10000 * 64 ∧
    ticking.timers[(0 : Fin 4)].counter.toNat * 64 + ticking.timers[(0 : Fin 4)].div + 2 = 0x10000 * 64 ∧
    ticking.timers[(1 : Fin 4)].cascade = true ∧ ticking.timers[(1 : Fin 4)].enable = true ∧
    ticking.timers[(1 : Fin 4)].counter = 0xFFFF ∧ ticking.timers[(1 : Fin 4)].irqEn = true := by decide +kernel

/-- The last line before vertical blanking, one cycle before its middle and one before its end, channels waiting. -/
theorem witness_ScanlineSignals :
    (let s := (sys.setSched { sys.sched with line := 159, dot := 1231 }).setDma 0 { DmaChannel.reset with cntH := 0x9000 }
     s.inFrame = true ∧ 1 = s.par.lineCycles - s.sched.dot ∧ s.dma[(0 : Fin 4)].armed = true ∧ s.dma[(0 : Fin 4)].trigger = 1) ∧
    (let s := (sys.setSched { sys.sched with line := 159, dot := 959 }).setDma 0 { DmaChannel.reset with cntH := 0xA000 }
     s.inFrame = true ∧ 1 < s.par.lineCycles - s.sched.dot ∧ s.sched.dot + 1 = s.par.hblankStart ∧
     s.sched.line < s.par.vblankLine ∧ s.par.hblankStart ≤ s.par.lineCycles ∧ s.dma[(0 : Fin 4)].armed = true ∧
     s.dma[(0 : Fin 4)].trigger = 2) := by decide +kernel

/-- A channel disarmed and one armed. -/
theorem witness_DmaArming :
    sys.par.regions = defaultRegions ∧ sys.dma[(3 : Fin 4)].cntH.getLsbD 15 = false ∧
    armed.dma[(3 : Fin 4)].cntH.getLsbD 15 = true ∧ (0x8000 : Word).getLsbD 15 = true ∧ (0x7FFF : Word).getLsbD 15 = false := by
  decide +kernel

/-- Halfwords down to the first bytes of IWRAM, from a fixed source; a word to a reloaded destination, repeating; a refill
of the second FIFO, its source going down. -/
theorem witness_DmaCopies :
    (let s := sys.setDma 1 { DmaChannel.reset with cntH := 0x8120, src := 0x0203FFFE, dst := 0x03000002, cnt := 2, req := true }
     let x := s.dma[(1 : Fin 4)]
     s.par.regions = defaultRegions ∧ Memory.wf s.mem ∧ x.cntH.extractLsb' 12 2 ≠ 3 ∧ x.cntH.getLsbD 10 = false ∧
     x.srcMode = 2 ∧ x.dstMode = 1 ∧ x.src.toNat % 2 = 0 ∧ x.dst.toNat % 2 = 0 ∧
     (∀ k, k < 2 → 0x02000000 ≤ (unitAddress x.src x.srcMode .half k).toNat ∧
       (unitAddress x.src x.srcMode .half k).toNat < 0x02040000) ∧
     (∀ k, k < 2 → 0x03000000 ≤ (unitAddress x.dst x.dstMode .half k).toNat ∧
       (unitAddress x.dst x.dstMode .half k).toNat < 0x03008000) ∧ x.trigger = 0) ∧
    (let s := sys.setDma 3 { DmaChannel.reset with cntH := 0xD660, src := 0x0203FFFC, dst := 0x03007FFC, cnt := 1, req := true }
     let x := s.dma[(3 : Fin 4)]
     x.cntH.extractLsb' 12 2 ≠ 3 ∧ x.srcMode = 0 ∧ x.dstMode = 3 ∧ x.cntH.getLsbD 10 = true ∧ x.src.toNat % 4 = 0 ∧
     x.dst.toNat % 4 = 0 ∧
     (∀ k, k < 1 → (unitAddress x.src x.srcMode .word k).toNat < 0x02040000 ∧
       (unitAddress x.dst x.dstMode .word k).toNat < 0x03008000) ∧
     x.repeats = true ∧ x.trigger ≠ 0) ∧
    (let s := sys.setDma 2 { DmaChannel.reset with cntH := 0xB280, src := 0x0200000C, dst := 0x040000A4, req := true }
     let x := s.dma[(2 : Fin 4)]
     x.cntH.extractLsb' 12 2 = 3 ∧ x.srcMode = 1 ∧ x.src.toNat % 4 = 0 ∧
     (∀ k, k < 4 → 0x02000000 ≤ (unitAddress x.src x.srcMode .word k).toNat ∧
       (unitAddress x.src x.srcMode .word k).toNat < 0x02040000) ∧
     x.dst = 0x040000A4 ∧ s.answers = [] ∧ x.repeats = true ∧ x.trigger ≠ 0) := by decide +kernel

/-- The harness state, with a `MOV r0, r0` and with a compact `ADD`. -/
theorem witness_StepRunsDecoded :
    (sys.atCheckpoint.dmaReady = none ∧ sys.atCheckpoint.deliverable = false ∧ sys.atCheckpoint.core.halted = false ∧
      sys.atCheckpoint.core.aligned = true ∧ (Instr.movReg .al false 0 0 0 .lsl 0).wf = true ∧
      (Instr.movReg .al false 0 0 0 .lsl 0).isCompact = sys.atCheckpoint.core.cpsr.t ∧
      (sys.atCheckpoint.busRead sys.atCheckpoint.pc sys.atCheckpoint.width sys.atCheckpoint.fetchKind).1 =
        encodeWord (.movReg .al false 0 0 0 .lsl 0) ∧
      sys.atCheckpoint.par.regions = defaultRegions ∧ sys.atCheckpoint.plain sys.atCheckpoint.pc = true ∧
      sys.atCheckpoint.quiet sys.atCheckpoint.pc = true ∧
      sys.atCheckpoint.peek sys.atCheckpoint.pc ≠ none) ∧
    (thumb.atCheckpoint.core.cpsr.t = true ∧
      (thumb.atCheckpoint.busRead thumb.atCheckpoint.pc thumb.atCheckpoint.width thumb.atCheckpoint.fetchKind).1.extractLsb' 0 16 =
        encodeHalf (.tAddImm3 0 0 0)) := by decide +kernel

/-- A second core that runs later. -/
def dual : State := { sys.addCore with other := some { Core.reset 1 with time := 7 } }

/-- A transfer; a deliverable interrupt; a halted core alone, beside a running one, beside a halted one. -/
theorem witness_Checkpoint :
    (armed.atCheckpoint.dma[(3 : Fin 4)].armed = true ∧ armed.atCheckpoint.dma[(3 : Fin 4)].req = true ∧
      ∀ c : Fin 4, c < 3 → ¬ (armed.atCheckpoint.dma[c].armed = true ∧ armed.atCheckpoint.dma[c].req = true)) ∧
    (let u := (sys.setIrq ⟨8, 8, true⟩).atCheckpoint
     (∀ c : Fin 4, ¬ (u.dma[c].armed = true ∧ u.dma[c].req = true)) ∧ u.irq.enable &&& u.irq.pending ≠ 0 ∧
     u.irq.master = true ∧ u.core.cpsr.i = false) ∧
    (let u := (sys.setHalted true).atCheckpoint
     u.irq.enable &&& u.irq.pending = 0 ∧ u.core.halted = true ∧ u.other = none) ∧
    (let u := (dual.setHalted true).atCheckpoint
     u.core.halted = true ∧ u.other.map Core.halted = some false) ∧
    (let u := ({ dual with other := some { Core.reset 1 with time := 7, halted := true } }.setHalted true).atCheckpoint
     u.irq.enable &&& u.irq.pending = 0 ∧ u.core.halted = true ∧ u.other.map Core.halted = some true) := by decide +kernel

/-- A cost function other than the default one. -/
def flatCost : CostFunction := { step := fun _ _ => 5, transfer := fun _ _ => 9 }

/-- A `MUL` with `r15` as an operand, which U3 gives no meaning, where the next step fetches. -/
def unstated : State := sys.withFetchWord 32 (encodeWord (.mul .al false 0 0 15 2)).toNat

/-- Two cores with different times, and with the same; another cost function, and a step it refuses. -/
theorem witness_CoreOrder :
    (dual.other.map Core.index = some 1 ∧ dual.core.index ≠ 1 ∧ dual.onTime = true ∧ shows dual (fun _ => true) = true) ∧
    (sys.addCore.other.map Core.index = some 1 ∧ sys.addCore.core.index ≠ 1) ∧
    (∃ t, stepWith flatCost dual = .next t) ∧ (∃ r, stepWith flatCost unstated = .refused r) := by
  refine ⟨by decide +kernel, by decide +kernel, next_of (o := stepWith flatCost dual) (by decide +kernel),
    refused_of (o := stepWith flatCost unstated) (by decide +kernel)⟩

/-- R513, R560, R569: the cost function alone says how far a step moves the cores' times. -/
theorem test_cost_function_moves_time :
    (match stepWith flatCost dual with
      | .next t => t.core.time == 5 && t.other.map Core.time == some 7 && t.pc == dual.pc + 4
      | _ => false) = true ∧
    (match stepWith flatCost { armed with other := some (Core.reset 1) } with
      | .next t => t.core.time == 9 && t.other.map Core.time == some 9
      | _ => false) = true := by decide +kernel

/-- R466, R471: where no cycle of the line reaches `HBLANK_START`, the next signal is the end of the line. -/
theorem test_unreached_hblank_is_no_signal :
    { sys with par := { sys.par with hblankStart := 2000 } }.nextSignal = 1232 := by decide +kernel

/-- R95, R10: two further regions of one name would be one region; under names of their own the second access is not
sequential (log 4). -/
theorem test_further_regions_have_names :
    (let rom := romWindow (.other 0) 0x08000000 0x080FFFFF 0
     let s := { sys with par := { sys.par with regions := [rom, { rom with name := .other 1, first := 0x09000000, last := 0x09FFFFFF }] } }
     ((s.charge 0x08000000 .half .n).charge 0x08000002 .half .s).report.cost = 5 + 3 ∧
     ((s.charge 0x08000000 .half .n).charge 0x09000002 .half .s).report.cost = 5 + 5) := by decide +kernel

theorem witness_ResetOperation :
    sys.par.regions = defaultRegions ∧ Memory.wf sys.mem ∧ sys.par.fastBoot = defaultFastBoot := by decide +kernel

/-- R98: a word of a region with a 16-bit bus costs a halfword and a sequential halfword. -/
theorem test_word_cost_is_two_halfwords :
    (defaultRegions.all fun r => r.busWidth != .half || [AccessKind.n, .s].all fun k =>
      r.wait.cost 0x4317 .word k == r.wait.cost 0x4317 .half k + r.wait.cost 0x4317 .half .s) = true := by decide

/-- R462: entries fire by due cycle, on a tie in the order of their insertion. -/
theorem test_ticks_fire_by_due_cycle :
    ((sys.setSched { sys.sched with ticks := [⟨3, 1⟩, ⟨2, 2⟩, ⟨9, 3⟩, ⟨3, 4⟩] }).fireTicks 3).outbox =
      [.tick 2, .tick 1, .tick 4] := by decide +kernel

/-- R88, R92: a store to palette memory touches its collaborator. -/
theorem test_palette_write_touches :
    (sys.busWrite .core 0x05000002 .half 0x1234 .n).report.touched = true ∧
    (sys.busWrite .core 0x05000002 .half 0x1234 .n).outbox = [.videoWrite 0x05000002 .half 0x1234] := by decide +kernel

theorem reset_inv : State.reset.Inv := by
  refine ⟨by decide, by decide +kernel, ?_, by decide +kernel, by decide +kernel, by decide +kernel, by decide +kernel,
    by decide +kernel, rfl⟩
  intro o h; cases h

/-- A state with a program that meets the invariant, and goes on. -/
theorem witness_StepKeepsInv : sys.Inv ∧ (∃ t, step sys = .next t) ∧ ∃ t, stepWith flatCost sys = .next t := by
  refine ⟨⟨by decide +kernel, by decide +kernel, ?_, by decide +kernel, by decide +kernel, by decide +kernel,
    by decide +kernel, by decide +kernel, by decide +kernel⟩, ?_⟩
  · intro o h
    have : sys.other = none := by decide +kernel
    rw [this] at h; cases h
  · exact ⟨next_of (o := step sys) (by decide +kernel), next_of (o := stepWith flatCost sys) (by decide +kernel)⟩

end Sys2Proof.Tests
end

section
/-! The reset operation (family 00): which row of the default table owns the cell of an address, what a reset leaves in
each cell, and from these the statements on reset. -/

namespace Sys2Proof.Machine

/-! ## Memory: dropping cells, and a list of writes -/

/-- Dropping cells by their number unwrites them and changes no other. -/
theorem Memory.read_filter (m : List Host.Cell) (p : Nat → Bool) (a : Nat) :
    Memory.read (m.filter fun c => p c.1) a = if p a then Memory.read m a else Memory.unwritten := by
  induction m with
  | nil => simp [Memory.read]
  | cons c rest ih =>
    obtain ⟨k, b⟩ := c
    by_cases hk : k = a
    · subst hk
      by_cases hp : p k = true
      · simp [Memory.read, hp]
      · simp [hp, ih]
    · by_cases hp : p k = true
      · simp [Memory.read, hp, hk, ih]
      · simp [Memory.read, hp, hk, ih]

/-- After a list of writes a cell holds the byte of the last one that names it. -/
theorem Memory.read_foldl_write (l m : List Host.Cell) (h : Memory.wf m) (a : Nat) :
    Memory.read (l.foldl (fun m c => Memory.write m c.1 c.2) m) a =
      ((l.reverse.find? fun x => x.1 == a).map fun x => x.2).getD (Memory.read m a) := by
  induction l generalizing m with
  | nil => rfl
  | cons c l ih =>
    rw [List.foldl_cons, ih _ (Memory.write_wf h _ _), List.reverse_cons, List.find?_append,
      Memory.read_write m h.1]
    cases l.reverse.find? fun x => x.1 == a with
    | some x => rfl
    | none =>
      by_cases hc : a = c.1
      · simp [hc]
      · simp [hc, Ne.symm hc]

/-! ## The cell of an address and the rows that own it -/

/-- Where the byte of an address is kept depends on the region table alone. -/
theorem State.cell_congr {s t : State} (h : t.par = s.par) (a : Word) : t.cell a = s.cell a := by
  simp only [State.cell, h]

/-- A row that `lookup` answers is one of the table, and covers the address (R73). -/
theorem lookup_eq_some {regions : List Region} {a : Word} {r : Region} (h : lookup regions a = some r) :
    r ∈ regions ∧ r.first ≤ a.toNat ∧ a.toNat ≤ r.last :=
  ⟨List.mem_of_find?_eq_some h, by simpa using List.find?_some h⟩

/-- An address that a row of the table covers is mapped (R73). -/
theorem exists_lookup_eq_some {regions : List Region} {a : Word} {r : Region} (hr : r ∈ regions)
    (h1 : r.first ≤ a.toNat) (h2 : a.toNat ≤ r.last) : ∃ q, lookup regions a = some q :=
  Option.isSome_iff_exists.1 (List.find?_isSome.2 ⟨r, hr, by simp [h1, h2]⟩)

/-- A cell is owned by the row its address resolves to (R74). -/
theorem State.cell_eq_some {s : State} {a : Word} {c : Nat} (h : s.cell a = some c) :
    ∃ r ∈ s.par.regions, r.first ≤ a.toNat ∧ a.toNat ≤ r.last ∧ r.owns c = true := by
  unfold State.cell at h
  split at h
  · cases h
  · next r hr =>
    obtain ⟨hmem, h1, h2⟩ := lookup_eq_some hr
    split at h
    · next hlt =>
      cases h
      exact ⟨r, hmem, h1, h2, by simp [Region.owns, hlt]⟩
    · cases h

/-- Storage that fills its period is reached at every offset. -/
theorem Region.offset_lt {r : Region} (h : r.period = r.backing) (hpos : 0 < r.period) (a : Word) :
    r.offset a < r.backing := by
  have hlt := Nat.mod_lt (a.toNat - r.first) hpos
  unfold Region.offset
  simp only
  split <;> omega

/-! ## The default table: RAM, and work RAM within it -/

/-- The rows that fast boot clears (R546). -/
def Region.isWork (r : Region) : Bool := r.name = .ewram || r.name = .iwram

theorem inWork_eq_any (regions : List Region) (c : Nat) :
    inWork regions c = regions.any fun r => r.isWork && r.owns c := rfl

/-- A row of RAM shares its storage with no other row of the default table. -/
theorem defaultRegions_ram_disjoint : ∀ q ∈ defaultRegions, q.ram = true → ∀ r ∈ defaultRegions,
    r = q ∨ r.store + r.backing ≤ q.store ∨ q.store + q.backing ≤ r.store := by decide

/-- Where the rows of RAM lie in the default table (R84). -/
theorem defaultRegions_ram_bounds : ∀ r ∈ defaultRegions, r.ram = true → 0x4000 ≤ r.first ∧ r.last < 0x08000000 := by
  decide

/-- What the default table says of work RAM: it is RAM, fills its period and lies in `[0x02000000, 0x04000000)`. -/
theorem defaultRegions_work : ∀ r ∈ defaultRegions, r.isWork = true →
    r.ram = true ∧ r.period = r.backing ∧ 0 < r.period ∧ 0x02000000 ≤ r.first ∧ r.last < 0x04000000 := by decide

/-- No other row of the default table reaches into `[0x02000000, 0x04000000)`. -/
theorem defaultRegions_not_work : ∀ r ∈ defaultRegions, r.isWork = false →
    r.last < 0x02000000 ∨ 0x04000000 ≤ r.first := by decide

/-- In the default table a row that owns a cell of RAM is its only owner. -/
theorem eq_of_owns_of_ram {q r : Region} {c : Nat} (hq : q ∈ defaultRegions) (hram : q.ram = true)
    (hr : r ∈ defaultRegions) (hqc : q.owns c = true) (hrc : r.owns c = true) : r = q := by
  simp only [Region.owns, Bool.and_eq_true, decide_eq_true_eq] at hqc hrc
  rcases defaultRegions_ram_disjoint q hq hram r hr with heq | hdis
  · exact heq
  · omega

/-- In the default table the rows of work RAM are those that cover an address of `[0x02000000, 0x04000000)`. -/
theorem Region.isWork_iff {r : Region} (hr : r ∈ defaultRegions) {a : Word} (h1 : r.first ≤ a.toNat)
    (h2 : a.toNat ≤ r.last) :
    r.isWork = true ↔ 0x02000000 ≤ a.toNat ∧ a.toNat < 0x04000000 := by
  cases hw : r.isWork with
  | true =>
    obtain ⟨-, -, -, hlo, hhi⟩ := defaultRegions_work r hr hw
    simp only [true_iff]; omega
  | false =>
    have := defaultRegions_not_work r hr hw
    simp only [Bool.false_eq_true, false_iff]; omega

section
variable {s : State} {a : Word} (hd : s.par.regions = defaultRegions)
include hd

/-- On the default platform the cell of an address is in work RAM exactly when the address lies in
`[0x02000000, 0x04000000)`. -/
theorem State.inWork_cell_iff {c : Nat} (hc : s.cell a = some c) :
    inWork defaultRegions c = true ↔ 0x02000000 ≤ a.toNat ∧ a.toNat < 0x04000000 := by
  obtain ⟨r, hr, h1, h2, hown⟩ := State.cell_eq_some hc
  rw [hd] at hr
  rw [← Region.isWork_iff hr h1 h2, inWork_eq_any, List.any_eq_true]
  constructor
  · rintro ⟨q, hq, hqc⟩
    obtain ⟨hqw, hqc⟩ := Bool.and_eq_true_iff.1 hqc
    obtain ⟨hram, -⟩ := defaultRegions_work q hq hqw
    rwa [eq_of_owns_of_ram hq hram hr hqc hown]
  · intro hw
    exact ⟨r, hr, Bool.and_eq_true_iff.2 ⟨hw, hown⟩⟩

/-- On the default platform an address within BOOT's window or beyond OAM's has no cell of RAM. -/
theorem State.cell_not_ram {c : Nat} (hc : s.cell a = some c) (ha : a.toNat < 0x4000 ∨ 0x08000000 ≤ a.toNat) :
    (defaultRegions.any fun r => r.ram && r.owns c) = false := by
  obtain ⟨r, hr, h1, h2, hown⟩ := State.cell_eq_some hc
  rw [hd] at hr
  refine List.any_eq_false.2 fun q hq hqc => ?_
  obtain ⟨hram, hqc⟩ := Bool.and_eq_true_iff.1 hqc
  obtain rfl := eq_of_owns_of_ram hq hram hr hqc hown
  have := defaultRegions_ram_bounds r hr hram
  omega

/-- On the default platform every address of `[0x02000000, 0x04000000)` has a cell. -/
theorem State.exists_cell_of_work (h1 : 0x02000000 ≤ a.toNat) (h2 : a.toNat < 0x04000000) : ∃ c, s.cell a = some c := by
  have hcov : ∃ r ∈ defaultRegions, r.first ≤ a.toNat ∧ a.toNat ≤ r.last := by
    by_cases h : a.toNat < 0x03000000
    · exact ⟨_, List.mem_cons_of_mem _ List.mem_cons_self, h1, Nat.le_of_lt_succ h⟩
    · exact ⟨_, List.mem_cons_of_mem _ (List.mem_cons_of_mem _ List.mem_cons_self), Nat.le_of_not_lt h,
        Nat.le_of_lt_succ h2⟩
  obtain ⟨r, hr, hr1, hr2⟩ := hcov
  obtain ⟨q, hq⟩ := exists_lookup_eq_some hr hr1 hr2
  obtain ⟨hqd, hq1, hq2⟩ := lookup_eq_some hq
  obtain ⟨-, hper, hpos, -⟩ := defaultRegions_work q hqd ((Region.isWork_iff hqd hq1 hq2).2 ⟨h1, h2⟩)
  exact ⟨q.store + q.offset a, by simp only [State.cell, hd, hq, if_pos (Region.offset_lt hper hpos a)]⟩

end

/-! ## What the reset operation does to memory -/

section
variable (s : State) (kind : ResetKind)

theorem State.resetMachine_par (fastBoot : Bool) : (s.resetMachine kind fastBoot).par = s.par := by
  cases fastBoot <;> rfl

theorem State.resetMachine_soft_mem : (s.resetMachine .soft false).mem = s.mem := rfl

theorem State.resetMachine_powerOn_mem : (s.resetMachine .powerOn false).mem = dropRam s.par.regions s.mem := rfl

theorem State.resetMachine_fastBoot_mem : (s.resetMachine kind true).mem =
    s.par.fastBoot.memory s.par.regions (s.resetMachine kind false).mem := rfl

/-- The reset operation keeps memory canonical. -/
theorem State.resetMachine_mem_wf (h : Memory.wf s.mem) : Memory.wf (s.resetMachine kind false).mem := by
  cases kind with
  | soft => exact h
  | powerOn => exact Memory.filter_wf h _

/-- The cell of an address stays where it is, whatever the reset. -/
theorem State.resetMachine_cell (fastBoot : Bool) (a : Word) : (s.resetMachine kind fastBoot).cell a = s.cell a :=
  State.cell_congr (s.resetMachine_par kind fastBoot) a

/-- A soft reset keeps every byte (R543). -/
theorem State.peek_resetMachine_soft (a : Word) : (s.resetMachine .soft false).peek a = s.peek a := by
  rw [State.peek, State.peek, s.resetMachine_cell, s.resetMachine_soft_mem]

end

/-- A power-on keeps the bytes of every cell that no row of RAM owns (R540). -/
theorem read_dropRam (regions : List Region) (m : List Host.Cell) (c : Nat) :
    Memory.read (dropRam regions m) c =
      if (regions.any fun r => r.ram && r.owns c) then Memory.unwritten else Memory.read m c := by
  rw [dropRam, Memory.read_filter m fun c => !(regions.any fun r => r.ram && r.owns c)]
  cases regions.any fun r => r.ram && r.owns c <;> rfl

/-- Fast boot leaves in work RAM the last byte `work` gives a cell, zero where it gives none (R546), and every other cell
as it was. -/
theorem FastBoot.read_memory (f : FastBoot) (regions : List Region) {m : List Host.Cell} (h : Memory.wf m) (c : Nat) :
    Memory.read (f.memory regions m) c =
      if inWork regions c then ((f.work.reverse.find? fun x => x.1 == c).map fun x => x.2).getD 0
      else Memory.read m c := by
  have hcell : ∀ x : Nat × Byte,
      decide (inWork regions x.1 = true ∧ (x.1 == c) = true) = (inWork regions c && (x.1 == c)) := by
    intro x
    by_cases hx : x.1 = c
    · simp [hx]
    · simp [beq_false_of_ne hx]
  rw [FastBoot.memory, clearWork, Memory.read_foldl_write _ _ (Memory.filter_wf h _),
    Memory.read_filter m fun c => !inWork regions c, ← List.filter_reverse, List.find?_filter]
  simp only [hcell]
  cases inWork regions c with
  | true => simp [Memory.unwritten]
  | false => simp [List.find?_eq_none.2]

section
variable {s : State} (hd : s.par.regions = defaultRegions)
include hd

/-- On the default platform a power-on keeps every byte but RAM's (R540). -/
theorem State.peek_resetMachine_powerOn {a : Word} (ha : a.toNat < 0x4000 ∨ 0x08000000 ≤ a.toNat) :
    (s.resetMachine .powerOn false).peek a = s.peek a := by
  rw [State.peek, State.peek, s.resetMachine_cell, s.resetMachine_powerOn_mem, hd]
  cases hc : s.cell a with
  | none => rfl
  | some c => rw [Option.map_some, Option.map_some, read_dropRam, State.cell_not_ram hd hc ha, if_neg Bool.false_ne_true]

/-- On the default platform fast boot puts `work` in `[0x02000000, 0x04000000)`, and leaves every other byte as the reset
does (R546). -/
theorem State.peek_resetMachine_fastBoot (hm : Memory.wf s.mem) (kind : ResetKind) (a : Word) :
    (s.resetMachine kind true).peek a =
      if 0x02000000 ≤ a.toNat ∧ a.toNat < 0x04000000 then
        (s.cell a).map fun c => ((s.par.fastBoot.work.reverse.find? fun x => x.1 == c).map fun x => x.2).getD 0
      else (s.resetMachine kind false).peek a := by
  rw [State.peek, State.peek, s.resetMachine_cell, s.resetMachine_cell, s.resetMachine_fastBoot_mem, hd]
  cases hc : s.cell a with
  | none => simp
  | some c =>
    simp only [Option.map_some, FastBoot.read_memory _ _ (s.resetMachine_mem_wf kind hm), State.inWork_cell_iff hd hc]
    split <;> rfl

/-- With the default `FastBootState` work RAM is zero (R546). -/
theorem State.peek_defaultFastBoot_work (hm : Memory.wf s.mem) (hf : s.par.fastBoot = defaultFastBoot) (kind : ResetKind)
    {a : Word} (h1 : 0x02000000 ≤ a.toNat) (h2 : a.toNat < 0x04000000) : (s.resetMachine kind true).peek a = some 0 := by
  obtain ⟨c, hc⟩ := State.exists_cell_of_work hd h1 h2
  rw [State.peek_resetMachine_fastBoot hd hm, if_pos ⟨h1, h2⟩, hc, hf]
  rfl

end

/-! ## What the reset operation does to the rest -/

/-- After fast boot a second core, where there is one, differs from the first in its index alone (R546). -/
theorem State.resetMachine_fastBoot_other (s : State) (kind : ResetKind) : (s.resetMachine kind true).other =
    s.other.map fun _ => { (s.resetMachine kind true).core with index := 1 } := Option.map_map _ _ _

/-- The table of R546 gives every register but `pc` and three stack pointers zero. -/
theorem defaultFastBoot_regs_get {p : PhysReg} (hpc : p ≠ .pc) (husr : p ≠ .sp .usr) (hirq : p ≠ .sp .irq)
    (hsvc : p ≠ .sp .svc) : defaultFastBoot.regs.get p = 0 := by
  cases p with
  | low i => exact Vector.getElem_replicate _
  | mid i => exact Vector.getElem_replicate _
  | midFiq i => exact Vector.getElem_replicate _
  | sp b =>
    cases b with
    | usr => exact absurd rfl husr
    | irq => exact absurd rfl hirq
    | svc => exact absurd rfl hsvc
    | fiq | abt | und => rfl
  | lr b => cases b <;> rfl
  | pc => exact absurd rfl hpc

/-- Settles O58: the registers and devices are the record the operation writes; the bytes follow from which row of the
default table owns the cell of an address. -/
theorem resetOperation : Obligations.ResetOperation := by
  rintro s t u kind f hd hm rfl rfl rfl
  refine ⟨rfl, rfl, rfl, rfl, rfl, rfl, rfl, rfl, rfl, rfl, ?soft, ?powerOn, rfl, rfl,
    s.resetMachine_fastBoot_other kind, rfl, rfl, rfl, rfl, rfl, rfl,
    rfl, State.peek_resetMachine_fastBoot hd hm kind, ?default⟩
  case soft => rintro rfl; exact s.peek_resetMachine_soft
  case powerOn => rintro rfl a; exact State.peek_resetMachine_powerOn hd
  case default =>
    intro hf
    exact ⟨congrArg (·.regs.pc) hf, congrArg (·.cpsr.toWord) hf, congrArg (·.regs.sp.usr) hf,
      congrArg (·.regs.sp.irq) hf, congrArg (·.regs.sp.svc) hf,
      fun p hpc husr hirq hsvc => (congrArg (·.regs.get p) hf).trans (defaultFastBoot_regs_get hpc husr hirq hsvc),
      congrArg (·.spsrs) hf, congrArg (·.seq) hf, congrArg (·.halted) hf,
      fun a => State.peek_defaultFastBoot_work hd hm hf kind, congrArg (·.postFlag) hf, congrArg (·.irq) hf,
      congrArg (·.timers) hf, congrArg (·.dma) hf, congrArg (·.waitcnt) hf⟩

/-- Settles O57: the reset state and the default parameters are closed records; what is read from a row of devices is
read from copies of one device, and the region table is looked through row by row. -/
theorem resetValues : Obligations.ResetValues := by
  unfold Obligations.ResetValues
  exact ⟨rfl, rfl, rfl, rfl, rfl, by decide, rfl, rfl, rfl, rfl, fun t => Vector.getElem_replicate _,
    fun ch => Vector.getElem_replicate _, rfl, rfl, rfl, rfl, by decide, rfl, rfl, rfl, by decide, rfl, rfl, rfl, rfl,
    rfl, rfl, rfl, rfl, rfl⟩

end Sys2Proof.Machine
end

section
/-! The devices' part of the invariant (family 10): reserved bits stay zero and dividers stay in range, whatever a
collaborator, a register access, a transfer or a cycle of the devices does. -/

namespace Sys2Proof.Machine

/-! ## The two parts as facts of each device -/

/-- The reserved bits of one DMA channel (R504). -/
def DmaChannel.Reserved (x : DmaChannel) : Prop := x.cntH &&& 0x001F = 0

/-- The divider of one timer (R49). -/
def Timer.InRange (x : Timer) : Prop := x.enable = true → x.div < prescaleDivisor x.prescale

theorem State.reservedZero_iff (s : State) : s.reservedZero = true ↔
    s.irq.enable &&& 0xC000 = 0 ∧ s.irq.pending &&& 0xC000 = 0 ∧ s.waitcnt &&& 0xA000 = 0 ∧
      ∀ ch : Fin 4, s.dma[ch].Reserved := by
  simp only [State.reservedZero, Bool.and_eq_true, beq_iff_eq, Vector.all_eq_true, and_assoc, DmaChannel.Reserved,
    Fin.forall_iff, Fin.getElem_fin]

theorem State.dividers_iff (s : State) : s.dividers = true ↔ ∀ t : Fin 4, s.timers[t].InRange := by
  simp only [State.dividers, Vector.all_eq_true, Timer.InRange, Fin.forall_iff, Fin.getElem_fin, Bool.or_eq_true,
    Bool.not_eq_true', decide_eq_true_eq, imp_iff_not_or, Bool.not_eq_true]

/-- A row of devices with one replaced, device by device. -/
theorem getElem_set_row {α : Type} (v : Vector α 4) (i j : Fin 4) (x : α) :
    (v.set i x)[j] = if i = j then x else v[j] := by
  simp only [Fin.getElem_fin, Vector.getElem_set, Fin.val_inj]

/-- No bit of a word that is masked is outside the mask. -/
theorem masked_and_eq_zero {n : Nat} (x a b : BitVec n) (h : a &&& b = 0) : x &&& a &&& b = 0 := by
  rw [BitVec.and_assoc, h]; exact BitVec.and_zero

/-! ## What keeps them -/

/-- The work keeps both parts of the invariant that speak of the devices' registers. -/
structure DevicesKept (s t : State) : Prop where
  reserved : s.reservedZero = true → t.reservedZero = true
  dividers : s.dividers = true → t.dividers = true

theorem DevicesKept.refl (s : State) : DevicesKept s s := ⟨id, id⟩

theorem DevicesKept.trans {s t u : State} (h : DevicesKept s t) (k : DevicesKept t u) : DevicesKept s u :=
  ⟨k.reserved ∘ h.reserved, k.dividers ∘ h.dividers⟩

theorem DevicesKept.of_eq {s t : State} (hi : t.irq = s.irq) (hw : t.waitcnt = s.waitcnt) (hd : t.dma = s.dma)
    (ht : t.timers = s.timers) : DevicesKept s t := by
  constructor
  · simp only [State.reservedZero, hi, hw, hd]; exact id
  · simp only [State.dividers, ht]; exact id

theorem State.setTimer_devicesKept (s : State) (t : Fin 4) (x : Timer) (hx : s.timers[t].InRange → x.InRange) :
    DevicesKept s (s.setTimer t x) := by
  refine ⟨id, fun h => ?_⟩
  rw [State.dividers_iff] at h ⊢
  intro u
  rw [State.setTimer_timers, getElem_set_row]
  split
  · exact hx (h t)
  · exact h u

theorem State.setDma_devicesKept (s : State) (ch : Fin 4) (x : DmaChannel) (hx : s.dma[ch].Reserved → x.Reserved) :
    DevicesKept s (s.setDma ch x) := by
  refine ⟨fun h => ?_, id⟩
  rw [State.reservedZero_iff] at h ⊢
  obtain ⟨he, hp, hw, hd⟩ := h
  refine ⟨he, hp, hw, fun c => ?_⟩
  rw [State.setDma_dma, getElem_set_row]
  split
  · exact hx (hd ch)
  · exact hd c

theorem State.setIrq_devicesKept (s : State) (x : Interrupts)
    (he : s.irq.enable &&& 0xC000 = 0 → x.enable &&& 0xC000 = 0)
    (hp : s.irq.pending &&& 0xC000 = 0 → x.pending &&& 0xC000 = 0) : DevicesKept s (s.setIrq x) := by
  refine ⟨fun h => ?_, id⟩
  rw [State.reservedZero_iff] at h ⊢
  obtain ⟨hse, hsp, hw, hd⟩ := h
  exact ⟨he hse, hp hsp, hw, hd⟩

theorem State.setWaitcnt_devicesKept (s : State) (v : Half) (hv : v &&& 0xA000 = 0) :
    DevicesKept s (s.setWaitcnt v) := by
  refine ⟨fun h => ?_, id⟩
  rw [State.reservedZero_iff] at h ⊢
  obtain ⟨he, hp, -, hd⟩ := h
  exact ⟨he, hp, hv, hd⟩

/-! ## Collaborators (R531) -/

/-- The work keeps the devices' part of the invariant and makes no report: nothing is charged or raised. -/
structure Unreported (s t : State) : Prop extends DevicesKept s t where
  report : t.report = s.report

theorem Unreported.refl (s : State) : Unreported s s := ⟨.refl s, rfl⟩

theorem Unreported.trans {s t u : State} (h : Unreported s t) (k : Unreported t u) : Unreported s u :=
  ⟨h.toDevicesKept.trans k.toDevicesKept, k.report.trans h.report⟩

theorem Unreported.ite {s t u : State} (p : Prop) [Decidable p] (h : Unreported s t) (k : Unreported s u) :
    Unreported s (if p then t else u) := by split <;> assumption

theorem Unreported.foldl {α : Type} {f : State → α → State} (h : ∀ s a, Unreported s (f s a)) (l : List α) (s : State) :
    Unreported s (l.foldl f s) := by
  induction l generalizing s with
  | nil => exact .refl s
  | cons a l ih => exact (h s a).trans (ih (f s a))

/-- The clock and the stored events are no device register. -/
theorem State.setSched_unreported (s : State) (x : Scheduler) : Unreported s (s.setSched x) :=
  ⟨.of_eq rfl rfl rfl rfl, rfl⟩

theorem State.setTimer_unreported (s : State) (t : Fin 4) (x : Timer) (hx : s.timers[t].InRange → x.InRange) :
    Unreported s (s.setTimer t x) := ⟨s.setTimer_devicesKept t x hx, rfl⟩

theorem State.request_unreported (s : State) (k : Nat) : Unreported s (s.request k) := by
  refine ⟨s.setIrq_devicesKept _ id fun h => ?_, rfl⟩
  have hmask : (0x3FFF : Half) &&& 0xC000 = 0 := by decide
  change (s.irq.pending ||| ((1#16 <<< k) &&& 0x3FFF)) &&& 0xC000 = 0
  rw [BitVec.and_or_distrib_right, h, masked_and_eq_zero _ _ _ hmask]
  exact BitVec.or_zero

theorem State.latchRequest_unreported (trig : BitVec 2) (s : State) (ch : Fin 4) :
    Unreported s (s.latchRequest trig ch) := by
  unfold State.latchRequest
  exact Unreported.ite _ ⟨s.setDma_devicesKept ch _ id, rfl⟩ (.refl s)

theorem State.checkSpecial_unreported (s : State) (ch : Fin 4) : Unreported s (s.checkSpecial ch) :=
  Unreported.ite _ (.refl s) (s.latchRequest_unreported 3 ch)

theorem State.collabCall_unreported (s : State) (c : CollabCall) : Unreported s (s.collabCall c) := by
  cases c with
  | request k => exact Unreported.ite _ (s.request_unreported k) (.refl s)
  | special ch => exact s.checkSpecial_unreported ch
  | schedule due id => exact Unreported.ite _ (s.setSched_unreported _) (.refl s)

theorem State.takeAnswer_unreported (s : State) : Unreported s s.takeAnswer.2 := by
  unfold State.takeAnswer
  split
  · exact .refl s
  · exact ⟨.of_eq rfl rfl rfl rfl, rfl⟩

theorem State.callback_unreported (s : State) (n : Note) : Unreported s (s.callback n).2 := by
  have noted : Unreported s (s.note n) := ⟨.of_eq rfl rfl rfl rfl, rfl⟩
  have h := noted.trans (s.note n).takeAnswer_unreported
  unfold State.callback
  split
  · next t e => rw [e] at h; exact h
  · next a t e => rw [e] at h; exact h.trans (Unreported.foldl State.collabCall_unreported _ _)

theorem State.fifoPairing_unreported (s : State) : Unreported s s.fifoPairing := by
  have h := s.takeAnswer_unreported
  unfold State.fifoPairing
  split
  · next t e => rw [e] at h; exact h
  · next a t e => rw [e] at h; exact h.trans (Unreported.foldl State.checkSpecial_unreported _ _)

/-! ## Bus accesses -/

theorem State.charge_devicesKept (s : State) (a : Word) (w : Width) (k : AccessKind) : DevicesKept s (s.charge a w k) :=
  .of_eq (s.charge_irq a w k) (s.charge_waitcnt a w k) (s.charge_dma a w k) (s.charge_timers a w k)

theorem State.setTouched_devicesKept (s : State) : DevicesKept s s.setTouched := .of_eq rfl rfl rfl rfl

theorem ioRead_devicesKept (s : State) (r : Region) (off : Nat) (w : Width) : DevicesKept s (ioRead r off w s).2 := by
  unfold ioRead
  split
  · exact (s.callback_unreported _).toDevicesKept
  · exact .refl s

theorem State.readRegion_devicesKept (s : State) (r : Region) (a : Word) (w : Width) :
    DevicesKept s (s.readRegion r a w).2 := by
  unfold State.readRegion
  dsimp only
  split
  · split
    · exact .refl s
    · exact s.setTouched_devicesKept.trans (State.callback_unreported _ _).toDevicesKept
    · exact s.setTouched_devicesKept.trans (ioRead_devicesKept _ r _ w)
    · exact s.setTouched_devicesKept.trans (State.callback_unreported s.setTouched _).toDevicesKept
  · exact .refl s

theorem State.busRead_devicesKept (s : State) (a : Word) (w : Width) (k : AccessKind) :
    DevicesKept s (s.busRead a w k).2 := by
  unfold State.busRead
  dsimp only
  split
  · exact s.charge_devicesKept a w k
  · exact (s.charge_devicesKept a w k).trans (State.readRegion_devicesKept _ _ a w)

/-- The divider stays in range at a write of the control register: it is cleared where the timer starts or the divisor
changes (R482, R486). -/
theorem Timer.writeControl_inRange (x : Timer) (v : Half) (h : x.InRange) : (x.writeControl v).InRange := by
  have hpos : ∀ p : BitVec 2, 0 < prescaleDivisor p := by decide
  intro hen
  simp only [Timer.writeControl] at hen ⊢
  split
  · exact hpos _
  · next hkeep =>
    simp only [hen, Bool.true_and, Bool.or_eq_true, Bool.not_eq_true', bne_iff_ne, ne_eq, not_or, Bool.not_eq_false,
      Classical.not_not] at hkeep
    obtain ⟨hwas, hsame⟩ := hkeep
    rw [hsame]
    exact h hwas

/-- The bits 4:0 of a channel's control register are never stored (R504, R505). -/
theorem DmaChannel.writeControl_reserved (ch : Fin 4) (x : DmaChannel) (v : Half) : (x.writeControl ch v).Reserved := by
  have hmask : dmaControlMask &&& 0x001F = 0 := by decide
  have h : v &&& dmaControlMask &&& 0x001F = 0 := masked_and_eq_zero _ _ _ hmask
  unfold DmaChannel.writeControl DmaChannel.Reserved
  dsimp only
  split
  · exact h
  · split <;> exact h

theorem IoHalf.write_devicesKept (r : IoHalf) (req : Requester) (v : Half) (low high : Bool) (s : State) :
    DevicesKept s (r.write req v low high s) := by
  have hmask : (0x3FFF : Half) &&& 0xC000 = 0 := by decide
  have hwait : (0x5FFF : Half) &&& 0xA000 = 0 := by decide
  cases r with
  | dmaSadLow ch | dmaSadHigh ch | dmaDadLow ch | dmaDadHigh ch | dmaCntL ch => exact s.setDma_devicesKept ch _ id
  | dmaCntH ch => exact s.setDma_devicesKept ch _ fun _ => DmaChannel.writeControl_reserved ch _ _
  | timerCntL t => exact s.setTimer_devicesKept t _ id
  | timerCntH t => exact s.setTimer_devicesKept t _ (Timer.writeControl_inRange _ _)
  | interruptEnable => exact s.setIrq_devicesKept _ (fun _ => masked_and_eq_zero _ _ _ hmask) id
  | interruptFlags =>
    refine s.setIrq_devicesKept _ id fun h => ?_
    change s.irq.pending &&& ~~~(mergeHalf 0 v low high) &&& 0xC000 = 0
    rw [BitVec.and_assoc, BitVec.and_comm (~~~_), ← BitVec.and_assoc, h]
    exact BitVec.zero_and
  | waitControl => exact s.setWaitcnt_devicesKept _ (masked_and_eq_zero _ _ _ hwait)
  | masterLow =>
    simp only [IoHalf.write]
    split
    · exact s.setIrq_devicesKept _ id id
    · exact .refl s
  | masterHigh => exact .refl s
  | postHalt =>
    simp only [IoHalf.write]
    split <;> split <;> exact .of_eq rfl rfl rfl rfl

theorem ioWriteHalf_devicesKept (req : Requester) (off : Nat) (v : Half) (low high : Bool) (s : State) :
    DevicesKept s (ioWriteHalf req off v low high s) := by
  unfold ioWriteHalf
  split
  · exact .refl s
  · exact IoHalf.write_devicesKept _ req v low high s

theorem ioWrite_devicesKept (req : Requester) (off : Nat) (w : Width) (v : Word) (s : State) :
    DevicesKept s (ioWrite req off w v s) := by
  unfold ioWrite
  split
  · exact (s.callback_unreported _).toDevicesKept
  · split
    · split <;> exact ioWriteHalf_devicesKept ..
    · exact ioWriteHalf_devicesKept ..
    · exact (ioWriteHalf_devicesKept ..).trans (ioWriteHalf_devicesKept ..)

theorem State.put_devicesKept (s : State) (t : Option (Nat × Width × Word)) : DevicesKept s (s.put t) := by
  cases t with
  | none => exact .refl s
  | some x => exact .of_eq rfl rfl rfl rfl

theorem videoWrite_devicesKept (t : Option (Nat × Width × Word)) (s : State) : DevicesKept s (videoWrite t s) := by
  cases t with
  | none => exact .refl s
  | some x => exact (s.callback_unreported _).toDevicesKept

theorem backupWrite_devicesKept (r : Region) (off : Nat) (v : Word) (s : State) :
    DevicesKept s (backupWrite r off v s) := by
  have stored : DevicesKept s (s.setMem (Memory.write s.mem (r.store + off) (lane v 0))) := .of_eq rfl rfl rfl rfl
  exact stored.trans (State.callback_unreported _ _).toDevicesKept

theorem State.writeRegion_devicesKept (s : State) (req : Requester) (r : Region) (a : Word) (w : Width) (v : Word) :
    DevicesKept s (s.writeRegion req r a w v) := by
  have touched := s.setTouched_devicesKept
  unfold State.writeRegion
  dsimp only
  split
  · split
    · exact s.put_devicesKept _
    · exact (touched.trans (State.put_devicesKept _ _)).trans (videoWrite_devicesKept _ _)
    · split
      · exact touched.trans (ioWrite_devicesKept req _ w v _)
      · exact touched
    · split
      · exact touched.trans (backupWrite_devicesKept r _ v _)
      · exact touched
  · exact .refl s

theorem State.busWrite_devicesKept (s : State) (req : Requester) (a : Word) (w : Width) (v : Word) (k : AccessKind) :
    DevicesKept s (s.busWrite req a w v k) := by
  have charged := s.charge_devicesKept a w k
  unfold State.busWrite
  dsimp only
  split
  · exact charged
  · exact charged.trans (State.writeRegion_devicesKept _ req _ a w v)

/-! ## A DMA transfer (R507) -/

theorem State.dmaUnit_devicesKept (s : State) (ch : Fin 4) (w : Width) (a b : BitVec 2) (k : AccessKind) :
    DevicesKept s (s.dmaUnit ch w a b k) := by
  unfold State.dmaUnit
  dsimp only
  refine DevicesKept.trans ?_ (State.setDma_devicesKept _ ch _ id)
  exact (s.busRead_devicesKept _ w k).trans (State.busWrite_devicesKept _ _ _ w _ k)

theorem State.dmaUnits_devicesKept (s : State) (ch : Fin 4) (w : Width) (a b : BitVec 2) (n : Nat) (k : AccessKind) :
    DevicesKept s (s.dmaUnits ch w a b n k) := by
  induction n generalizing s k with
  | zero => exact .refl s
  | succ n ih => exact (s.dmaUnit_devicesKept ch w a b k).trans (ih _ _)

/-- At the end of a transfer a channel is reloaded or disabled; its reserved bits stay zero (R510). -/
theorem DmaChannel.completed_reserved {x : DmaChannel} (h : x.Reserved) (ch : Fin 4) (again : Bool) :
    (if again then x.reload ch else { x with cntH := x.cntH &&& 0x7FFF }).Reserved := by
  cases again with
  | true => exact h
  | false =>
    have h : x.cntH &&& 0x001F = 0 := h
    change x.cntH &&& 0x7FFF &&& 0x001F = 0
    rw [BitVec.and_assoc, BitVec.and_comm 0x7FFF, ← BitVec.and_assoc, h]
    exact BitVec.zero_and

theorem State.dmaCompletion_devicesKept (s : State) (ch : Fin 4) : DevicesKept s (s.dmaCompletion ch) := by
  unfold State.dmaCompletion
  dsimp only
  exact DevicesKept.trans (Unreported.ite _ (s.request_unreported _) (.refl s)).toDevicesKept
    (State.setDma_devicesKept _ ch _ fun h => DmaChannel.completed_reserved h ch _)

theorem State.dmaTransfer_devicesKept (s : State) (ch : Fin 4) : DevicesKept s (s.dmaTransfer ch) := by
  have charged : DevicesKept s (s.addCost s.par.internal.dma) := .of_eq rfl rfl rfl rfl
  unfold State.dmaTransfer
  dsimp only
  refine DevicesKept.trans ?_ (State.dmaCompletion_devicesKept _ ch)
  refine DevicesKept.trans ?_ (State.setDma_devicesKept _ ch _ id)
  exact charged.trans (State.dmaUnits_devicesKept _ ch _ _ _ _ _)

end Sys2Proof.Machine
end

section
/-! The invariant at a checkpoint (family 10): choosing a core and advancing the devices keep it. -/

namespace Sys2Proof.Machine

/-! ## The timers' cycle (R483) -/

/-- The work keeps the devices' part of the invariant, reports nothing, and leaves the scanline position. -/
structure Counted (s t : State) : Prop extends Unreported s t where
  line : t.sched.line = s.sched.line
  dot : t.sched.dot = s.sched.dot

theorem Counted.refl (s : State) : Counted s s := ⟨.refl s, rfl, rfl⟩

theorem Counted.trans {s t u : State} (h : Counted s t) (k : Counted t u) : Counted s u :=
  ⟨h.toUnreported.trans k.toUnreported, k.line.trans h.line, k.dot.trans h.dot⟩

theorem Counted.ite {s t u : State} (p : Prop) [Decidable p] (h : Counted s t) (k : Counted s u) :
    Counted s (if p then t else u) := by split <;> assumption

theorem Counted.foldl {α : Type} {f : State → α → State} (h : ∀ s a, Counted s (f s a)) (l : List α) (s : State) :
    Counted s (l.foldl f s) := by
  induction l generalizing s with
  | nil => exact .refl s
  | cons a l ih => exact (h s a).trans (ih (f s a))

theorem Counted.of_sheltered {s t : State} (h : Sheltered s t) (k : Unreported s t) : Counted s t :=
  ⟨k, h.line, h.dot⟩

theorem State.setTimer_counted (s : State) (t : Fin 4) (x : Timer) (hx : s.timers[t].InRange → x.InRange) :
    Counted s (s.setTimer t x) := ⟨s.setTimer_unreported t x hx, rfl, rfl⟩

theorem State.increment_counted (s : State) (l : List (Fin 4)) : Counted s (s.increment l) := by
  induction l generalizing s with
  | nil => exact .refl s
  | cons t rest ih =>
    unfold State.increment
    dsimp only
    split
    · refine Counted.trans (s.setTimer_counted t { s.timers[t] with counter := s.timers[t].reload } id) ?_
      generalize s.setTimer t { s.timers[t] with counter := s.timers[t].reload } = u
      refine Counted.trans (Counted.ite (s.timers[t].irqEn = true)
        (.of_sheltered (u.request_sheltered (3 + t.val)) (u.request_unreported _)) (.refl u)) ?_
      generalize (if s.timers[t].irqEn = true then u.request (3 + t.val) else u) = v
      refine Counted.trans (.of_sheltered v.fifoPairing_sheltered v.fifoPairing_unreported) ?_
      split
      · exact .refl _
      · exact Counted.ite _ (ih _) (.refl _)
    · exact s.setTimer_counted t _ id

/-- The divider stays in range: it starts again where the next count would reach the divisor (R483). -/
theorem State.tickOne_counted (s : State) (l : List (Fin 4)) : Counted s (s.tickOne l) := by
  have hpos : ∀ p : BitVec 2, 0 < prescaleDivisor p := by decide
  cases l with
  | nil => exact .refl s
  | cons t rest =>
    unfold State.tickOne
    dsimp only
    split
    · split
      · exact (s.setTimer_counted t _ fun _ _ => hpos _).trans (State.increment_counted _ _)
      · next hlt => exact s.setTimer_counted t _ fun _ _ => Nat.lt_of_not_le hlt
    · exact .refl s

theorem State.tickTimers_counted (s : State) : Counted s s.tickTimers := Counted.foldl State.tickOne_counted _ _

/-! ## The scanline (R471) -/

theorem State.fireTicks_unreported (s : State) (T : Nat) : Unreported s (s.fireTicks T) :=
  (s.setSched_unreported _).trans (Unreported.foldl (fun u _ => u.callback_unreported _) _ _)

theorem State.hblank_unreported (s : State) : Unreported s s.hblank := by
  have emitted : Unreported s (s.emit (.hblankStart s.sched.line)) := s.callback_unreported _
  exact Unreported.ite _ (emitted.trans (Unreported.foldl (State.latchRequest_unreported 2) _ _)) emitted

/-- The position at the start of the next line (R471). -/
def State.nextLine (s : State) : State :=
  s.setSched { s.sched with dot := 0, line := (s.sched.line + 1) % s.par.linesPerFrame }

/-- Beside the position, the end of a line only calls collaborators and DMA triggers. -/
theorem State.endOfLine_counted (s : State) : Counted s.nextLine s.endOfLine := by
  have called : ∀ (u : State) (x : Signal), Counted u (u.emit x) := fun u x =>
    .of_sheltered (u.callback_sheltered _) (u.callback_unreported _)
  have triggered : ∀ u : State, Counted u u.checkVBlank := fun u =>
    .of_sheltered (Sheltered.foldl (State.latchRequest_sheltered 1) _ u)
      (Unreported.foldl (State.latchRequest_unreported 1) _ u)
  unfold State.endOfLine
  dsimp only
  refine Counted.trans ?_ (Counted.ite _ (called _ _) (.refl _))
  refine Counted.trans ?_ (Counted.ite _ (triggered _) (.refl _))
  exact called s.nextLine _

/-- The position at the next cycle of the line. -/
def State.nextDot (s : State) : State := s.setSched { s.sched with dot := s.sched.dot + 1 }

/-- The state before a line may end: the position moved on, the HBlank signal sent where it is due (R471). -/
def State.beforeLineEnd (s : State) : State :=
  if s.sched.dot + 1 = s.par.hblankStart then s.nextDot.hblank else s.nextDot

theorem State.scanline_eq (s : State) : s.scanline =
    if s.sched.dot + 1 = s.par.lineCycles then s.beforeLineEnd.endOfLine else s.beforeLineEnd := by
  have hpar : s.beforeLineEnd.par = s.par := by
    unfold State.beforeLineEnd
    split
    · exact (State.hblank_sheltered _).par
    · rfl
  rw [← hpar]
  rfl

theorem State.beforeLineEnd_sheltered (s : State) : Sheltered s.nextDot s.beforeLineEnd :=
  Sheltered.ite _ (State.hblank_sheltered _) (.refl _)

theorem State.beforeLineEnd_unreported (s : State) : Unreported s s.beforeLineEnd :=
  (s.setSched_unreported _).trans (Unreported.ite _ (State.hblank_unreported _) (.refl _))

theorem State.scanline_unreported (s : State) : Unreported s s.scanline := by
  rw [State.scanline_eq]
  refine Unreported.ite _ ?_ s.beforeLineEnd_unreported
  exact s.beforeLineEnd_unreported.trans
    ((State.setSched_unreported _ _).trans (State.endOfLine_counted _).toUnreported)

theorem State.inFrame_iff (s : State) :
    s.inFrame = true ↔ s.sched.dot < s.par.lineCycles ∧ s.sched.line < s.par.linesPerFrame := by
  simp [State.inFrame]

/-- The position stays inside the frame (R49, R471). -/
theorem State.scanline_inFrame (s : State) (h : s.inFrame = true) : s.scanline.inFrame = true := by
  rw [State.inFrame_iff] at h
  obtain ⟨hdot, hline⟩ := h
  have before := s.beforeLineEnd_sheltered
  rw [State.inFrame_iff, s.scanline_worked.par, State.scanline_eq]
  split
  · have ended := s.beforeLineEnd.endOfLine_counted
    rw [ended.dot, ended.line]
    have hlines : s.beforeLineEnd.par.linesPerFrame = s.par.linesPerFrame := congrArg (·.linesPerFrame) before.par
    refine ⟨Nat.lt_of_le_of_lt (Nat.zero_le _) hdot, ?_⟩
    exact hlines ▸ Nat.mod_lt _ (hlines.symm ▸ Nat.lt_of_le_of_lt (Nat.zero_le _) hline)
  · next hlast =>
    rw [before.dot, before.line]
    exact ⟨Nat.lt_of_le_of_ne hdot hlast, hline⟩

/-! ## A cycle of the devices (R465) -/

theorem State.advanceOne_unreported (s : State) : Unreported s s.advanceOne :=
  (s.setSched_unreported _).trans ((State.fireTicks_unreported _ _).trans
    ((State.scanline_unreported _).trans (State.tickTimers_counted _).toUnreported))

theorem State.inFrame_congr {s t : State} (hp : t.par = s.par) (hl : t.sched.line = s.sched.line)
    (hd : t.sched.dot = s.sched.dot) : t.inFrame = s.inFrame := by
  simp only [State.inFrame, hp, hl, hd]

theorem State.advanceOne_inFrame (s : State) (h : s.inFrame = true) : s.advanceOne.inFrame = true := by
  have fired := (s.laterBy 1).fireTicks_sheltered (s.sched.devNow + 1)
  have ticked := State.tickTimers_counted ((s.laterBy 1).fireTicks (s.sched.devNow + 1)).scanline
  have worked := State.tickTimers_worked ((s.laterBy 1).fireTicks (s.sched.devNow + 1)).scanline
  exact (State.inFrame_congr worked.par ticked.line ticked.dot).trans
    (State.scanline_inFrame _ ((State.inFrame_congr fired.par fired.line fired.dot).trans h))

/-! ## The invariant, part by part -/

theorem State.onTime_iff (s : State) : s.onTime = true ↔
    s.sched.devNow ≤ s.sched.now ∧ s.sched.now ≤ s.core.time ∧ ∀ o, s.other = some o → s.sched.now ≤ o.time := by
  unfold State.onTime
  cases s.other <;> simp [and_assoc]

theorem State.eventsAhead_iff (s : State) :
    s.eventsAhead = true ↔ ∀ x ∈ s.sched.ticks, s.sched.devNow ≤ x.due := by
  simp [State.eventsAhead]

/-- The times of a state that meets the invariant: `dev_now <= now <= t[c]` (R460). -/
theorem State.Inv.times {s : State} (h : s.Inv) :
    s.sched.devNow ≤ s.sched.now ∧ s.sched.now ≤ s.core.time ∧ ∀ o, s.other = some o → s.sched.now ≤ o.time := by
  obtain ⟨-, -, -, -, -, -, htime, -, -⟩ := h
  exact s.onTime_iff.1 htime

/-- A cycle that does not take the devices past `now` keeps the invariant. -/
theorem State.advanceOne_inv (s : State) (h : s.Inv) (hdue : s.sched.devNow + 1 ≤ s.sched.now) : s.advanceOne.Inv := by
  obtain ⟨-, hnow, hotime⟩ := h.times
  obtain ⟨hmem, hcore, hother, hres, hdiv, hframe, -, -, hcost⟩ := h
  have kept := s.advanceOne_unreported
  have hframe := s.advanceOne_inFrame hframe
  have hahead := s.advanceOne.eventsAhead_iff.2 s.advanceOne_ticks
  have adv := s.advanceOne_advanced
  generalize s.advanceOne = t at adv kept hframe hahead ⊢
  obtain ⟨-, ecore, eother, emem, -, -, -, -, enow, edev, -⟩ := adv
  simp only [State.laterBy_core, State.laterBy_other, State.laterBy_mem, State.laterBy_now, State.laterBy_devNow] at *
  refine ⟨emem ▸ hmem, ecore ▸ hcore, eother ▸ hother, kept.reserved hres, kept.dividers hdiv, hframe,
    t.onTime_iff.2 ?_, hahead, kept.report ▸ hcost⟩
  rw [edev, enow, ecore, eother]
  exact ⟨hdue, hnow, hotime⟩

theorem State.advanceBy_inv (s : State) (n : Nat) (h : s.Inv) (hdue : s.sched.devNow + n ≤ s.sched.now) :
    (s.advanceBy n).Inv := by
  induction n generalizing s with
  | zero => exact h
  | succ n ih =>
    have adv := s.advanceOne_advanced
    have hdev : s.advanceOne.sched.devNow = s.sched.devNow + 1 := adv.devNow
    have hnow : s.advanceOne.sched.now = s.sched.now := adv.now
    rw [State.advanceBy_succ]
    exact ih s.advanceOne (s.advanceOne_inv h (by omega)) (by omega)

/-- The core chosen is no later than the other (R472). -/
theorem State.select_cases (s : State) : (s.select = s ∧ ∀ o, s.other = some o → s.core.time ≤ o.time) ∨
    ∃ o, s.other = some o ∧ o.time ≤ s.core.time ∧ s.select = { s with core := o, other := some s.core } := by
  unfold State.select
  split
  · next hn => exact .inl ⟨rfl, fun o ho => by rw [hn] at ho; cases ho⟩
  · next o ho =>
    split
    · next hlt => exact .inr ⟨o, ho, by omega, rfl⟩
    · next hge =>
      refine .inl ⟨rfl, fun p hp => ?_⟩
      rw [ho] at hp
      cases hp
      omega

/-- Choosing the core keeps the invariant; neither core is behind the chosen one. -/
theorem State.select_inv (s : State) (h : s.Inv) :
    s.select.Inv ∧ ∀ o, s.select.other = some o → s.select.core.time ≤ o.time := by
  rcases s.select_cases with ⟨heq, hle⟩ | ⟨o, ho, hle, heq⟩
  · rw [heq]; exact ⟨h, hle⟩
  · obtain ⟨hmem, hcore, hother, hres, hdiv, hframe, htime, hahead, hcost⟩ := h
    obtain ⟨hdev, hnow, hotime⟩ := s.onTime_iff.1 htime
    rw [heq]
    refine ⟨⟨hmem, hother o ho, ?_, hres, hdiv, hframe, (State.onTime_iff _).2 ⟨hdev, hotime o ho, ?_⟩, hahead,
      hcost⟩, ?_⟩
    · rintro p ⟨⟩; exact hcore
    · rintro p ⟨⟩; exact hnow
    · rintro p ⟨⟩; exact hle

theorem State.begin_inv (s : State) (h : s.Inv) : s.begin.Inv := by
  obtain ⟨hs, hle⟩ := s.select_inv h
  obtain ⟨hdev, hnow, -⟩ := hs.times
  obtain ⟨hmem, hcore, hother, hres, hdiv, hframe, -, hahead, -⟩ := hs
  exact ⟨hmem, hcore, hother, hres, hdiv, hframe, (State.onTime_iff _).2 ⟨hdev.trans hnow, Nat.le_refl _, hle⟩, hahead,
    rfl⟩

/-- What a step's checkpoint looks at meets the invariant (R467). -/
theorem State.atCheckpoint_inv (s : State) (h : s.Inv) : s.atCheckpoint.Inv := by
  have hb := s.begin_inv h
  obtain ⟨hdev, -, -⟩ := hb.times
  exact State.advanceBy_inv _ _ hb (by omega)

end Sys2Proof.Machine
end

section
/-! The invariant along a step (family 10): alignment of `pc`, what work of any kind leaves and keeps, the entry of an
exception, and the end of a step. -/

namespace Sys2Proof.Machine

/-! ## Alignment of `pc` (R32, R33) -/

theorem alignHalf_low (v : Word) : (alignHalf v).getLsbD 0 = false := by
  simp [alignHalf]

theorem alignWord_low (v : Word) : (alignWord v).extractLsb' 0 2 = 0 := by
  have hmask : (0xFFFFFFFC : Word).extractLsb' 0 2 = 0 := by decide
  rw [alignWord, BitVec.extractLsb'_and, hmask]
  exact BitVec.and_zero

theorem add_two_low (v : Word) (h : v.getLsbD 0 = false) : (v + 2).getLsbD 0 = false := by
  rw [BitVec.getLsbD_add (by decide), h]
  simp

theorem add_four_low (v : Word) (h : v.extractLsb' 0 2 = 0) : (v + 4).extractLsb' 0 2 = 0 := by
  apply BitVec.eq_of_toNat_eq
  have h := congrArg BitVec.toNat h
  simp [BitVec.toNat_add] at h ⊢
  omega

theorem Core.aligned_iff (c : Core) : c.aligned = true ↔
    if c.cpsr.t then c.regs.pc.getLsbD 0 = false else c.regs.pc.extractLsb' 0 2 = 0 := by
  unfold Core.aligned
  split <;> simp

theorem Core.aligned_congr {c d : Core} (ht : d.cpsr.t = c.cpsr.t) (hpc : d.regs.pc = c.regs.pc) :
    d.aligned = c.aligned := by
  simp only [Core.aligned, ht, hpc]

theorem State.advance_aligned (s : State) (h : s.core.aligned = true) : s.advance.core.aligned = true := by
  have hpc : s.advance.core.regs.pc = s.core.regs.pc + s.step := s.advance_pc
  rw [Core.aligned_iff] at h ⊢
  rw [State.advance_core_cpsr, hpc, State.step]
  split
  · next ht => rw [if_pos ht] at h; exact add_two_low _ h
  · next ht => rw [if_neg ht] at h; exact add_four_low _ h

theorem State.writePc_aligned (s : State) (v : Word) : (s.writePc v).core.aligned = true := by
  have hpc : (s.writePc v).core.regs.pc = s.alignPc v := s.writePc_pc v
  have ht : (s.writePc v).core.cpsr = s.core.cpsr := congrArg (·.cpsr) (s.writePc_core v)
  rw [Core.aligned_iff, hpc, ht, State.alignPc]
  split
  · exact alignHalf_low v
  · exact alignWord_low v

/-! ## What work of any kind leaves and keeps -/

/-- What an instruction, an exception entry or a transfer never touches (the other core, the parameters, the times, the
scanline position), and the parts of the invariant it keeps. -/
structure Lawful (s t : State) : Prop extends DevicesKept s t where
  par : t.par = s.par
  other : t.other = s.other
  now : t.sched.now = s.sched.now
  devNow : t.sched.devNow = s.sched.devNow
  line : t.sched.line = s.sched.line
  dot : t.sched.dot = s.sched.dot
  wf : Memory.wf s.mem → Memory.wf t.mem
  ticks : ∀ x ∈ t.sched.ticks, x ∈ s.sched.ticks ∨ s.sched.devNow ≤ x.due
  index : t.core.index = s.core.index
  time : t.core.time = s.core.time
  aligned : s.core.aligned = true → t.core.aligned = true

theorem Lawful.refl (s : State) : Lawful s s :=
  ⟨.refl s, rfl, rfl, rfl, rfl, rfl, rfl, id, fun _ h => .inl h, rfl, rfl, id⟩

theorem Lawful.trans {s t u : State} (h : Lawful s t) (k : Lawful t u) : Lawful s u :=
  ⟨h.toDevicesKept.trans k.toDevicesKept, k.par.trans h.par, k.other.trans h.other, k.now.trans h.now,
    k.devNow.trans h.devNow, k.line.trans h.line, k.dot.trans h.dot, k.wf ∘ h.wf,
    fun x hx => (k.ticks x hx).elim (h.ticks x) fun d => .inr (h.devNow ▸ d), k.index.trans h.index,
    k.time.trans h.time, k.aligned ∘ h.aligned⟩

/-- Work that touches no device and no memory is lawful if it keeps the core's name, time and alignment. -/
theorem Lawful.of_devices {s t : State} (h : SameDevices s t) (hm : t.mem = s.mem) (hi : t.core.index = s.core.index)
    (ht : t.core.time = s.core.time) (ha : s.core.aligned = true → t.core.aligned = true) : Lawful s t := by
  obtain ⟨hpar, hother, hirq, htimers, hdma, hwait, -, hsched, -, -⟩ := h
  refine ⟨.of_eq hirq hwait hdma htimers, hpar, hother, ?_, ?_, ?_, ?_, fun h => hm ▸ h, ?_, hi, ht, ha⟩
  all_goals rw [hsched]
  exact fun _ h => .inl h

/-- A write through the Bus, or a transfer, changes of the core the halt flag at most. -/
theorem Lawful.of_writeFrame {s t : State} (h : WriteFrame s t) (k : DevicesKept s t) : Lawful s t := by
  obtain ⟨b, hcore⟩ := h.core
  exact ⟨k, h.par, h.other, h.now, h.devNow, h.line, h.dot, h.wf, h.ticks, by rw [hcore], by rw [hcore],
    fun ha => by rw [hcore]; exact ha⟩

theorem State.dmaTransfer_lawful (s : State) (ch : Fin 4) : Lawful s (s.dmaTransfer ch) :=
  .of_writeFrame (s.dmaTransfer_frame ch) (s.dmaTransfer_devicesKept ch)

/-! ## Exception entry (R402, R410) -/

theorem ExceptionKind.vector_low (k : ExceptionKind) : k.vector.extractLsb' 0 2 = 0 := by cases k <;> rfl

theorem State.enterException_lawful (s : State) (k : ExceptionKind) (ret : Word) :
    Lawful s (s.enterException k ret) := by
  have hcore := s.enterException_core k ret
  refine .of_devices (s.enterException_devices k ret) (s.enterException_mem k ret) (by rw [hcore]) (by rw [hcore])
    fun _ => ?_
  rw [hcore, Core.aligned_iff]
  simpa using k.vector_low

/-- The state after an exception entry is the one R410 describes. -/
theorem State.enterException_entered (s : State) (k : ExceptionKind) (ret : Word) :
    Entered k ret s (s.enterException k ret) := by
  have hcore := s.enterException_core k ret
  have hdev := s.enterException_devices k ret
  have hlr : physReg k.mode 14 ≠ .pc := physReg_ne_pc (by decide)
  refine ⟨by rw [hcore], by rw [hcore], by rw [hcore], by rw [hcore], ?_, by rw [hcore], ?_, ?_, ?_, ?_, by rw [hcore],
    hdev, rfl⟩
  · rw [SameFlags, hcore]; exact ⟨rfl, rfl, rfl, rfl⟩
  · rw [State.getMode, hcore]; simp [hlr]
  · rw [State.pc, hcore]; simp
  · intro p hp hne
    rw [hcore, RegFile.get_set, if_neg hp, RegFile.get_set, if_neg (by simpa using hne)]
  · intro a
    obtain ⟨hpar, -⟩ := hdev
    rw [State.peek, State.peek, State.cell_congr hpar, State.enterException_mem]

/-- What an entry costs is no part of what it does. -/
theorem Entered.of_addCost {k : ExceptionKind} {ret : Word} {s t : State} {n : Nat}
    (h : Entered k ret (s.addCost n) t) : Entered k ret s t :=
  ⟨h.mode, h.variant, h.masked, h.fast, h.flags, h.saved, h.link, h.vector, h.regs, h.bytes, h.halted, h.devices,
    h.raised⟩

theorem State.takeUndefined_entered (s : State) : Entered .undefined (s.pc + s.step) s s.takeUndefined :=
  (State.enterException_entered _ _ _).of_addCost

theorem State.takeSoftware_entered (s : State) : Entered .software (s.pc + s.step) s s.takeSoftware :=
  s.enterException_entered _ _

theorem State.addCost_lawful (s : State) (n : Nat) : Lawful s (s.addCost n) :=
  .of_devices ⟨rfl, rfl, rfl, rfl, rfl, rfl, rfl, rfl, rfl, rfl⟩ rfl rfl rfl id

theorem State.takeUndefined_lawful (s : State) : Lawful s s.takeUndefined :=
  (s.addCost_lawful _).trans (State.enterException_lawful _ _ _)

theorem State.takeSoftware_lawful (s : State) : Lawful s s.takeSoftware := s.enterException_lawful _ _

theorem State.takeInterrupt_lawful (s : State) : Lawful s s.takeInterrupt :=
  (s.addCost_lawful _).trans (State.enterException_lawful _ _ _)

theorem State.wake_lawful (s : State) : Lawful s s.wake := by
  unfold State.wake
  split
  · exact .of_devices ⟨rfl, rfl, rfl, rfl, rfl, rfl, rfl, rfl, rfl, rfl⟩ rfl rfl rfl id
  · exact .refl s

/-! ## The end of a step (R467) -/

section
variable {s t : State} (h : Lawful s t) (hs : s.Inv)
include h hs

theorem Lawful.times : t.sched.devNow ≤ t.sched.now ∧ t.sched.now ≤ t.core.time ∧
    ∀ o, t.other = some o → t.sched.now ≤ o.time := by
  rw [h.devNow, h.now, h.time, h.other]; exact hs.times

theorem Lawful.other_aligned : ∀ o, t.other = some o → o.aligned = true := by
  obtain ⟨-, -, hother, -⟩ := hs
  rw [h.other]; exact hother

theorem Lawful.eventsAhead : t.eventsAhead = true := by
  obtain ⟨-, -, -, -, -, -, -, hahead, -⟩ := hs
  rw [State.eventsAhead_iff] at hahead ⊢
  rw [h.devNow]
  exact fun x hx => (h.ticks x hx).elim (hahead x) id

/-- After lawful work of a core the invariant holds again, whatever the work cost (R467, R560, R569). -/
theorem Lawful.inv_settleBy (k : Nat) : (t.settleBy k).Inv := by
  obtain ⟨hdev, hnow, hotime⟩ := h.times hs
  have hother := h.other_aligned hs
  have hahead := h.eventsAhead hs
  obtain ⟨hmem, hcore, -, hres, hdiv, hframe, -, -, -⟩ := hs
  exact ⟨h.wf hmem, h.aligned hcore, hother, h.reserved hres, h.dividers hdiv,
    (State.inFrame_congr h.par h.line h.dot).trans hframe,
    (State.onTime_iff _).2 ⟨hdev, hnow.trans (Nat.le_add_right _ _), hotime⟩, hahead, rfl⟩

/-- After a transfer the invariant holds again, whatever it cost (R467, R513). -/
theorem Lawful.inv_settleDmaBy (k : Nat) : (t.settleDmaBy k).Inv := by
  obtain ⟨hdev, hnow, hotime⟩ := h.times hs
  have hother := h.other_aligned hs
  have hahead := h.eventsAhead hs
  obtain ⟨hmem, hcore, -, hres, hdiv, hframe, -, -, -⟩ := hs
  refine ⟨h.wf hmem, h.aligned hcore, fun o ho => ?_, h.reserved hres, h.dividers hdiv,
    (State.inFrame_congr h.par h.line h.dot).trans hframe,
    (State.onTime_iff _).2 ⟨hdev, hnow.trans (Nat.le_max_left _ _), fun o ho => ?_⟩, hahead, rfl⟩
  all_goals obtain ⟨p, hp, rfl⟩ := Option.map_eq_some_iff.1 ho
  · exact hother p hp
  · exact (hotime p hp).trans (Nat.le_max_left _ _)

end

/-- A core whose time moves on keeps the invariant (R473). -/
theorem State.setTime_inv (s : State) (k : Nat) (hs : s.Inv) (hk : s.core.time ≤ k) : (s.setTime k).Inv := by
  obtain ⟨hdev, hnow, hotime⟩ := hs.times
  obtain ⟨hmem, hcore, hother, hres, hdiv, hframe, -, hahead, hcost⟩ := hs
  exact ⟨hmem, hcore, hother, hres, hdiv, hframe, (State.onTime_iff _).2 ⟨hdev, hnow.trans hk, hotime⟩, hahead, hcost⟩

/-- A halted core's time moves on (R473). -/
theorem State.time_le_haltedTime (s : State) : s.core.time ≤ s.haltedTime :=
  (Nat.le_succ _).trans (Nat.le_max_left _ _)

end Sys2Proof.Machine
end

section
/-! What an instruction may change (family 10): a bound on the changes of each piece of work, kept by each operation
the instructions are made of. -/

namespace Sys2Proof.Machine

/-! ## A bound on what work changes -/

/-- What a piece of work may change beside `pc`: general registers, the condition codes, the masks and the mode, the
variant, a saved status register, the halt flag, a device. -/
structure May where
  dests : List PhysReg := []
  flags : Bool := false
  control : Bool := false
  variant : Bool := false
  saved : Bool := false
  halted : Bool := false
  devices : Bool := false

/-- `t` is a lawful state after `s` that differs from it only where `m` says. -/
structure Within (m : May) (s t : State) : Prop extends Lawful s t where
  regs : RegsExcept m.dests s t
  flags : m.flags = false → SameFlags s t
  control : m.control = false → SameControl s t
  variant : m.variant = false → t.core.cpsr.t = s.core.cpsr.t
  saved : m.saved = false → t.core.spsrs = s.core.spsrs
  halted : m.halted = false → t.core.halted = s.core.halted
  devices : m.devices = false → SameDevices s t

theorem SameFlags.trans {s t u : State} (h : SameFlags s t) (k : SameFlags t u) : SameFlags s u := by
  obtain ⟨hn, hz, hc, hv⟩ := h
  obtain ⟨kn, kz, kc, kv⟩ := k
  exact ⟨kn.trans hn, kz.trans hz, kc.trans hc, kv.trans hv⟩

theorem SameControl.trans {s t u : State} (h : SameControl s t) (k : SameControl t u) : SameControl s u := by
  obtain ⟨hi, hf, hm⟩ := h
  obtain ⟨ki, kf, km⟩ := k
  exact ⟨ki.trans hi, kf.trans hf, km.trans hm⟩

theorem SameDevices.trans {s t u : State} (h : SameDevices s t) (k : SameDevices t u) : SameDevices s u := by
  obtain ⟨h1, h2, h3, h4, h5, h6, h7, h8, h9, h10⟩ := h
  obtain ⟨k1, k2, k3, k4, k5, k6, k7, k8, k9, k10⟩ := k
  exact ⟨k1.trans h1, k2.trans h2, k3.trans h3, k4.trans h4, k5.trans h5, k6.trans h6, k7.trans h7, k8.trans h8,
    k9.trans h9, k10.trans h10⟩

theorem SameFlags.of_cpsr {s t : State} (h : t.core.cpsr = s.core.cpsr) : SameFlags s t := by
  rw [SameFlags, h]; exact ⟨rfl, rfl, rfl, rfl⟩

theorem SameControl.of_cpsr {s t : State} (h : t.core.cpsr = s.core.cpsr) : SameControl s t := by
  rw [SameControl, h]; exact ⟨rfl, rfl, rfl⟩

theorem SameDevices.refl (s : State) : SameDevices s s := ⟨rfl, rfl, rfl, rfl, rfl, rfl, rfl, rfl, rfl, rfl⟩

section
variable {m : May} {s t u : State}

theorem Within.refl (s : State) : Within m s s :=
  ⟨.refl s, fun _ _ _ => rfl, fun _ => .of_cpsr rfl, fun _ => .of_cpsr rfl, fun _ => rfl, fun _ => rfl, fun _ => rfl,
    fun _ => .refl s⟩

theorem Within.trans (h : Within m s t) (k : Within m t u) : Within m s u :=
  ⟨h.toLawful.trans k.toLawful, fun p hp hne => (k.regs p hp hne).trans (h.regs p hp hne),
    fun e => (h.flags e).trans (k.flags e), fun e => (h.control e).trans (k.control e),
    fun e => (k.variant e).trans (h.variant e), fun e => (k.saved e).trans (h.saved e),
    fun e => (k.halted e).trans (h.halted e), fun e => (h.devices e).trans (k.devices e)⟩

/-- Work on the general registers and `pc` alone. -/
theorem Within.of_regs (hc : t.core = { s.core with regs := t.core.regs, seq := t.core.seq }) (hd : SameDevices s t)
    (hm : t.mem = s.mem) (ha : s.core.aligned = true → t.core.aligned = true) (hr : RegsExcept m.dests s t) :
    Within m s t := by
  have hcpsr : t.core.cpsr = s.core.cpsr := by rw [hc]
  exact ⟨.of_devices hd hm (by rw [hc]) (by rw [hc]) ha, hr, fun _ => .of_cpsr hcpsr, fun _ => .of_cpsr hcpsr,
    fun _ => by rw [hcpsr], fun _ => by rw [hc], fun _ => by rw [hc], fun _ => hd⟩

/-- Work that changes nothing the bound speaks of: costs, the kind of the next fetch, free values. -/
theorem Within.of_eq (hc : t.core = { s.core with seq := t.core.seq }) (hd : SameDevices s t) (hm : t.mem = s.mem) :
    Within m s t := by
  have hr : t.core.regs = s.core.regs := by rw [hc]
  have ht : t.core.cpsr = s.core.cpsr := by rw [hc]
  exact .of_regs (by rw [hr]; exact hc) hd hm
    (fun ha => (Core.aligned_congr (congrArg Cpsr.t ht) (congrArg RegFile.pc hr)).trans ha)
    fun p _ _ => congrArg (·.get p) hr

/-! ## The operations -/

/-- What is granted cannot be withheld: the proof that a permission of the bound covers a change. -/
theorem of_granted {b : Bool} {p : Prop} (h : b = true) (e : b = false) : p :=
  Bool.noConfusion (h.symm.trans e)

/-- A write of status within the bound. The variant may change only where `pc` is written after it. -/
theorem Within.of_cpsr (p : Cpsr) (hf : m.flags = false → SameFlags s (s.setCpsr p))
    (hc : m.control = false → SameControl s (s.setCpsr p)) (ht : p.t = s.core.cpsr.t) : Within m s (s.setCpsr p) := by
  have ha : (s.setCpsr p).core.aligned = s.core.aligned := Core.aligned_congr ht rfl
  exact ⟨.of_devices (.refl s) rfl rfl rfl ha.trans, fun _ _ _ => rfl, hf, hc, fun _ => ht, fun _ => rfl, fun _ => rfl,
    fun _ => .refl s⟩

theorem State.addCost_within (s : State) (k : Nat) : Within m s (s.addCost k) := .of_eq rfl (.refl s) rfl

theorem State.setSeq_within (s : State) (b : Bool) : Within m s (s.setSeq b) := .of_eq rfl (.refl s) rfl

theorem State.setDraws_within (s : State) (n : Nat) : Within m s (s.setDraws n) := .of_eq rfl (.refl s) rfl

theorem State.setFlags_within (s : State) (x : AluResult) (h : m.flags = true) : Within m s (s.setFlags x) :=
  .of_cpsr { s.core.cpsr with n := x.n, z := x.z, c := x.c, v := x.v } (of_granted h) (fun _ => ⟨rfl, rfl, rfl⟩) rfl

theorem State.setMulFlags_within (s : State) (r : Word) (h : m.flags = true) : Within m s (s.setMulFlags r) := by
  refine Within.trans ?_ (State.setDraws_within _ _)
  exact .of_cpsr _ (of_granted h) (fun _ => ⟨rfl, rfl, rfl⟩) rfl

theorem State.setMullFlags_within (s : State) (r : BitVec 64) (h : m.flags = true) : Within m s (s.setMullFlags r) := by
  refine Within.trans ?_ (State.setDraws_within _ _)
  exact .of_cpsr _ (of_granted h) (fun _ => ⟨rfl, rfl, rfl⟩) rfl

theorem State.setSpsrs_within (s : State) (x : Spsrs) (h : m.saved = true) : Within m s (s.setSpsrs x) :=
  ⟨.of_devices (.refl s) rfl rfl rfl id, fun _ _ _ => rfl, fun _ => .of_cpsr rfl, fun _ => .of_cpsr rfl, fun _ => rfl,
    of_granted h, fun _ => rfl, fun _ => .refl s⟩

theorem State.setHalted_within (s : State) (b : Bool) (h : m.halted = true) : Within m s (s.setHalted b) :=
  ⟨.of_devices (.refl s) rfl rfl rfl id, fun _ _ _ => rfl, fun _ => .of_cpsr rfl, fun _ => .of_cpsr rfl, fun _ => rfl,
    fun _ => rfl, of_granted h, fun _ => .refl s⟩

theorem State.setMode_within (s : State) (n : Mode) (i : Reg) (v : Word) (hi : i ≠ 15) (hd : physReg n i ∈ m.dests) :
    Within m s (s.setMode n i v) := by
  have ha : (s.setMode n i v).core.aligned = s.core.aligned := Core.aligned_congr rfl (s.setMode_pc n i v hi)
  refine .of_regs rfl (.refl s) rfl ha.trans fun p _ hne => ?_
  have hpn : p ≠ physReg n i := fun e => hne (e ▸ hd)
  exact (RegFile.get_set _ _ _ _).trans (if_neg hpn)

theorem State.setReg_within (s : State) (i : Reg) (v : Word) (hi : i ≠ 15)
    (hd : physReg s.core.cpsr.mode i ∈ m.dests) : Within m s (s.setReg i v) := s.setMode_within _ i v hi hd

theorem State.advance_within (s : State) : Within m s s.advance :=
  .of_regs rfl (.refl s) rfl s.advance_aligned fun _ hp _ => (RegFile.get_set _ _ _ _).trans (if_neg hp)

theorem State.writePc_within (s : State) (v : Word) : Within m s (s.writePc v) := by
  have hcore := s.writePc_core v
  refine .of_regs (by rw [hcore]) (s.writePc_devices v) (s.writePc_mem v) (fun _ => s.writePc_aligned v)
    fun p hp _ => ?_
  rw [hcore]
  exact (RegFile.get_set _ _ _ _).trans (if_neg hp)

/-- A control transfer under a new status, the one place where the variant changes (R252, R416). -/
theorem State.setCpsr_writePc_within (s : State) (p : Cpsr) (v : Word)
    (hf : m.flags = false → SameFlags s (s.setCpsr p)) (hc : m.control = false → SameControl s (s.setCpsr p))
    (ht : m.variant = false → p.t = s.core.cpsr.t) :
    Within m s ((s.setCpsr p).writePc v) := by
  obtain ⟨⟨⟨reserved, dividers⟩, par, other, now, devNow, line, dot, wf, ticks, index, time, -⟩, regs, flags,
    control, variant, saved, halted, devices⟩ := (s.setCpsr p).writePc_within (m := m) v
  exact ⟨⟨⟨reserved, dividers⟩, par, other, now, devNow, line, dot, wf, ticks, index, time,
    fun _ => State.writePc_aligned _ v⟩, regs, fun e => (hf e).trans (flags e), fun e => (hc e).trans (control e),
    fun e => (variant e).trans (ht e), saved, halted, devices⟩

theorem State.exchange_within (s : State) (v : Word) (h : m.variant = true) : Within m s (s.exchange v) :=
  s.setCpsr_writePc_within { s.core.cpsr with t := v.getLsbD 0 } v (fun _ => ⟨rfl, rfl, rfl, rfl⟩)
    (fun _ => ⟨rfl, rfl, rfl⟩) (of_granted h)

theorem State.exceptionReturn_within {v : Word} (h : s.exceptionReturn v = .next t) (hf : m.flags = true)
    (hc : m.control = true) (ht : m.variant = true) : Within m s t := by
  obtain ⟨p, q, -, -, rfl⟩ := State.exceptionReturn_next h
  exact s.setCpsr_writePc_within q v (of_granted hf) (of_granted hc) (of_granted ht)

theorem State.finishReg_within (s : State) (i : Reg) (v : Word) (hd : physReg s.core.cpsr.mode i ∈ m.dests) :
    Within m s (s.finishReg i v) := by
  unfold State.finishReg
  split
  · exact s.writePc_within v
  · next hi => exact (s.setReg_within i v hi hd).trans (State.advance_within _)

/-- An access through the Bus within the bound: of the core it changes the halt flag at most. -/
theorem Within.of_access (h : WriteFrame s t) (k : DevicesKept s t) (hd : m.devices = true)
    (hh : m.halted = false → t.core.halted = s.core.halted) : Within m s t := by
  obtain ⟨b, hcore⟩ := h.core
  have hcpsr : t.core.cpsr = s.core.cpsr := by rw [hcore]
  exact ⟨.of_writeFrame h k, fun p _ _ => by rw [hcore], fun _ => .of_cpsr hcpsr, fun _ => .of_cpsr hcpsr,
    fun _ => by rw [hcpsr], fun _ => by rw [hcore], hh, of_granted hd⟩

theorem State.busRead_within (s : State) (a : Word) (w : Width) (k : AccessKind) (h : m.devices = true) :
    Within m s (s.busRead a w k).2 :=
  .of_access (.of_sheltered (s.busRead_sheltered a w k)) (s.busRead_devicesKept a w k) h fun _ => by rw [s.busRead_core]

theorem State.storeData_within (s : State) (a : Word) (w : Width) (v : Word) (k : AccessKind) (h : m.devices = true)
    (hh : m.halted = true) : Within m s (s.storeData a w v k) :=
  .of_access (s.busWrite_frame (w.align a) w k .core v) (s.busWrite_devicesKept .core _ w v k) h (of_granted hh)

/-- The registers a later write names are those of the mode before, where the mode stays. -/
theorem Within.mode (h : Within m s t) (hc : m.control = false) : t.core.cpsr.mode = s.core.cpsr.mode := by
  obtain ⟨-, -, hm⟩ := h.control hc
  exact hm

theorem Within.setReg (h : Within m s t) (hc : t.core.cpsr.mode = s.core.cpsr.mode) {i : Reg} (v : Word) (hi : i ≠ 15)
    (hd : physReg s.core.cpsr.mode i ∈ m.dests) : Within m s (t.setReg i v) :=
  h.trans (t.setReg_within i v hi (hc ▸ hd))

theorem Within.advance (h : Within m s t) : Within m s t.advance := h.trans t.advance_within

theorem Within.writePc (h : Within m s t) (v : Word) : Within m s (t.writePc v) := h.trans (t.writePc_within v)

theorem Within.addCost (h : Within m s t) (k : Nat) : Within m s (t.addCost k) := h.trans (t.addCost_within k)

theorem Within.setSeq (h : Within m s t) (b : Bool) : Within m s (t.setSeq b) := h.trans (t.setSeq_within b)

end

end Sys2Proof.Machine
end

section
/-! What each instruction may change (family 10), in the order of the shared procedures its meaning is made of. -/

namespace Sys2Proof.Machine

/-! ## The bound of an instruction -/

/-- `MSR` to the control field of `cpsr` (R262). -/
def writesControl : Instr → Bool
  | .msrReg _ r mask _ => !r && mask.getLsbD 0
  | .msrImm _ r mask _ _ => !r && mask.getLsbD 0
  | _ => false

/-- `MSR` to a saved status register (R262). -/
def writesSaved : Instr → Bool
  | .msrReg _ r _ _ => r
  | .msrImm _ r _ _ _ => r
  | _ => false

/-- The branches that take the variant from the target (R252, R385). -/
def exchanges : Instr → Bool
  | .bx _ _ => true
  | .tBx _ _ => true
  | _ => false

/-- The instructions that may halt the core: the two words of the system-control unit, and a store to `HALTCNT`
(R269, R448). -/
def mayHalt : Instr → Bool
  | .wfi _ _ => true
  | .mcr _ _ _ _ _ _ _ => true
  | i => shape i == .store || shape i == .stores || shape i == .swap

/-- The instructions that make a data access, the only ones that reach a device (R91). -/
def mayAccess (i : Instr) : Bool :=
  shape i == .load || shape i == .loads || shape i == .store || shape i == .stores || shape i == .swap

/-- What an instruction that takes no exception may change. In User mode no status but the condition codes (R442). -/
def mayOf (s : State) (i : Instr) : May where
  dests := destRegs s i
  flags := setsFlags i
  control := (writesControl i || restoresStatus i) && s.core.cpsr.mode != .usr
  variant := exchanges i || (restoresStatus i && s.core.cpsr.mode != .usr)
  saved := writesSaved i && s.core.cpsr.mode != .usr
  halted := mayHalt i
  devices := mayAccess i

/-- The outcome of work that takes an exception exactly where `e` says, and stays within `m` otherwise. -/
structure Does (e : Bool) (m : May) (s t : State) : Prop where
  taken : e = true → t = s.takeUndefined ∨ t = s.takeSoftware
  within : e = false → Within m s t

/-- The outcome of an instruction: a false condition, or its exception, or its work. -/
def Ran (i : Instr) (s t : State) : Prop :=
  (∃ c, i.cond = some c ∧ condHolds c s.core.cpsr = false ∧ t = s.advance) ∨ Does (takesException s i) (mayOf s i) s t

section
variable {m : May} {s t u : State}

theorem Does.of_within (h : Within m s t) : Does false m s t := ⟨nofun, fun _ => h⟩

theorem Does.of_undefined (h : Host.Outcome.next (φ := Fault) (ρ := Refusal) s.takeUndefined = .next t) :
    Does true m s t := by
  cases h; exact ⟨fun _ => .inl rfl, nofun⟩

theorem Does.of_software (h : Host.Outcome.next (φ := Fault) (ρ := Refusal) s.takeSoftware = .next t) :
    Does true m s t := by
  cases h; exact ⟨fun _ => .inr rfl, nofun⟩

/-- A step that depends on a bit of the instruction. -/
theorem Within.ite {b : Bool} (h : Within m s t) (hb : b = true → Within m t u) : Within m s (if b then u else t) := by
  cases b with
  | true => exact h.trans (hb rfl)
  | false => exact h

/-- The outcome of work behind a condition: a false one, or the work. -/
def Guarded (c : Cond) (e : Bool) (m : May) (s t : State) : Prop :=
  (condHolds c s.core.cpsr = false ∧ t = s.advance) ∨ Does e m s t

theorem Guarded.of_when {c : Cond} {e : Bool} {effect : State → Outcome} (h : s.when c effect = .next t)
    (he : effect s = .next t → Does e m s t) : Guarded c e m s t :=
  (State.when_next h).imp id fun h => he h.2

theorem Ran.of_guarded {i : Instr} {c : Cond} (h : Guarded c (takesException s i) (mayOf s i) s t)
    (hc : i.cond = some c) : Ran i s t :=
  h.imp (fun h => ⟨c, hc, h⟩) id

theorem Ran.of_when {i : Instr} {c : Cond} {effect : State → Outcome} (h : s.when c effect = .next t)
    (hc : i.cond = some c) (he : effect s = .next t → Does (takesException s i) (mayOf s i) s t) : Ran i s t :=
  .of_guarded (.of_when h he) hc

/-- What is not refused goes on. -/
theorem next_of_ite_refused {p : Prop} [Decidable p] {r : Refusal} {o : Outcome}
    (h : (if p then .refused r else o) = .next t) : ¬p ∧ o = .next t := by
  split at h
  · cases h
  · exact ⟨‹_›, h⟩

/-- A privileged operation traps in User mode, or runs in one of its two forms (R444). -/
theorem State.privileged_does {ignored effect : State → Outcome} (h : s.privileged ignored effect = .next t)
    (hi : s.core.cpsr.mode = .usr → ignored s = .next t → Within m s t)
    (he : s.core.cpsr.mode ≠ .usr → effect s = .next t → Within m s t) :
    Does (s.core.cpsr.mode == .usr && s.par.privPolicy == .trap) m s t := by
  by_cases hm : s.core.cpsr.mode = .usr
  · cases hp : s.par.privPolicy with
    | trap =>
      rw [State.privileged_of_trap hm hp] at h
      rw [hm]
      exact .of_undefined h
    | ignore =>
      rw [State.privileged_of_ignore hm hp] at h
      rw [hm]
      exact .of_within (hi hm h)
  · rw [State.privileged_of_mode hm] at h
    rw [beq_false_of_ne hm]
    exact .of_within (he hm h)

/-! ## Data processing (R170) -/

/-- An opcode that writes `Rd`; `Rd = r15` with the S bit restores the status (R173). -/
def State.dpMay (s : State) (sf : Bool) (rd : Reg) : May where
  dests := [physReg s.core.cpsr.mode rd]
  flags := sf
  control := (sf && rd == 15) && s.core.cpsr.mode != .usr
  variant := (sf && rd == 15) && s.core.cpsr.mode != .usr

/-- The restore of the status is privileged (R442). -/
def State.dpTraps (s : State) (sf : Bool) (rd : Reg) : Bool :=
  (sf && rd == 15) && s.core.cpsr.mode == .usr && s.par.privPolicy == .trap

theorem State.dpWrite_does {extra : Nat} {sf : Bool} {rd : Reg} {r : AluResult}
    (h : s.dpWrite extra sf rd r = .next t) : Does (s.dpTraps sf rd) (s.dpMay sf rd) s t := by
  unfold State.dpWrite at h
  unfold State.dpTraps State.dpMay
  by_cases hrd : rd = 15
  · subst hrd
    rw [if_pos rfl] at h
    cases sf with
    | true =>
      rw [if_pos rfl] at h
      refine State.privileged_does h (fun _ h => ?_) (fun hm h => ?_)
      · cases h; exact .writePc (State.addCost_within _ _) _
      · have hpriv : (s.core.cpsr.mode != .usr) = true := bne_iff_ne.2 hm
        exact .trans (State.addCost_within _ _) (State.exceptionReturn_within h rfl hpriv hpriv)
    | false => cases h; exact .of_within (.writePc (State.addCost_within _ _) _)
  · rw [if_neg hrd] at h
    cases h
    rw [beq_false_of_ne hrd, Bool.and_false]
    exact .of_within (.advance (.ite (.setReg (State.addCost_within _ _) rfl _ hrd List.mem_cons_self)
      fun hf => State.setFlags_within _ _ hf))

theorem State.dpTest_within {extra : Nat} {rd : Reg} {r : AluResult} (h : s.dpTest extra rd r = .next t) :
    Within { flags := true } s t := by
  obtain ⟨-, h⟩ := next_of_ite_refused h
  cases h
  exact ((s.addCost_within _).trans (State.setFlags_within _ _ rfl)).advance

section
variable {c : Cond} {alu : AluOp} {sf : Bool} {rn rd rs rm : Reg} {rot : BitVec 4} {imm8 : BitVec 8} {amt : BitVec 5}
  {ty : ShiftKind}

theorem State.dpImm_guarded (h : s.dpImm alu c sf rn rd rot imm8 = .next t) :
    Guarded c (s.dpTraps sf rd) (s.dpMay sf rd) s t :=
  .of_when h State.dpWrite_does

theorem State.dpReg_guarded (h : s.dpReg alu c sf rn rd amt ty rm = .next t) :
    Guarded c (s.dpTraps sf rd) (s.dpMay sf rd) s t :=
  .of_when h State.dpWrite_does

theorem State.dpRsr_guarded (h : s.dpRsr alu c sf rn rd rs ty rm = .next t) :
    Guarded c (s.dpTraps sf rd) (s.dpMay sf rd) s t :=
  .of_when h fun h => State.dpWrite_does (next_of_ite_refused h).2

theorem State.testImm_guarded (h : s.testImm alu c rn rd rot imm8 = .next t) : Guarded c false { flags := true } s t :=
  .of_when h fun h => .of_within (State.dpTest_within h)

theorem State.testReg_guarded (h : s.testReg alu c rn rd amt ty rm = .next t) : Guarded c false { flags := true } s t :=
  .of_when h fun h => .of_within (State.dpTest_within h)

theorem State.testRsr_guarded (h : s.testRsr alu c rn rd rs ty rm = .next t) : Guarded c false { flags := true } s t :=
  .of_when h fun h => .of_within (State.dpTest_within (next_of_ite_refused h).2)

end

/-! ## Multiplies (R200) -/

theorem State.multiply_within {sf accumulate : Bool} {rd rs rm rn : Reg}
    (h : s.multiply sf rd rs rm rn accumulate = .next t) :
    Within { dests := [physReg s.core.cpsr.mode rd], flags := sf } s t := by
  obtain ⟨hregs, h⟩ := next_of_ite_refused h
  simp only [Bool.or_eq_true, decide_eq_true_eq, not_or] at hregs
  obtain ⟨⟨⟨hrd, -⟩, -⟩, -⟩ := hregs
  cases h
  exact .advance (.ite (.setReg (State.addCost_within _ _) rfl _ hrd List.mem_cons_self)
    fun hf => State.setMulFlags_within _ _ hf)

theorem State.multiplyLong_within {signed accumulate sf : Bool} {rdHi rdLo rs rm : Reg}
    (h : s.multiplyLong signed accumulate sf rdHi rdLo rs rm = .next t) :
    Within { dests := [physReg s.core.cpsr.mode rdHi, physReg s.core.cpsr.mode rdLo], flags := sf } s t := by
  obtain ⟨hregs, h⟩ := next_of_ite_refused h
  simp only [Bool.or_eq_true, decide_eq_true_eq, not_or] at hregs
  obtain ⟨⟨⟨⟨hhi, hlo⟩, -⟩, -⟩, -⟩ := hregs
  cases h
  exact .advance (.ite (.setReg (.setReg (State.addCost_within _ _) rfl _ hlo
    (List.mem_cons_of_mem _ List.mem_cons_self)) rfl _ hhi List.mem_cons_self)
    fun hf => State.setMullFlags_within _ _ hf)

/-! ## Single transfers (R210) -/

/-- The five ways to load each make one read through the Bus. -/
def Reads (load : State → Word → Word × State) : Prop :=
  ∀ s a, ∃ b w, (load s a).2 = (s.busRead b w .n).2

theorem loadWord_reads : Reads State.loadWord := fun _ _ => ⟨_, _, rfl⟩
theorem loadHalf_reads : Reads State.loadHalf := fun _ _ => ⟨_, _, rfl⟩
theorem loadByte_reads : Reads State.loadByte := fun _ _ => ⟨_, _, rfl⟩
theorem loadSignedByte_reads : Reads State.loadSignedByte := fun _ _ => ⟨_, _, rfl⟩
theorem loadSignedHalf_reads : Reads State.loadSignedHalf := fun s a => by
  unfold State.loadSignedHalf
  split
  · exact loadSignedByte_reads s a
  · exact ⟨_, _, rfl⟩

theorem Reads.within {load : State → Word → Word × State} (hl : Reads load) (s : State) (a : Word)
    (h : m.devices = true) : Within m s (load s a).2 := by
  obtain ⟨b, w, e⟩ := hl s a
  rw [e]
  exact s.busRead_within b w .n h

theorem Reads.mode {load : State → Word → Word × State} (hl : Reads load) (s : State) (a : Word) :
    (load s a).2.core.cpsr.mode = s.core.cpsr.mode := by
  obtain ⟨b, w, e⟩ := hl s a
  rw [e, s.busRead_core]

/-- A base that is written back is not `r15`, which is refused (U6). -/
theorem Within.writeBack (h : Within m s t) (hc : t.core.cpsr.mode = s.core.cpsr.mode) {p w : Bool} {rn : Reg}
    (hr : ¬baseRefused p w rn = true) (hd : writesBack p w = true → physReg s.core.cpsr.mode rn ∈ m.dests) (up : Bool)
    (base off : Word) : Within m s (t.writeBack p w up rn base off) := by
  unfold State.writeBack
  split
  · next hw => exact h.setReg hc _ (fun e => hr (by simp [baseRefused, hw, e])) (hd hw)
  · exact h

theorem State.writeBack_mode (s : State) (p w up : Bool) (rn : Reg) (base off : Word) :
    (s.writeBack p w up rn base off).core.cpsr.mode = s.core.cpsr.mode := by
  unfold State.writeBack
  split <;> rfl

/-- The destinations of a transfer hold the base exactly where it is written back. -/
theorem mem_written_base {n : Mode} {p w : Bool} {rn : Reg} (h : writesBack p w = true) :
    physReg n rn ∈ (if writesBack p w then [rn] else []).map (physReg n) := by
  simp [h]

theorem State.singleLoad_within {wide : Bool} {load : State → Word → Word × State} (hl : Reads load) {p u w : Bool}
    {rn rd : Reg} {off : Word} (h : s.singleLoad wide load p u w rn rd off = .next t) :
    Within { dests := (rd :: if writesBack p w then [rn] else []).map (physReg s.core.cpsr.mode), devices := true }
      s t := by
  obtain ⟨hbase, h⟩ := next_of_ite_refused h
  obtain ⟨-, h⟩ := next_of_ite_refused h
  cases h
  have hmode := hl.mode s (transferAddr p u (s.reg rn) off)
  refine Within.trans (Within.writeBack ((hl.within s _ rfl).addCost _) hmode hbase
    (fun hw => List.mem_cons_of_mem _ (mem_written_base hw)) u (s.reg rn) off) (State.finishReg_within _ rd _ ?_)
  rw [State.writeBack_mode]
  exact hmode ▸ List.mem_cons_self

theorem State.storeData_mode (s : State) (a : Word) (w : Width) (v : Word) (k : AccessKind) :
    (s.storeData a w v k).core.cpsr.mode = s.core.cpsr.mode := by
  obtain ⟨b, hcore⟩ : ∃ b, (s.storeData a w v k).core = { s.core with halted := b } :=
    (s.busWrite_frame (w.align a) w k .core v).core
  rw [hcore]

theorem State.singleStore_within {width : Width} {p u w : Bool} {rn rd : Reg} {off : Word}
    (h : s.singleStore width p u w rn rd off = .next t) :
    Within { dests := (if writesBack p w then [rn] else []).map (physReg s.core.cpsr.mode), halted := true,
             devices := true } s t := by
  obtain ⟨hbase, h⟩ := next_of_ite_refused h
  obtain ⟨-, h⟩ := next_of_ite_refused h
  cases h
  exact .advance (.setSeq (.writeBack (State.storeData_within _ _ _ _ _ rfl rfl) (State.storeData_mode _ _ _ _ _) hbase
    mem_written_base _ _ _) _)

theorem next_of_withOffsetReg {rm : Reg} {o : Outcome} (h : withOffsetReg rm o = .next t) : o = .next t :=
  (next_of_ite_refused h).2

theorem next_of_halfwordForm {p w : Bool} {o : Outcome} (h : halfwordForm p w o = .next t) : o = .next t :=
  (next_of_ite_refused h).2

theorem State.swap_within {load : State → Word → Word × State} (hl : Reads load) {width : Width} {rn rd rm : Reg}
    (h : s.swap load width rn rd rm = .next t) :
    Within { dests := [physReg s.core.cpsr.mode rd], halted := true, devices := true } s t := by
  obtain ⟨hregs, h⟩ := next_of_ite_refused h
  simp only [Bool.or_eq_true, decide_eq_true_eq, not_or] at hregs
  obtain ⟨⟨-, hrd⟩, -⟩ := hregs
  cases h
  have hmode : ((load s (s.reg rn)).2.storeData (s.reg rn) width (s.reg rm) .n).core.cpsr.mode = s.core.cpsr.mode :=
    (State.storeData_mode _ _ _ _ _).trans (hl.mode _ _)
  exact .advance (.setSeq (.setReg (.addCost (.trans (hl.within _ _ rfl) (State.storeData_within _ _ _ _ _ rfl rfl)) _)
    hmode _ hrd List.mem_cons_self) _)

/-! ## Block transfers (R240) -/

theorem State.loadMany_within (s : State) (n : Mode) (regs : List Reg) (a : Word) (k : Nat) (h : m.devices = true)
    (hd : ∀ i ∈ regs, i ≠ 15 ∧ physReg n i ∈ m.dests) : Within m s (s.loadMany n regs a k) := by
  induction regs generalizing s a k with
  | nil => exact .refl s
  | cons i rest ih =>
    obtain ⟨hi, hdi⟩ := hd i List.mem_cons_self
    exact .trans (.trans (s.busRead_within _ .word _ h) (State.setMode_within _ n i _ hi hdi))
      (ih _ _ _ fun j hj => hd j (List.mem_cons_of_mem _ hj))

theorem State.storeMany_within (s : State) (vs : List Word) (a : Word) (k : Nat) (h : m.devices = true)
    (hh : m.halted = true) : Within m s (s.storeMany vs a k) := by
  induction vs generalizing s a k with
  | nil => exact .refl s
  | cons v rest ih => exact .trans (s.storeData_within a .word v _ h hh) (ih _ _ _)

theorem State.storeMany_mode (s : State) (vs : List Word) (a : Word) (k : Nat) :
    (s.storeMany vs a k).core.cpsr.mode = s.core.cpsr.mode := by
  induction vs generalizing s a k with
  | nil => rfl
  | cons v rest ih => exact (ih _ _ _).trans (s.storeData_mode a .word v _)

theorem mem_lowPart {regs : List Reg} {i : Reg} (h : i ∈ lowPart regs) : i ∈ regs ∧ i ≠ 15 := by
  simpa [lowPart] using h

theorem mem_lowListRegs {list : BitVec 8} {i : Reg} (h : i ∈ lowListRegs list) : i ≠ 15 := by
  rintro rfl
  simp [lowListRegs] at h

/-- An `LDM` whose list the bound covers, however its load of `r15` ends. -/
theorem State.ldmBody_within {n : Mode} {p u w : Bool} {rn : Reg} {list : BitVec 16}
    {ret : State → Word → Outcome} (h : s.ldmBody n p u w rn list ret = .next t) (ha : m.devices = true)
    (hrn : rn ≠ 15) (hw : w = true → physReg s.core.cpsr.mode rn ∈ m.dests)
    (hl : ∀ i ∈ listRegs list, physReg n i ∈ m.dests)
    (hret : list.getLsbD 15 = true → ∀ c v, ret c v = .next t → Within m c t) : Within m s t := by
  have hlow : ∀ i ∈ lowPart (listRegs list), i ≠ 15 ∧ physReg n i ∈ m.dests := fun i hi =>
    ⟨(mem_lowPart hi).2, hl i (mem_lowPart hi).1⟩
  have based : Within m s (if w then s.setReg rn (blockBase u (s.reg rn) (listRegs list).length) else s) :=
    .ite (.refl s) fun hwt => s.setReg_within rn _ hrn (hw hwt)
  unfold State.ldmBody at h
  dsimp only at h
  generalize (if w then s.setReg rn (blockBase u (s.reg rn) (listRegs list).length) else s) = b at h based
  have loaded := based.trans
    ((b.loadMany_within n _ (blockStart p u (s.reg rn) (listRegs list).length) 0 ha hlow).addCost b.par.internal.load)
  split at h
  · next h15 => exact (loaded.trans (State.busRead_within _ _ _ _ ha)).trans (hret h15 _ _ h)
  · cases h; exact loaded.advance

theorem blockRefusal_none {rn : Reg} {list : BitVec 16} {userBank w : Bool}
    (h : blockRefusal rn list userBank w = none) : rn ≠ 15 ∧ (userBank && w) = false := by
  unfold blockRefusal at h
  split at h
  · cases h
  · next hrn =>
    split at h
    · cases h
    · split at h
      · cases h
      · next huw => exact ⟨hrn, Bool.eq_false_iff.2 huw⟩

/-- A branch at the end of an `LDM` without status restore (R241). -/
theorem next_writePc_within {c : State} {v : Word}
    (h : Host.Outcome.next (φ := Fault) (ρ := Refusal) (c.writePc v) = .next t) :
    Within m c t := by
  cases h; exact c.writePc_within v

theorem takesException_ldm (s : State) (c : Cond) (p u sf w : Bool) (rn : Reg) (list : BitVec 16) :
    takesException s (.ldm c p u sf w rn list) =
      ((sf && list.getLsbD 15) && s.core.cpsr.mode == .usr && s.par.privPolicy == .trap) := rfl

/-- An `LDM` that names the User bank is one with the S bit that does not load `r15` (R243). -/
theorem destRegs_ldm_userBank (s : State) (c : Cond) (p u : Bool) (rn : Reg) {list : BitVec 16}
    (h : list.getLsbD 15 = false) :
    destRegs s (.ldm c p u true false rn list) = (listRegs list).map (physReg .usr) :=
  if_neg (Bool.not_eq_true _ ▸ h)

theorem destRegs_ldm (s : State) (c : Cond) (p u w : Bool) (rn : Reg) {sf : Bool} {list : BitVec 16}
    (h : sf = false ∨ list.getLsbD 15 = true) :
    destRegs s (.ldm c p u sf w rn list) =
      (listRegs list ++ if w then [rn] else []).map (physReg s.core.cpsr.mode) := by
  rcases h with rfl | h
  · rfl
  · cases sf
    · rfl
    · exact if_pos h

/-- The bound of an `LDM`; its list names the User bank where the S bit does not restore the status (R243). -/
theorem execLdm_ran {c : Cond} {p u sf w : Bool} {rn : Reg} {list : BitVec 16}
    (h : execLdm c p u sf w rn list s = .next t) : Ran (.ldm c p u sf w rn list) s t := by
  refine .of_when h rfl fun h => ?_
  split at h
  · cases h
  next hnone =>
  obtain ⟨hrn, hbank⟩ := blockRefusal_none hnone
  rw [takesException_ldm]
  by_cases huser : sf = true ∧ list.getLsbD 15 = false
  · obtain ⟨rfl, h15⟩ := huser
    simp only [h15, Bool.not_false, Bool.true_and, Bool.false_and, Bool.and_false, Bool.false_eq_true, if_false,
      if_true] at hbank h ⊢
    subst hbank
    refine .of_within (State.ldmBody_within h rfl hrn (fun e => absurd e Bool.false_ne_true) (fun i hi => ?_)
      fun _ _ _ => next_writePc_within)
    rw [mayOf, destRegs_ldm_userBank s c p u rn h15]
    exact List.mem_map_of_mem hi
  · have hown : sf = false ∨ list.getLsbD 15 = true := by
      cases sf with
      | true => exact .inr (by simpa using huser)
      | false => exact .inl rfl
    have hdest : ∀ i ∈ listRegs list ++ (if w then [rn] else []),
        physReg s.core.cpsr.mode i ∈ (mayOf s (.ldm c p u sf w rn list)).dests := fun i hi => by
      rw [mayOf, destRegs_ldm s c p u w rn hown]
      exact List.mem_map_of_mem hi
    have hlist := fun i hi => hdest i (List.mem_append_left _ hi)
    have hbase : w = true → physReg s.core.cpsr.mode rn ∈ (mayOf s (.ldm c p u sf w rn list)).dests := fun hw =>
      hdest rn (List.mem_append_right _ (by simp [hw]))
    cases sf with
    | false =>
      simp only [Bool.false_and, Bool.false_eq_true, if_false] at h ⊢
      exact .of_within (State.ldmBody_within h rfl hrn hbase hlist fun _ _ _ => next_writePc_within)
    | true =>
      have h15 : list.getLsbD 15 = true := by simpa using hown
      have hflags : (mayOf s (.ldm c p u true w rn list)).flags = true := h15
      simp only [h15, Bool.and_self, if_true, Bool.true_and] at h ⊢
      refine State.privileged_does h (fun _ h => ?_) (fun hm h => ?_)
      · exact State.ldmBody_within h rfl hrn hbase hlist fun _ _ _ => next_writePc_within
      · have hcontrol : (mayOf s (.ldm c p u true w rn list)).control = true :=
          Bool.and_eq_true_iff.2 ⟨h15, bne_iff_ne.2 hm⟩
        exact State.ldmBody_within h rfl hrn hbase hlist fun _ _ _ h =>
          State.exceptionReturn_within h hflags hcontrol hcontrol

theorem execStm_ran {c : Cond} {p u sf w : Bool} {rn : Reg} {list : BitVec 16}
    (h : execStm c p u sf w rn list s = .next t) : Ran (.stm c p u sf w rn list) s t := by
  refine .of_when h rfl fun h => ?_
  split at h
  · cases h
  next hnone =>
  obtain ⟨hrn, -⟩ := blockRefusal_none hnone
  cases h
  exact .of_within (.advance (.setSeq (.ite (State.storeMany_within _ _ _ _ rfl rfl)
    fun hw => State.setReg_within _ rn _ hrn (by
      rw [State.storeMany_mode]
      exact List.mem_map_of_mem (show rn ∈ if w then [rn] else [] by simp [hw]))) _))

end

end Sys2Proof.Machine
end

section
/-! What each instruction may change (family 10): status moves, the compact variant, and the table of all
instructions. -/

namespace Sys2Proof.Machine

/-! ## Status moves (R261, R262) -/

theorem fieldMask_low {mask : BitVec 4} (h : mask.getLsbD 0 = false) (k : Nat) (hk : k < 8) :
    (fieldMask mask).getLsbD k = false := by
  revert mask k
  decide

theorem fieldMask_high {mask : BitVec 4} (h : mask.getLsbD 3 = false) (k : Nat) (hk : 28 ≤ k) :
    (fieldMask mask).getLsbD k = false := by
  have hlow : ∀ mask : BitVec 4, mask.getLsbD 3 = false → ∀ j < 4, (fieldMask mask).getLsbD (28 + j) = false := by
    decide
  by_cases hlt : k < 32
  · obtain ⟨j, rfl⟩ := Nat.exists_eq_add_of_le hk
    exact hlow mask h j (by omega)
  · exact BitVec.getLsbD_of_ge _ _ (by omega)

/-- A bit the mask does not select keeps its value (R262). -/
theorem mergeStatus_getLsbD {old operand mask : Word} {k : Nat} (h : mask.getLsbD k = false) :
    (mergeStatus old operand mask).getLsbD k = old.getLsbD k := by
  by_cases hk : k < 32
  · rw [mergeStatus, BitVec.getLsbD_or, BitVec.getLsbD_and, BitVec.getLsbD_and, BitVec.getLsbD_not, h]
    simp [hk]
  · rw [BitVec.getLsbD_of_ge _ _ (by omega), BitVec.getLsbD_of_ge _ _ (by omega)]

/-- The fields of a word written to `cpsr`, each from its own bits (R36). -/
theorem Cpsr.save_of_ofWord {w : Word} {p : Cpsr} (h : Cpsr.ofWord w = some p) : p.save = Spsr.ofWord w := by
  obtain ⟨m, hm, rfl⟩ := Option.map_eq_some_iff.1 h
  have hcode : m.code = (Spsr.ofWord w).m := Mode.ofCode_eq_some.1 hm
  rw [Cpsr.save, hcode]

theorem Mode.code_inj {m n : Mode} (h : m.code = n.code) : m = n := by
  have hs := congrArg Mode.ofCode h
  rwa [Mode.ofCode_code, Mode.ofCode_code, Option.some_inj] at hs

/-- What a write of `cpsr` under a mask leaves: `T`; the masks and the mode if the mask selects no control bit; the
condition codes if it selects no flag (R262). -/
theorem State.writeCpsr_within {m : May} {s t : State} {operand mask : Word} (h : s.writeCpsr operand mask = .next t)
    (hc : m.control = false → ∀ k < 8, mask.getLsbD k = false)
    (hf : m.flags = false → ∀ k, 28 ≤ k → mask.getLsbD k = false) : Within m s t := by
  unfold State.writeCpsr at h
  split at h
  · cases h
  next p hp =>
  cases h
  have hnew := Cpsr.save_of_ofWord hp
  have hold : Spsr.ofWord s.core.cpsr.toWord = s.core.cpsr.save := Spsr.ofWord_toWord s.core.cpsr.save
  have bit : ∀ k, (mask &&& ~~~0x00000020#32).getLsbD k = false →
      (mergeStatus s.core.cpsr.toWord operand (mask &&& ~~~0x00000020#32)).getLsbD k = s.core.cpsr.toWord.getLsbD k :=
    fun k => mergeStatus_getLsbD
  have unselected : ∀ k, mask.getLsbD k = false → (mask &&& ~~~0x00000020#32).getLsbD k = false := fun k hk => by
    rw [BitVec.getLsbD_and, hk, Bool.false_and]
  have variant : (mask &&& ~~~0x00000020#32).getLsbD 5 = false := by
    rw [BitVec.getLsbD_and, show (~~~0x00000020#32).getLsbD 5 = false by decide, Bool.and_false]
  generalize mergeStatus s.core.cpsr.toWord operand (mask &&& ~~~0x00000020#32) = w at hnew bit
  refine .advance (.of_cpsr p (fun e => ?_) (fun e => ?_) ?_)
  · have same := fun k hk => bit k (unselected k (hf e k hk))
    exact ⟨(congrArg Spsr.n hnew).trans ((same 31 (by decide)).trans (congrArg Spsr.n hold)),
      (congrArg Spsr.z hnew).trans ((same 30 (by decide)).trans (congrArg Spsr.z hold)),
      (congrArg Spsr.c hnew).trans ((same 29 (by decide)).trans (congrArg Spsr.c hold)),
      (congrArg Spsr.v hnew).trans ((same 28 (by decide)).trans (congrArg Spsr.v hold))⟩
  · have same := fun k hk => bit k (unselected k (hc e k hk))
    have hmode : w.extractLsb' 0 5 = s.core.cpsr.toWord.extractLsb' 0 5 := by
      refine BitVec.eq_of_getLsbD_eq fun k hk => ?_
      rw [BitVec.getLsbD_extractLsb', BitVec.getLsbD_extractLsb', Nat.zero_add, same k (by omega)]
    exact ⟨(congrArg Spsr.i hnew).trans ((same 7 (by decide)).trans (congrArg Spsr.i hold)),
      (congrArg Spsr.f hnew).trans ((same 6 (by decide)).trans (congrArg Spsr.f hold)),
      Mode.code_inj ((congrArg Spsr.m hnew).trans (hmode.trans (congrArg Spsr.m hold)))⟩
  · exact (congrArg Spsr.t hnew).trans ((bit 5 variant).trans (congrArg Spsr.t hold))

section
variable {m : May} {s t : State}

theorem State.mrsWrite_within {rd : Reg} {v : Word} (h : s.mrsWrite rd v = .next t)
    (hd : physReg s.core.cpsr.mode rd ∈ m.dests) : Within m s t := by
  obtain ⟨hrd, h⟩ := next_of_ite_refused h
  cases h
  exact .advance (s.setReg_within rd v hrd hd)

theorem execMrs_ran {c : Cond} {r : Bool} {rd : Reg} (h : execMrs c r rd s = .next t) : Ran (.mrs c r rd) s t := by
  refine .of_when h rfl fun h => ?_
  cases r with
  | true =>
    rw [if_pos rfl] at h
    refine State.privileged_does h (fun _ h => ?_) (fun _ h => ?_)
    · exact .trans (State.setDraws_within _ _) (State.mrsWrite_within h List.mem_cons_self)
    · split at h
      · cases h
      · exact State.mrsWrite_within h List.mem_cons_self
  | false => exact .of_within (State.mrsWrite_within h List.mem_cons_self)

/-- `MSR` writes the fields it names; in User mode the condition codes only (R262, R442). -/
theorem State.msr_does {r : Bool} {mask : BitVec 4} {operand : Word} (h : s.msr r mask operand = .next t) :
    Does ((r || mask.getLsbD 0) && s.core.cpsr.mode == .usr && s.par.privPolicy == .trap)
      { flags := !r && mask.getLsbD 3, control := ((!r && mask.getLsbD 0) || false) && s.core.cpsr.mode != .usr,
        saved := r && s.core.cpsr.mode != .usr } s t := by
  unfold State.msr at h
  cases r with
  | true =>
    rw [if_pos rfl] at h
    refine State.privileged_does h (fun _ h => ?_) (fun hm h => ?_)
    · cases h; exact s.advance_within
    · split at h
      · cases h
      · cases h; exact .advance (s.setSpsrs_within _ (bne_iff_ne.2 hm))
  | false =>
    rw [if_neg Bool.false_ne_true] at h
    cases hmask : mask.getLsbD 0 with
    | true =>
      rw [hmask, if_pos rfl] at h
      refine State.privileged_does h (fun _ h => ?_) (fun hm h => ?_)
      · refine State.writeCpsr_within h (fun _ k hk => ?_) fun hf k hk => ?_
        · have hlow : ∀ k < 8, (0xF0000000 : Word).getLsbD k = false := by decide
          rw [BitVec.getLsbD_and, hlow k hk, Bool.and_false]
        · rw [BitVec.getLsbD_and, fieldMask_high hf k hk, Bool.false_and]
      · exact State.writeCpsr_within h (of_granted (bne_iff_ne.2 hm)) fun hf => fieldMask_high hf
    | false =>
      rw [hmask, if_neg Bool.false_ne_true] at h
      exact .of_within (State.writeCpsr_within h (fun _ => fieldMask_low hmask) fun hf => fieldMask_high hf)

/-! ## The system-control unit (R265, R266, R269) -/

theorem State.cp15_does {cp : BitVec 4} {ignored effect : State → Outcome} (h : s.cp15 cp ignored effect = .next t)
    (hi : ∀ u, ignored u = .next t → s.core.cpsr.mode = u.core.cpsr.mode → Within m u t)
    (he : ∀ u, effect u = .next t → s.core.cpsr.mode = u.core.cpsr.mode → Within m u t) :
    Does (cp != 15 || (s.core.cpsr.mode == .usr && s.par.privPolicy == .trap)) m s t := by
  unfold State.cp15 at h
  split at h
  · next hcp =>
    subst hcp
    exact State.privileged_does h (fun _ h => .trans (State.addCost_within _ _) (hi _ h rfl))
      fun _ h => .trans (State.addCost_within _ _) (he _ h rfl)
  · next hcp =>
    rw [bne_iff_ne.2 hcp]
    exact .of_undefined h

theorem execMcr_ran {c : Cond} {opc1 : BitVec 3} {crn : BitVec 4} {rd : Reg} {cp : BitVec 4} {opc2 : BitVec 3}
    {crm : BitVec 4} (h : execMcr c opc1 crn rd cp opc2 crm s = .next t) :
    Ran (.mcr c opc1 crn rd cp opc2 crm) s t := by
  refine .of_when h rfl fun h => State.cp15_does h (fun u h _ => ?_) fun u h _ => ?_
  · cases h; exact u.advance_within
  · split at h
    · cases h; exact .advance (u.setHalted_within _ rfl)
    · obtain ⟨-, h⟩ := next_of_ite_refused h
      cases h; exact u.advance_within

theorem State.mrcWrite_within (s : State) (rd : Reg) (v : Word) (hd : physReg s.core.cpsr.mode rd ∈ m.dests)
    (hf : rd = 15 → m.flags = true) : Within m s (s.mrcWrite rd v) := by
  unfold State.mrcWrite
  split
  · next hrd => exact .of_cpsr _ (of_granted (hf hrd)) (fun _ => ⟨rfl, rfl, rfl⟩) rfl
  · next hrd => exact s.setReg_within rd v hrd hd

theorem execMrc_ran {c : Cond} {opc1 : BitVec 3} {crn : BitVec 4} {rd : Reg} {cp : BitVec 4} {opc2 : BitVec 3}
    {crm : BitVec 4} (h : execMrc c opc1 crn rd cp opc2 crm s = .next t) :
    Ran (.mrc c opc1 crn rd cp opc2 crm) s t := by
  have written : ∀ u, Host.Outcome.next (φ := Fault) (ρ := Refusal) (u.mrcWrite rd u.par.cp15Open).advance = .next t →
      s.core.cpsr.mode = u.core.cpsr.mode → Within (mayOf s (.mrc c opc1 crn rd cp opc2 crm)) u t := by
    intro u h hmode
    cases h
    exact .advance (u.mrcWrite_within rd _ (hmode ▸ List.mem_cons_self) beq_iff_eq.2)
  exact .of_when h rfl fun h => State.cp15_does h written written

theorem execWfi_ran {c : Cond} {rd : Reg} (h : execWfi c rd s = .next t) : Ran (.wfi c rd) s t := by
  refine .of_when h rfl fun h => State.cp15_does h (fun u h _ => ?_) fun u h _ => ?_
  · cases h; exact u.advance_within
  · cases h; exact .advance (u.setHalted_within _ rfl)

/-! ## The compact variant -/

theorem State.tWrite_within {rd : LReg} {r : AluResult} (h : s.tWrite rd r = .next t) :
    Within { dests := [physReg s.core.cpsr.mode (lowReg rd)], flags := true } s t := by
  cases h
  exact .advance (.trans (s.setReg_within _ _ (lowReg_ne_fifteen rd) List.mem_cons_self)
    (State.setFlags_within _ _ rfl))

theorem State.tTest_within {r : AluResult} (h : s.tTest r = .next t) : Within { flags := true } s t := by
  cases h
  exact .advance (s.setFlags_within _ rfl)

theorem State.tMove_within {rd : Reg} {v : Word} (h : s.tMove rd v = .next t) :
    Within { dests := [physReg s.core.cpsr.mode rd] } s t := by
  cases h
  exact s.finishReg_within rd v List.mem_cons_self

theorem State.tShift_within {ty : ShiftKind} {rd rs : LReg} (h : s.tShift ty rd rs = .next t) :
    Within { dests := [physReg s.core.cpsr.mode (lowReg rd)], flags := true } s t :=
  .trans (s.addCost_within _) (State.tWrite_within h)

theorem execTMul_within {rs rd : LReg} (h : execTMul rs rd s = .next t) :
    Within { dests := [physReg s.core.cpsr.mode (lowReg rd)], flags := true } s t := by
  cases h
  exact .advance (.trans (.setReg (s.addCost_within _) rfl _ (lowReg_ne_fifteen rd) List.mem_cons_self)
    (State.setMulFlags_within _ _ rfl))

theorem State.tLoad_within {load : State → Word → Word × State} (hl : Reads load) {rd : LReg} {a : Word}
    (h : s.tLoad load rd a = .next t) :
    Within { dests := [physReg s.core.cpsr.mode (lowReg rd)], devices := true } s t := by
  cases h
  exact .advance (.setReg (.addCost (hl.within s a rfl) _) (hl.mode s a) _ (lowReg_ne_fifteen rd) List.mem_cons_self)

theorem State.tStore_within {w : Width} {rd : LReg} {a : Word} (h : s.tStore w rd a = .next t) :
    Within { halted := true, devices := true } s t := by
  cases h
  exact .advance (.setSeq (s.storeData_within a w _ .n rfl rfl) _)

theorem execTPush_within {r : Bool} {rlist : BitVec 8} (h : execTPush r rlist s = .next t) :
    Within { dests := [physReg s.core.cpsr.mode 13], halted := true, devices := true } s t := by
  obtain ⟨-, h⟩ := next_of_ite_refused h
  cases h
  exact .advance (.setSeq (.setReg (s.storeMany_within _ _ 0 rfl rfl) (s.storeMany_mode _ _ 0) _ (by decide)
    List.mem_cons_self) _)

theorem execTPop_within {r : Bool} {rlist : BitVec 8} (h : execTPop r rlist s = .next t) :
    Within { dests := (13 :: lowListRegs rlist).map (physReg s.core.cpsr.mode), devices := true } s t := by
  obtain ⟨-, h⟩ := next_of_ite_refused h
  have loaded : Within { dests := (13 :: lowListRegs rlist).map (physReg s.core.cpsr.mode), devices := true } s
      (s.loadMany s.core.cpsr.mode (lowListRegs rlist) (s.reg 13) 0) :=
    s.loadMany_within _ _ _ 0 rfl fun i hi => ⟨mem_lowListRegs hi, List.mem_cons_of_mem _ (List.mem_map_of_mem hi)⟩
  split at h
  · cases h
    have last := loaded.trans (.trans (State.addCost_within _ s.par.internal.load)
      (State.busRead_within _ (alignWord (s.reg 13 + blockBytes (lowListRegs rlist).length)) .word
        (blockKind (lowListRegs rlist).length) rfl))
    exact .writePc (.setReg last (last.mode rfl) _ (by decide) List.mem_cons_self) _
  · cases h
    exact .advance (.setReg (.addCost loaded _) (loaded.mode rfl) _ (by decide) List.mem_cons_self)

theorem execTStmia_within {rb : LReg} {rlist : BitVec 8} (h : execTStmia rb rlist s = .next t) :
    Within { dests := [physReg s.core.cpsr.mode (lowReg rb)], halted := true, devices := true } s t := by
  obtain ⟨-, h⟩ := next_of_ite_refused h
  cases h
  exact .advance (.setSeq (.setReg (s.storeMany_within _ _ 0 rfl rfl) (s.storeMany_mode _ _ 0) _ (lowReg_ne_fifteen rb)
    List.mem_cons_self) _)

theorem execTLdmia_within {rb : LReg} {rlist : BitVec 8} (h : execTLdmia rb rlist s = .next t) :
    Within { dests := (lowReg rb :: lowListRegs rlist).map (physReg s.core.cpsr.mode), devices := true } s t := by
  obtain ⟨-, h⟩ := next_of_ite_refused h
  cases h
  exact .advance (.addCost (.trans (s.setReg_within _ _ (lowReg_ne_fifteen rb) List.mem_cons_self)
    (State.loadMany_within _ _ _ _ 0 rfl fun i hi =>
      ⟨mem_lowListRegs hi, List.mem_cons_of_mem _ (List.mem_map_of_mem hi)⟩)) _)

theorem execTBcond_within {c : Cond} {imm8 : BitVec 8} (h : execTBcond c imm8 s = .next t) : Within {} s t := by
  unfold execTBcond at h
  split at h
  · cases h; exact s.writePc_within _
  · cases h; exact s.advance_within

theorem execTBlHi_within {imm11 : BitVec 11} (h : execTBlHi imm11 s = .next t) :
    Within { dests := [physReg s.core.cpsr.mode 14] } s t := by
  cases h
  exact .advance (s.setReg_within 14 _ (by decide) List.mem_cons_self)

/-- A branch with a link, of either variant (R251, R384). -/
theorem next_link_within {v w : Word}
    (h : Host.Outcome.next (φ := Fault) (ρ := Refusal) ((s.setReg 14 v).writePc w) = .next t) :
    Within { dests := [physReg s.core.cpsr.mode 14] } s t := by
  cases h
  exact .writePc (s.setReg_within 14 _ (by decide) List.mem_cons_self) _

theorem next_exchange_within {v : Word} (h : Host.Outcome.next (φ := Fault) (ρ := Refusal) (s.exchange v) = .next t) :
    Within { variant := true } s t := by
  cases h
  exact s.exchange_within v rfl

end

/-! ## The table of all instructions -/

/-- Every instruction that goes on had a false condition, took its exception, or stayed within its bound. -/
theorem exec_ran {i : Instr} {s t : State} (h : exec i s = .next t) : Ran i s t := by
  unfold exec at h
  cases i with
  | andImm | eorImm | subImm | rsbImm | addImm | adcImm | sbcImm | rscImm | orrImm | movImm | bicImm | mvnImm =>
    exact .of_guarded (State.dpImm_guarded h) rfl
  | andReg | eorReg | subReg | rsbReg | addReg | adcReg | sbcReg | rscReg | orrReg | movReg | bicReg | mvnReg =>
    exact .of_guarded (State.dpReg_guarded h) rfl
  | andRsr | eorRsr | subRsr | rsbRsr | addRsr | adcRsr | sbcRsr | rscRsr | orrRsr | movRsr | bicRsr | mvnRsr =>
    exact .of_guarded (State.dpRsr_guarded h) rfl
  | tstImm | teqImm | cmpImm | cmnImm => exact .of_guarded (State.testImm_guarded h) rfl
  | tstReg | teqReg | cmpReg | cmnReg => exact .of_guarded (State.testReg_guarded h) rfl
  | tstRsr | teqRsr | cmpRsr | cmnRsr => exact .of_guarded (State.testRsr_guarded h) rfl
  | mul | mla => exact .of_when h rfl fun h => .of_within (State.multiply_within h)
  | umull | umlal | smull | smlal => exact .of_when h rfl fun h => .of_within (State.multiplyLong_within h)
  | ldrImm | ldrtImm => exact .of_when h rfl fun h => .of_within (State.singleLoad_within loadWord_reads h)
  | ldrbImm | ldrbtImm => exact .of_when h rfl fun h => .of_within (State.singleLoad_within loadByte_reads h)
  | ldrReg | ldrtReg =>
    exact .of_when h rfl fun h => .of_within (State.singleLoad_within loadWord_reads (next_of_withOffsetReg h))
  | ldrbReg | ldrbtReg =>
    exact .of_when h rfl fun h => .of_within (State.singleLoad_within loadByte_reads (next_of_withOffsetReg h))
  | strImm | strtImm | strbImm | strbtImm => exact .of_when h rfl fun h => .of_within (State.singleStore_within h)
  | strReg | strtReg | strbReg | strbtReg =>
    exact .of_when h rfl fun h => .of_within (State.singleStore_within (next_of_withOffsetReg h))
  | ldrhImm =>
    exact .of_when h rfl fun h => .of_within (State.singleLoad_within loadHalf_reads (next_of_halfwordForm h))
  | ldrsbImm =>
    exact .of_when h rfl fun h => .of_within (State.singleLoad_within loadSignedByte_reads (next_of_halfwordForm h))
  | ldrshImm =>
    exact .of_when h rfl fun h => .of_within (State.singleLoad_within loadSignedHalf_reads (next_of_halfwordForm h))
  | strhImm => exact .of_when h rfl fun h => .of_within (State.singleStore_within (next_of_halfwordForm h))
  | ldrhReg =>
    exact .of_when h rfl fun h =>
      .of_within (State.singleLoad_within loadHalf_reads (next_of_withOffsetReg (next_of_halfwordForm h)))
  | ldrsbReg =>
    exact .of_when h rfl fun h =>
      .of_within (State.singleLoad_within loadSignedByte_reads (next_of_withOffsetReg (next_of_halfwordForm h)))
  | ldrshReg =>
    exact .of_when h rfl fun h =>
      .of_within (State.singleLoad_within loadSignedHalf_reads (next_of_withOffsetReg (next_of_halfwordForm h)))
  | strhReg =>
    exact .of_when h rfl fun h =>
      .of_within (State.singleStore_within (next_of_withOffsetReg (next_of_halfwordForm h)))
  | swp => exact .of_when h rfl fun h => .of_within (State.swap_within loadWord_reads h)
  | swpb => exact .of_when h rfl fun h => .of_within (State.swap_within loadByte_reads h)
  | ldm => exact execLdm_ran h
  | stm => exact execStm_ran h
  | b => exact .of_when h rfl fun h => .of_within (next_writePc_within h)
  | bl => exact .of_when h rfl fun h => .of_within (next_link_within h)
  | bx => exact .of_when h rfl fun h => .of_within (next_exchange_within h)
  | mrs => exact execMrs_ran h
  | msrReg => exact .of_when h rfl fun h => State.msr_does (next_of_ite_refused h).2
  | msrImm => exact .of_when h rfl State.msr_does
  | mcr => exact execMcr_ran h
  | mrc => exact execMrc_ran h
  | wfi => exact execWfi_ran h
  | swi => exact .of_when h rfl .of_software
  | undSpace | undOther | cdp | ldc | stc => exact .of_when h rfl .of_undefined
  | tLslImm | tLsrImm | tAsrImm | tAddReg | tSubReg | tAddImm3 | tSubImm3 | tMovImm8 | tAddImm8 | tSubImm8 | tAnd | tEor
  | tAdc | tSbc | tNeg | tOrr | tBic | tMvn => exact .inr (.of_within (State.tWrite_within h))
  | tCmpImm8 | tTst | tCmpReg | tCmn | tCmpHi => exact .inr (.of_within (State.tTest_within h))
  | tLslReg | tLsrReg | tAsrReg | tRorReg => exact .inr (.of_within (State.tShift_within h))
  | tMul => exact .inr (.of_within (execTMul_within h))
  | tAddHi | tMovHi | tAddPc | tAddSp | tAddSpImm | tSubSpImm => exact .inr (.of_within (State.tMove_within h))
  | tLdrPc | tLdrReg | tLdrImm | tLdrSp => exact .inr (.of_within (State.tLoad_within loadWord_reads h))
  | tLdrbReg | tLdrbImm => exact .inr (.of_within (State.tLoad_within loadByte_reads h))
  | tLdrhReg | tLdrhImm => exact .inr (.of_within (State.tLoad_within loadHalf_reads h))
  | tLdsbReg => exact .inr (.of_within (State.tLoad_within loadSignedByte_reads h))
  | tLdshReg => exact .inr (.of_within (State.tLoad_within loadSignedHalf_reads h))
  | tStrReg | tStrbReg | tStrhReg | tStrImm | tStrbImm | tStrhImm | tStrSp =>
    exact .inr (.of_within (State.tStore_within h))
  | tPush => exact .inr (.of_within (execTPush_within h))
  | tPop => exact .inr (.of_within (execTPop_within h))
  | tStmia => exact .inr (.of_within (execTStmia_within h))
  | tLdmia => exact .inr (.of_within (execTLdmia_within h))
  | tBcond => exact .inr (.of_within (execTBcond_within h))
  | tB => exact .inr (.of_within (next_writePc_within h))
  | tBlHi => exact .inr (.of_within (execTBlHi_within h))
  | tBlLo => exact .inr (.of_within (next_link_within h))
  | tBx => exact .inr (.of_within (next_exchange_within h))
  | tSwi => exact .inr (.of_software h)
  | tUndCond | tUndOther => exact .inr (.of_undefined h)

end Sys2Proof.Machine
end

section
/-! The statements of family 10 on the invariant of a step: it holds after reset, and every step keeps it. -/

namespace Sys2Proof.Machine

/-- Settles O59: the registers are zero, each row of devices is copies of one device, and nothing is stored. -/
theorem resetInv : Obligations.ResetInv := by
  unfold Obligations.ResetInv
  refine ⟨Memory.nil_wf, rfl, fun _ h => (by cases h), ?_, ?_, rfl, rfl, rfl, rfl⟩
  · rw [State.reservedZero_iff]
    refine ⟨rfl, rfl, rfl, fun ch => ?_⟩
    have hch : State.reset.dma[ch] = DmaChannel.reset := Vector.getElem_replicate _
    rw [hch]
    rfl
  · rw [State.dividers_iff]
    intro n
    have hn : State.reset.timers[n] = Timer.reset := Vector.getElem_replicate _
    rw [hn]
    exact nofun

section
variable {s t : State} {i : Instr}

theorem Ran.lawful (h : Ran i s t) : Lawful s t := by
  rcases h with ⟨-, -, -, rfl⟩ | ⟨htaken, hwithin⟩
  · exact (s.advance_within (m := {})).toLawful
  · cases he : takesException s i with
    | true =>
      rcases htaken he with rfl | rfl
      · exact s.takeUndefined_lawful
      · exact s.takeSoftware_lawful
    | false => exact (hwithin he).toLawful

/-- A fetch reads through the Bus (R561). -/
theorem State.fetch_lawful (s : State) : Lawful s s.fetch.2 :=
  ((s.busRead_within (m := { devices := true }) (s.width.align s.pc) s.width s.fetchKind rfl).setSeq true).toLawful

/-- A step keeps the invariant under any cost function: what its checkpoint looks at meets it, and the work after it is
lawful, whatever it cost (R467, R569). -/
theorem stepWith_inv {cost : CostFunction} (hs : s.Inv) (h : stepWith cost s = .next t) : t.Inv := by
  have hc := s.atCheckpoint_inv hs
  rcases stepWith_cases h with ⟨ch, -, rfl⟩ | ⟨-, -, rfl⟩ | ⟨-, -, -, rfl⟩ | ⟨-, -, -, u, hu, rfl⟩
  · exact (State.dmaTransfer_lawful _ ch).inv_settleDmaBy hc _
  · exact ((State.wake_lawful _).trans (State.takeInterrupt_lawful _)).inv_settleBy hc _
  · exact State.setTime_inv _ _ hc (State.time_le_haltedTime _)
  · exact ((State.fetch_lawful _).trans (exec_ran hu).lawful).inv_settleBy hc _

end

/-- Settles O60: the default step is the step under the cost function of the wait-state table. -/
theorem stepKeepsInv : Obligations.StepKeepsInv :=
  ⟨fun _ _ hs h => stepWith_inv (cost := tableCost) hs h, fun _ _ _ hs h => stepWith_inv hs h⟩

end Sys2Proof.Machine
end

section
/-! The statements of family 10 on what one instruction changes: registers, status, what User mode is confined to. -/

namespace Sys2Proof.Machine

section
variable {s t : State} {i : Instr}

/-- With its condition true an instruction takes its exception or stays within its bound. -/
theorem Ran.does_of_ready (h : Ran i s t) (hr : Ready i s) : Does (takesException s i) (mayOf s i) s t := by
  rcases h with ⟨c, hc, hfalse, -⟩ | h
  · obtain ⟨-, htrue⟩ := hr
    exact of_granted (htrue c hc) hfalse
  · exact h

theorem exec_does (hr : Ready i s) (h : exec i s = .next t) : Does (takesException s i) (mayOf s i) s t :=
  (exec_ran h).does_of_ready hr

theorem exec_entered (hr : Ready i s) (he : takesException s i = true) (h : exec i s = .next t) :
    Entered .undefined (s.pc + s.step) s t ∨ Entered .software (s.pc + s.step) s t := by
  rcases (exec_does hr h).taken he with rfl | rfl
  · exact .inl s.takeUndefined_entered
  · exact .inr s.takeSoftware_entered

theorem exec_within (hr : Ready i s) (he : takesException s i = false) (h : exec i s = .next t) :
    Within (mayOf s i) s t := (exec_does hr h).within he

/-! ## User mode (R28, R442) -/

/-- The physical registers of the User bank (R24). -/
def PhysReg.ofUser : PhysReg → Bool
  | .midFiq _ => false
  | .sp b => b == .usr
  | .lr b => b == .usr
  | _ => true

theorem physReg_usr_ofUser (j : Reg) : (physReg .usr j).ofUser = true := by
  revert j
  decide

theorem map_physReg_usr_ofUser {regs : List Reg} {p : PhysReg} (hp : p ∈ regs.map (physReg .usr)) :
    p.ofUser = true := by
  obtain ⟨j, -, rfl⟩ := List.mem_map.1 hp
  exact physReg_usr_ofUser j

/-- In User mode every destination is a register of the User bank. -/
theorem destRegs_ofUser {p : PhysReg} (hm : s.core.cpsr.mode = .usr) (hp : p ∈ destRegs s i) : p.ofUser = true := by
  unfold destRegs at hp
  rw [hm] at hp
  split at hp
  · split at hp
    · exact map_physReg_usr_ofUser hp
    · split at hp
      · cases hp
      · exact map_physReg_usr_ofUser hp
  · exact map_physReg_usr_ofUser hp

end

/-- Settles O34: in User mode the bound grants no status but the condition codes, and no register of another bank. -/
theorem userModeConfined : Obligations.UserModeConfined := by
  intro i s t hr hm h
  refine ⟨fun he => exec_entered hr he h, fun he => ?_⟩
  obtain ⟨-, regs, -, control, -, saved, -, -⟩ := exec_within hr he h
  have none_granted : ∀ b : Bool, (b && s.core.cpsr.mode != .usr) = false := fun b => by simp [hm]
  have kept : ∀ p, p ≠ .pc → p.ofUser = false → t.core.regs.get p = s.core.regs.get p := fun p hpc hp =>
    regs p hpc fun hd => of_granted (destRegs_ofUser hm hd) hp
  exact ⟨control (none_granted _), saved (none_granted _), Vector.ext fun k hk => kept (.midFiq ⟨k, hk⟩) nofun rfl,
    fun b hb => ⟨kept (.sp b) nofun (beq_false_of_ne hb), kept (.lr b) nofun (beq_false_of_ne hb)⟩⟩

/-- Settles O40: the bound of an instruction that takes no exception grants its destinations alone. -/
theorem registerFrame : Obligations.RegisterFrame := fun _ _ _ hr he h => (exec_within hr he h).regs

/-! ## Status (R36 to R42) -/

section
variable {e : Bool} {m : May} {s t : State} {i : Instr}

theorem Does.entered (h : Does true m s t) : ∃ k, Entered k (s.pc + s.step) s t := by
  rcases h.taken rfl with rfl | rfl
  · exact ⟨_, s.takeUndefined_entered⟩
  · exact ⟨_, s.takeSoftware_entered⟩

theorem Does.flags (h : Does e m s t) (hm : m.flags = false) : SameFlags s t := by
  cases e with
  | true => obtain ⟨_, hk⟩ := h.entered; exact hk.flags
  | false => exact (h.within rfl).flags hm

theorem Does.halted (h : Does e m s t) (hm : m.halted = false) : t.core.halted = s.core.halted := by
  cases e with
  | true => obtain ⟨_, hk⟩ := h.entered; exact hk.halted
  | false => exact (h.within rfl).halted hm

theorem Does.devices (h : Does e m s t) (hm : m.devices = false) : SameDevices s t := by
  cases e with
  | true => obtain ⟨_, hk⟩ := h.entered; exact hk.devices
  | false => exact (h.within rfl).devices hm

theorem writesControl_eq_false (hreg : ∀ c mask rm, i = .msrReg c false mask rm → mask.getLsbD 0 = false)
    (himm : ∀ c mask rot imm8, i = .msrImm c false mask rot imm8 → mask.getLsbD 0 = false) :
    writesControl i = false := by
  unfold writesControl
  split
  · next r mask _ =>
    cases r with
    | true => rfl
    | false => exact hreg _ mask _ rfl
  · next r mask _ _ =>
    cases r with
    | true => rfl
    | false => exact himm _ mask _ _ rfl
  · rfl

theorem writesSaved_eq_false (hreg : ∀ c mask rm, i ≠ .msrReg c true mask rm)
    (himm : ∀ c mask rot imm8, i ≠ .msrImm c true mask rot imm8) : writesSaved i = false := by
  unfold writesSaved
  split
  · next r _ _ =>
    cases r with
    | true => exact absurd rfl (hreg _ _ _)
    | false => rfl
  · next r _ _ _ =>
    cases r with
    | true => exact absurd rfl (himm _ _ _ _)
    | false => rfl
  · rfl

theorem exchanges_eq_false (hbx : ∀ c rm, i ≠ .bx c rm) (htbx : ∀ rs sbz, i ≠ .tBx rs sbz) : exchanges i = false := by
  unfold exchanges
  split
  · exact absurd rfl (hbx _ _)
  · exact absurd rfl (htbx _ _)
  · rfl

theorem mayHalt_eq_false (hwfi : ∀ c rd, i ≠ .wfi c rd) (hmcr : ∀ c o1 crn rd cp o2 crm, i ≠ .mcr c o1 crn rd cp o2 crm)
    (hstore : shape i ≠ .store) (hstores : shape i ≠ .stores) (hswap : shape i ≠ .swap) : mayHalt i = false := by
  unfold mayHalt
  split
  · exact absurd rfl (hwfi _ _)
  · exact absurd rfl (hmcr _ _ _ _ _ _ _)
  · rw [beq_false_of_ne hstore, beq_false_of_ne hstores, beq_false_of_ne hswap]; rfl

theorem mayAccess_eq_false (hload : shape i ≠ .load) (hloads : shape i ≠ .loads) (hstore : shape i ≠ .store)
    (hstores : shape i ≠ .stores) (hswap : shape i ≠ .swap) : mayAccess i = false := by
  rw [mayAccess, beq_false_of_ne hload, beq_false_of_ne hloads, beq_false_of_ne hstore, beq_false_of_ne hstores,
    beq_false_of_ne hswap]
  rfl

end

/-- Settles O42: each part of the status changes only where the bound of the instruction says, and work of any kind
touches neither the other core, nor the parameters, nor a time. -/
theorem statusFrame : Obligations.StatusFrame := by
  intro i s t hr h
  have does := exec_does hr h
  obtain ⟨-, hpar, hother, hnow, hdevNow, hline, hdot, -, -, hindex, htime, -⟩ := (exec_ran h).lawful
  refine ⟨fun hf _ => does.flags hf, fun he hres hreg himm => (does.within he).control ?_,
    fun he hres hbx htbx => (does.within he).variant ?_, fun he hreg himm => (does.within he).saved ?_,
    fun hwfi hmcr hstore hstores hswap => does.halted (mayHalt_eq_false hwfi hmcr hstore hstores hswap),
    fun hload hloads hstore hstores hswap => does.devices (mayAccess_eq_false hload hloads hstore hstores hswap),
    hother, hpar, hindex, htime, hnow, hdevNow, hline, hdot⟩
  · simp [mayOf, writesControl_eq_false hreg himm, hres]
  · simp [mayOf, exchanges_eq_false hbx htbx, hres]
  · simp [mayOf, writesSaved_eq_false hreg himm]

end Sys2Proof.Machine
end

section
/-! The Bus on the default platform (family 20): the rows of the region table, which row an address resolves to, where
its byte is kept, and what an access costs. -/

namespace Sys2Proof.Machine

/-! ## The rows of the default table (R84) -/

def bootRow : Region := defaultRegions[0]
def ewramRow : Region := defaultRegions[1]
def iwramRow : Region := defaultRegions[2]
def ioRow : Region := defaultRegions[3]
def palRow : Region := defaultRegions[4]
def vramRow : Region := defaultRegions[5]
def oamRow : Region := defaultRegions[6]
def rom0Row : Region := defaultRegions[7]
def rom1Row : Region := defaultRegions[8]
def rom2Row : Region := defaultRegions[9]
def backupRow : Region := defaultRegions[10]

theorem defaultRegions_eq : defaultRegions =
    [bootRow, ewramRow, iwramRow, ioRow, palRow, vramRow, oamRow, rom0Row, rom1Row, rom2Row, backupRow] := rfl

/-- Rows of the default table that cover one address are one row (R73). -/
theorem defaultRegions_disjoint : ∀ q ∈ defaultRegions, ∀ r ∈ defaultRegions,
    r = q ∨ r.last < q.first ∨ q.last < r.first := by decide

/-- An address resolves to the row that covers it. -/
theorem lookup_of_covers {a : Word} {r : Region} (hr : r ∈ defaultRegions) (h1 : r.first ≤ a.toNat)
    (h2 : a.toNat ≤ r.last) : lookup defaultRegions a = some r := by
  obtain ⟨q, hq⟩ := exists_lookup_eq_some hr h1 h2
  obtain ⟨hqm, hq1, hq2⟩ := lookup_eq_some hq
  rcases defaultRegions_disjoint r hr q hqm with rfl | h
  · exact hq
  · omega

/-- The holes of the default table (R84, R86). -/
theorem lookup_eq_none {a : Word} (h : 0x4000 ≤ a.toNat ∧ a.toNat < 0x02000000 ∨
    0x04000400 ≤ a.toNat ∧ a.toNat < 0x05000000 ∨ 0x10000000 ≤ a.toNat) : lookup defaultRegions a = none := by
  have hole : ∀ r ∈ defaultRegions, (r.last < 0x4000 ∨ 0x02000000 ≤ r.first) ∧
      (r.last < 0x04000400 ∨ 0x05000000 ≤ r.first) ∧ r.last < 0x10000000 := by decide
  cases hl : lookup defaultRegions a with
  | none => rfl
  | some r =>
    obtain ⟨hr, h1, h2⟩ := lookup_eq_some hl
    have := hole r hr
    omega

/-! ## Cells (R74) -/

/-- Storage fills its period, and a period begins at the region's first address, in every row but video memory's. -/
theorem defaultRegions_mirrored : ∀ r ∈ defaultRegions, r ≠ vramRow →
    r.period = r.backing ∧ 0 < r.period ∧ r.first % r.period = 0 := by decide

theorem Region.offset_of_mirrored {r : Region} {a : Word} (hper : r.period = r.backing) (hpos : 0 < r.period)
    (hmod : r.first % r.period = 0) (h : r.first ≤ a.toNat) : r.offset a = a.toNat % r.period := by
  have hlt : (a.toNat - r.first) % r.period < r.backing := hper ▸ Nat.mod_lt _ hpos
  have hsub : (a.toNat - r.first) % r.period = a.toNat % r.period := by
    obtain ⟨k, hk⟩ := Nat.dvd_of_mod_eq_zero hmod
    rw [hk, Nat.sub_mul_mod (hk ▸ h)]
  exact (if_neg (Nat.not_le.2 hlt)).trans hsub

theorem vramRow_offset {a : Word} (h : 0x06000000 ≤ a.toNat) : vramRow.offset a =
    if a.toNat % 0x20000 < 0x18000 then a.toNat % 0x20000 else a.toNat % 0x20000 - 0x8000 := by
  have hsub : (a.toNat - 0x06000000) % 0x20000 = a.toNat % 0x20000 := by omega
  have hf : vramRow.first = 0x06000000 := rfl
  have hp : vramRow.period = 0x20000 := rfl
  have hb : vramRow.backing = 0x18000 := rfl
  have hfold : vramRow.fold = 0x8000 := rfl
  simp only [Region.offset, hf, hp, hb, hfold, hsub]
  split
  · rw [if_neg (by omega)]
  · rw [if_pos (by omega)]

/-- Every offset of the default table is backed (R84). -/
theorem Region.offset_lt_backing {r : Region} {a : Word} (hr : r ∈ defaultRegions) (h : r.first ≤ a.toNat) :
    r.offset a < r.backing := by
  by_cases hv : r = vramRow
  · subst hv
    have hb : vramRow.backing = 0x18000 := rfl
    rw [vramRow_offset h, hb]
    split <;> omega
  · obtain ⟨hper, hpos, -⟩ := defaultRegions_mirrored r hr hv
    exact Region.offset_lt hper hpos a

section
variable {s : State} {a : Word} (hd : s.par.regions = defaultRegions)
include hd

theorem State.cell_of_covers {r : Region} (hr : r ∈ defaultRegions) (h1 : r.first ≤ a.toNat) (h2 : a.toNat ≤ r.last) :
    s.cell a = some (r.store + r.offset a) := by
  simp only [State.cell, hd, lookup_of_covers hr h1 h2, if_pos (Region.offset_lt_backing hr h1)]

theorem State.peek_of_covers {r : Region} (hr : r ∈ defaultRegions) (h1 : r.first ≤ a.toNat) (h2 : a.toNat ≤ r.last) :
    s.peek a = some (Memory.read s.mem (r.store + r.offset a)) := by
  rw [State.peek, State.cell_of_covers hd hr h1 h2]
  rfl

/-- Where storage fills its period, a byte of `[f, l)` is kept at its address modulo the period. -/
theorem State.cell_of_mirrored {r : Region} {f l c p : Nat} (hr : r ∈ defaultRegions ∧ r ≠ vramRow)
    (he : r.first = f ∧ r.last + 1 = l ∧ r.store = c ∧ r.period = p) (h1 : f ≤ a.toNat) (h2 : a.toNat < l) :
    s.cell a = some (c + a.toNat % p) := by
  obtain ⟨rfl, rfl, rfl, rfl⟩ := he
  obtain ⟨hper, hpos, hmod⟩ := defaultRegions_mirrored r hr.1 hr.2
  rw [State.cell_of_covers hd hr.1 h1 (Nat.le_of_lt_succ h2), Region.offset_of_mirrored hper hpos hmod h1]

/-- The fold of video memory (R84). -/
theorem State.cell_of_vram (h1 : 0x06000000 ≤ a.toNat) (h2 : a.toNat < 0x07000000) : s.cell a =
    some (0x06000000 + if a.toNat % 0x20000 < 0x18000 then a.toNat % 0x20000 else a.toNat % 0x20000 - 0x8000) := by
  rw [State.cell_of_covers hd (r := vramRow) (by decide) h1 (Nat.le_of_lt_succ h2), vramRow_offset h1]
  rfl

end

/-- Settles O43: each range of the statement is a row of the default table or a hole in it; storage fills the period of
every row but video memory's, which is folded. -/
theorem cellsOfAddresses : Obligations.CellsOfAddresses := by
  intro s a n hd hn
  subst hn
  have hole (h : 0x4000 ≤ a.toNat ∧ a.toNat < 0x02000000 ∨ 0x04000400 ≤ a.toNat ∧ a.toNat < 0x05000000 ∨
      0x10000000 ≤ a.toNat) : s.cell a = none := by simp only [State.cell, hd, lookup_eq_none h]
  have rom (h1 : 0x08000000 ≤ a.toNat) (h2 : a.toNat < 0x0E000000) : s.cell a = some (0x08000000 + a.toNat % 0x02000000) := by
    by_cases h0 : a.toNat < 0x0A000000
    · exact State.cell_of_mirrored hd (r := rom0Row) (by decide) (by decide) h1 h0
    · by_cases h1 : a.toNat < 0x0C000000
      · exact State.cell_of_mirrored hd (r := rom1Row) (by decide) (by decide) (Nat.le_of_not_lt h0) h1
      · exact State.cell_of_mirrored hd (r := rom2Row) (by decide) (by decide) (Nat.le_of_not_lt h1) h2
  by_cases hboot : a.toNat < 0x4000
  · rw [if_pos hboot, State.cell_of_mirrored hd (r := bootRow) (c := 0) (p := 0x4000) (by decide) (by decide)
      (Nat.zero_le _) hboot, Nat.mod_eq_of_lt hboot, Nat.zero_add]
  rw [if_neg hboot]
  by_cases hlow : a.toNat < 0x02000000
  · rw [if_pos hlow]; exact hole (by omega)
  rw [if_neg hlow]
  by_cases hewram : a.toNat < 0x03000000
  · rw [if_pos hewram]
    exact State.cell_of_mirrored hd (r := ewramRow) (by decide) (by decide) (Nat.le_of_not_lt hlow) hewram
  rw [if_neg hewram]
  by_cases hiwram : a.toNat < 0x04000000
  · rw [if_pos hiwram]
    exact State.cell_of_mirrored hd (r := iwramRow) (by decide) (by decide) (Nat.le_of_not_lt hewram) hiwram
  rw [if_neg hiwram]
  by_cases hio : a.toNat < 0x04000400
  · have hmod : 0x04000000 + a.toNat % 0x400 = a.toNat := by omega
    rw [if_pos hio, State.cell_of_mirrored hd (r := ioRow) (c := 0x04000000) (p := 0x400) (by decide) (by decide)
      (Nat.le_of_not_lt hiwram) hio, hmod]
  rw [if_neg hio]
  by_cases hhigh : a.toNat < 0x05000000
  · rw [if_pos hhigh]; exact hole (by omega)
  rw [if_neg hhigh]
  by_cases hpal : a.toNat < 0x06000000
  · rw [if_pos hpal]
    exact State.cell_of_mirrored hd (r := palRow) (by decide) (by decide) (Nat.le_of_not_lt hhigh) hpal
  rw [if_neg hpal]
  by_cases hvram : a.toNat < 0x07000000
  · rw [if_pos hvram]; exact State.cell_of_vram hd (Nat.le_of_not_lt hpal) hvram
  rw [if_neg hvram]
  by_cases hoam : a.toNat < 0x08000000
  · rw [if_pos hoam]
    exact State.cell_of_mirrored hd (r := oamRow) (by decide) (by decide) (Nat.le_of_not_lt hvram) hoam
  rw [if_neg hoam]
  by_cases hrom : a.toNat < 0x0E000000
  · rw [if_pos hrom]; exact rom (Nat.le_of_not_lt hoam) hrom
  rw [if_neg hrom]
  by_cases hbackup : a.toNat < 0x10000000
  · rw [if_pos hbackup]
    exact State.cell_of_mirrored hd (r := backupRow) (by decide) (by decide) (Nat.le_of_not_lt hrom) hbackup
  · rw [if_neg hbackup]; exact hole (by omega)

end Sys2Proof.Machine
end

section
/-! The cost of an access on the default platform (family 20). -/

namespace Sys2Proof.Machine

/-! ## What an access costs (R95, R96, R97) -/

/-- A charged access is sequential where it is proposed so and stays in the region of the access before it (R95). -/
theorem State.charged_eq (s : State) {r : Region} {k : AccessKind} {seq : Bool}
    (h : seq = true ↔ k = .s ∧ s.lastRegion = some r.name) : s.charged r k = if seq then .s else .n := by
  cases k with
  | n =>
    have hseq : seq = false := Bool.eq_false_iff.2 fun e => nomatch (h.1 e).1
    rw [hseq]
    rfl
  | s =>
    by_cases hr : s.lastRegion = some r.name
    · rw [h.2 ⟨rfl, hr⟩]; exact if_pos hr
    · have hseq : seq = false := Bool.eq_false_iff.2 fun e => hr (h.1 e).2
      rw [hseq]; exact if_neg hr

theorem State.charge_of_lookup (s : State) {a : Word} {r : Region} (w : Width) (k : AccessKind)
    (h : lookup s.par.regions a = some r) :
    s.charge a w k = (s.addCost (r.wait.cost s.waitcnt w (s.charged r k))).setLastRegion (some r.name) := by
  simp only [State.charge, h]

/-- The rule of a ROM window by the bits of `WAITCNT` its waits come from (R97). -/
theorem WaitRule.cost_rom (i : Fin 3) (c : Half) (w : Width) (seq : Bool) {n : BitVec 2} {fast : Bool} {slow : Nat}
    (hn : waitN c i = selectedCycles n) (hs : waitS c i = if fast then 1 else slow) :
    (WaitRule.rom i).cost c w (if seq then .s else .n) = romCycles n fast slow w seq := by
  cases w <;> cases seq <;> simp only [WaitRule.cost, romCycles, hn, hs] <;> simp [Nat.two_mul]

/-- Settles O46: the rule of each row of the default table, at the kind the access is charged as. -/
theorem accessCost : Obligations.AccessCost := by
  intro s a w k hd
  refine ⟨fun h => ?_, fun r seq h hseq => ?_⟩
  · simp only [State.charge, h]
    exact ⟨rfl, rfl⟩
  · rw [s.charge_of_lookup w k h, s.charged_eq hseq]
    refine ⟨rfl, congrArg (s.report.cost + ·) ?_⟩
    obtain ⟨hr, -, -⟩ := lookup_eq_some h
    rw [hd, defaultRegions_eq] at hr
    simp only [List.mem_cons, List.not_mem_nil, or_false] at hr
    clear h hseq
    rcases hr with rfl | rfl | rfl | rfl | rfl | rfl | rfl | rfl | rfl | rfl | rfl
    iterate 7 · cases w <;> cases seq <;> rfl
    · exact WaitRule.cost_rom 0 s.waitcnt w seq rfl rfl
    · exact WaitRule.cost_rom 1 s.waitcnt w seq rfl rfl
    · exact WaitRule.cost_rom 2 s.waitcnt w seq rfl rfl
    · rfl

end Sys2Proof.Machine
end

section
/-! What a write through the Bus leaves in memory (family 20): the bytes `storeByte` says, in any region table. -/

namespace Sys2Proof.Machine

/-! ## Writes of registers leave memory (R89) -/

theorem IoHalf.write_mem (r : IoHalf) (req : Requester) (v : Half) (low high : Bool) (s : State) :
    (r.write req v low high s).mem = s.mem := by
  cases r with
  | masterLow => simp only [IoHalf.write]; split <;> rfl
  | postHalt => simp only [IoHalf.write]; split <;> split <;> rfl
  | _ => rfl

theorem ioWriteHalf_mem (req : Requester) (off : Nat) (v : Half) (low high : Bool) (s : State) :
    (ioWriteHalf req off v low high s).mem = s.mem := by
  unfold ioWriteHalf
  split
  · rfl
  · exact IoHalf.write_mem _ req v low high s

theorem ioWrite_mem (req : Requester) (off : Nat) (w : Width) (v : Word) (s : State) :
    (ioWrite req off w v s).mem = s.mem := by
  unfold ioWrite
  split
  · exact (s.callback_sheltered _).mem
  · split
    · split <;> exact ioWriteHalf_mem ..
    · exact ioWriteHalf_mem ..
    · exact (ioWriteHalf_mem ..).trans (ioWriteHalf_mem ..)

/-! ## The bytes of one access (R85, R88) -/

/-- Which cells an access covers depends on the region table alone. -/
theorem storeByte_congr {s t : State} (h : t.par = s.par) (x : Word × Width × Word) (c : Nat) :
    storeByte t x c = storeByte s x c := by
  simp only [storeByte, h]

section
variable {s : State} {a : Word} {w : Width} {v : Word} {r : Region} {c : Nat}

theorem storeByte_unmapped (h : lookup s.par.regions a = none) : storeByte s (a, w, v) c = none := by
  simp only [storeByte, h]

theorem storeByte_storage (h : lookup s.par.regions a = some r) (hs : r.handler = .storage ∨ r.handler = .renderer) :
    storeByte s (a, w, v) c = (r.target a w v).bind fun x =>
      if x.1 ≤ c ∧ c < x.1 + x.2.1.bytes then some (lane x.2.2 (c - x.1)) else none := by
  rcases hs with hs | hs <;> simp only [storeByte, h, hs] <;> cases r.target a w v <;> rfl

theorem storeByte_io (h : lookup s.par.regions a = some r) (hs : r.handler = .io) : storeByte s (a, w, v) c = none := by
  simp only [storeByte, h, hs]

theorem storeByte_backup (h : lookup s.par.regions a = some r) (hs : r.handler = .backup) :
    storeByte s (a, w, v) c =
      if r.writable (r.offset a) w && r.writeWidths.contains w && c == r.store + r.offset a then some (lane v 0)
      else none := by
  simp only [storeByte, h, hs]

/-- The store of a write to storage, byte by byte. -/
theorem State.read_put (hm : Memory.wf s.mem) (t : Option (Nat × Width × Word)) :
    Memory.read (s.put t).mem c = (t.bind fun x =>
      if x.1 ≤ c ∧ c < x.1 + x.2.1.bytes then some (lane x.2.2 (c - x.1)) else none).getD (Memory.read s.mem c) := by
  cases t with
  | none => rfl
  | some x =>
    refine (Memory.read_store hm x.1 c x.2.1 x.2.2).trans ?_
    rw [Option.bind_some]
    split <;> rfl

/-- A write turned away before the width rule is charged alone (R88). -/
theorem State.busWrite_not_writable (req : Requester) (k : AccessKind) (h : lookup s.par.regions a = some r)
    (hw : r.writable (r.offset a) w = false) : s.busWrite req a w v k = s.charge a w k := by
  simp only [State.busWrite, State.charge_par, h, State.writeRegion, hw, Bool.false_eq_true, if_false]

theorem State.busWrite_io_mem (req : Requester) (k : AccessKind) (h : lookup s.par.regions a = some r)
    (hs : r.handler = .io) : (s.busWrite req a w v k).mem = s.mem := by
  simp only [State.busWrite, State.charge_par, h, State.writeRegion, hs]
  split
  · split
    · rw [ioWrite_mem, State.setTouched_mem, State.charge_mem]
    · exact s.charge_mem a w k
  · exact s.charge_mem a w k

theorem State.busWrite_backup_mem (req : Requester) (k : AccessKind) (h : lookup s.par.regions a = some r)
    (hs : r.handler = .backup) : (s.busWrite req a w v k).mem =
      if r.writable (r.offset a) w && r.writeWidths.contains w then
        Memory.write s.mem (r.store + r.offset a) (lane v 0)
      else s.mem := by
  have charged : (s.charge a w k).setTouched.mem = s.mem := s.charge_mem a w k
  simp only [State.busWrite, State.charge_par, h, State.writeRegion, hs]
  cases r.writable (r.offset a) w with
  | false => exact s.charge_mem a w k
  | true =>
    cases r.writeWidths.contains w with
    | false => exact charged
    | true =>
      refine (State.callback_sheltered _ _).mem.trans ?_
      rw [State.setMem_mem, charged]
      rfl

/-- After a write each cell holds the byte the access puts there, or what it held (R82, R85, R88). -/
theorem State.read_busWrite (hm : Memory.wf s.mem) (req : Requester) (k : AccessKind) :
    Memory.read (s.busWrite req a w v k).mem c = (storeByte s (a, w, v) c).getD (Memory.read s.mem c) := by
  cases h : lookup s.par.regions a with
  | none => rw [s.busWrite_unmapped a w k req v h, storeByte_unmapped h, State.charge_mem]; rfl
  | some r =>
    have storage (hs : r.handler = .storage ∨ r.handler = .renderer) :
        Memory.read (s.busWrite req a w v k).mem c = (storeByte s (a, w, v) c).getD (Memory.read s.mem c) := by
      rw [s.busWrite_mem_eq_put a w k req v r h hs, storeByte_storage h hs, State.read_put hm]
    cases hs : r.handler with
    | storage => exact storage (.inl hs)
    | renderer => exact storage (.inr hs)
    | io => rw [State.busWrite_io_mem req k h hs, storeByte_io h hs]; rfl
    | backup =>
      rw [State.busWrite_backup_mem req k h hs, storeByte_backup h hs]
      cases r.writable (r.offset a) w && r.writeWidths.contains w with
      | false => rfl
      | true =>
        rw [if_pos rfl, Memory.read_write _ hm.1, Bool.true_and]
        by_cases hc : c = r.store + r.offset a
        · rw [if_pos hc, if_pos (beq_iff_eq.2 hc)]; rfl
        · rw [if_neg hc, if_neg (mt beq_iff_eq.1 hc)]; rfl

/-- The byte kept for an address after a write (R82, R85, R88). -/
theorem State.peek_busWrite (hm : Memory.wf s.mem) (req : Requester) (k : AccessKind) (b : Word) :
    (s.busWrite req a w v k).peek b = s.peekAfter [(a, w, v)] b := by
  rw [State.peek, State.peekAfter, State.cell_congr (s.busWrite_frame a w k req v).par]
  cases s.cell b with
  | none => rfl
  | some c => exact congrArg some (State.read_busWrite hm req k)

theorem State.peek_busWrite_stored (hm : Memory.wf s.mem) (req : Requester) (k : AccessKind) {b : Word} {x : Byte}
    (hc : s.cell b = some c) (hx : storeByte s (a, w, v) c = some x) : (s.busWrite req a w v k).peek b = some x := by
  rw [State.peek_busWrite hm, State.peekAfter, hc, Option.map_some, List.foldl_cons, List.foldl_nil, hx]
  rfl

theorem State.peek_busWrite_kept (hm : Memory.wf s.mem) (req : Requester) (k : AccessKind) {b : Word}
    (h : ∀ c, s.cell b = some c → storeByte s (a, w, v) c = none) : (s.busWrite req a w v k).peek b = s.peek b := by
  rw [State.peek_busWrite hm, State.peekAfter, State.peek]
  cases hc : s.cell b with
  | none => rfl
  | some c => rw [Option.map_some, List.foldl_cons, List.foldl_nil, h c hc]; rfl

end

end Sys2Proof.Machine
end

section
/-! Aligned accesses to the storage of the default platform (family 20): the bytes of one access lie in neighbouring
cells, and reads and writes go by them. -/

namespace Sys2Proof.Machine

/-! ## Byte lanes (R76) -/

/-- A value is its four lanes (R76). -/
theorem ofLanes_lane (v : Word) : ofLanes (lane v 0) (lane v 1) (lane v 2) (lane v 3) = v := by
  unfold ofLanes lane
  rw [BitVec.extractLsb'_append_extractLsb'_eq_extractLsb' (by decide),
    BitVec.extractLsb'_append_extractLsb'_eq_extractLsb' (by decide),
    BitVec.extractLsb'_append_extractLsb'_eq_extractLsb' (by decide)]
  exact BitVec.extractLsb'_eq_self

theorem ofLanes_and (a0 a1 a2 a3 b0 b1 b2 b3 : Byte) : ofLanes a0 a1 a2 a3 &&& ofLanes b0 b1 b2 b3 =
    ofLanes (a0 &&& b0) (a1 &&& b1) (a2 &&& b2) (a3 &&& b3) := by
  have h : ∀ {m n : Nat} (x y : BitVec m) (x' y' : BitVec n), (x ++ x') &&& (y ++ y') = (x &&& y) ++ (x' &&& y') :=
    fun _ _ _ _ => BitVec.and_append
  refine (h _ _ a0 b0).trans (congrArg (· ++ (a0 &&& b0)) ?_)
  refine (h _ _ a1 b1).trans (congrArg (· ++ (a1 &&& b1)) ?_)
  exact h a3 b3 a2 b2

theorem trim_byte (v : Word) : Width.byte.trim v = ofLanes (lane v 0) 0 0 0 := by
  have zero (b : Byte) : b &&& 0 = 0 := BitVec.and_zero
  have mask : (0x000000FF : Word) = ofLanes (BitVec.allOnes 8) 0 0 0 := rfl
  rw [Width.trim, mask]
  conv_lhs => rw [← ofLanes_lane v, ofLanes_and, BitVec.and_allOnes]
  simp only [zero]

theorem trim_half (v : Word) : Width.half.trim v = ofLanes (lane v 0) (lane v 1) 0 0 := by
  have zero (b : Byte) : b &&& 0 = 0 := BitVec.and_zero
  have mask : (0x0000FFFF : Word) = ofLanes (BitVec.allOnes 8) (BitVec.allOnes 8) 0 0 := rfl
  rw [Width.trim, mask]
  conv_lhs => rw [← ofLanes_lane v, ofLanes_and, BitVec.and_allOnes, BitVec.and_allOnes]
  simp only [zero]

theorem lane_ofLanes (b0 b1 b2 b3 : Byte) : lane (ofLanes b0 b1 b2 b3) 0 = b0 ∧ lane (ofLanes b0 b1 b2 b3) 1 = b1 ∧
    lane (ofLanes b0 b1 b2 b3) 2 = b2 ∧ lane (ofLanes b0 b1 b2 b3) 3 = b3 := by
  have above {m n : Nat} (x : BitVec m) (y : BitVec n) (k : Nat) : (x ++ y).extractLsb' (n + k) 8 = x.extractLsb' k 8 := by
    rw [BitVec.extractLsb'_append_eq_of_le (Nat.le_add_right _ _), Nat.add_sub_cancel_left]
  exact ⟨BitVec.extractLsb'_append_eq_right, (above _ b0 0).trans BitVec.extractLsb'_append_eq_right,
    (above _ b0 8).trans ((above _ b1 0).trans BitVec.extractLsb'_append_eq_right),
    (above _ b0 16).trans ((above _ b1 8).trans BitVec.extractLsb'_append_eq_left)⟩

/-- A load after a store of the same width gives the value back (R77). -/
theorem Memory.load_store {m : List Host.Cell} (h : Memory.wf m) (a : Nat) (w : Width) (v : Word) :
    Memory.load (Memory.store m a w v) a w = w.trim v := by
  have put (i : Nat) (hi : i < w.bytes) : Memory.read (Memory.store m a w v) (a + i) = lane v i := by
    rw [Memory.read_store h, if_pos ⟨Nat.le_add_right _ _, Nat.add_lt_add_left hi a⟩, Nat.add_sub_cancel_left]
  have put0 : Memory.read (Memory.store m a w v) a = lane v 0 := put 0 (by cases w <;> decide)
  cases w with
  | byte => rw [Memory.load, put0, trim_byte]
  | half => rw [Memory.load, put0, put 1 (by decide), trim_half]
  | word => rw [Memory.load, put0, put 1 (by decide), put 2 (by decide), put 3 (by decide)]; exact ofLanes_lane v

/-! ## The cells of an aligned access -/

/-- The rows of the default table and their periods are made of whole words. -/
theorem defaultRegions_whole : ∀ r ∈ defaultRegions, r.first % 4 = 0 ∧ r.last % 4 = 3 ∧ r.last < 2 ^ 32 ∧
    r.period % 4 = 0 ∧ 0 < r.period ∧ r.backing % 4 = 0 ∧ r.fold % 4 = 0 ∧ r.fold ≤ r.backing ∧
    r.readWidths = allWidths := by decide

/-- An aligned access of `n` bytes stays inside a block of a whole number of them. -/
theorem add_mod_of_aligned {x p n i : Nat} (hn : n = 1 ∨ n = 2 ∨ n = 4) (hx : x % n = 0) (hp : p % 4 = 0)
    (hpos : 0 < p) (hi : i < n) : (x + i) % p = x % p + i := by
  have hlt := Nat.mod_lt x hpos
  have hpn : n ∣ p := by rcases hn with rfl | rfl | rfl <;> omega
  have hq : x % p % n = 0 := by rw [Nat.mod_mod_of_dvd _ hpn, hx]
  have hpn : p % n = 0 := Nat.mod_eq_zero_of_dvd hpn
  rw [← Nat.mod_add_mod, Nat.mod_eq_of_lt]
  rcases hn with rfl | rfl | rfl <;> omega

theorem Width.bytes_cases (w : Width) : w.bytes = 1 ∨ w.bytes = 2 ∨ w.bytes = 4 := by cases w <;> decide

section
variable {r : Region} {a : Word} {w : Width} (hr : r ∈ defaultRegions) (h1 : r.first ≤ a.toNat) (h2 : a.toNat ≤ r.last)
  (ha : a.toNat % w.bytes = 0)
include hr h1 h2 ha

theorem toNat_add_of_aligned {i : Nat} (hi : i < w.bytes) :
    (a + BitVec.ofNat 32 i).toNat = a.toNat + i ∧ a.toNat + i ≤ r.last := by
  obtain ⟨-, hlast, hsmall, -⟩ := defaultRegions_whole r hr
  have hle : a.toNat + i ≤ r.last := by
    rcases w.bytes_cases with h | h | h <;> rw [h] at ha hi <;> omega
  rw [BitVec.toNat_add, BitVec.toNat_ofNat]
  omega

/-- The offsets of an aligned access are neighbours inside the backing storage, the first of them aligned (R74, R84). -/
theorem Region.offset_add {i : Nat} (hi : i < w.bytes) : r.offset (a + BitVec.ofNat 32 i) = r.offset a + i ∧
    r.offset a % w.bytes = 0 ∧ r.offset a + w.bytes ≤ r.backing := by
  have ho := Region.offset_lt_backing hr h1
  obtain ⟨hfirst, -, -, hper, hpos, hback, hfold, hle, -⟩ := defaultRegions_whole r hr
  obtain ⟨hadd, -⟩ := toNat_add_of_aligned hr h1 h2 ha hi
  have hx : (a.toNat - r.first) % w.bytes = 0 := by
    rcases w.bytes_cases with h | h | h <;> rw [h] at ha ⊢ <;> omega
  have hq : (a.toNat - r.first) % r.period % w.bytes = 0 := by
    rw [Nat.mod_mod_of_dvd _ (by rcases w.bytes_cases with h | h | h <;> rw [h] <;> omega), hx]
  have hsub : a.toNat + i - r.first = a.toNat - r.first + i := by omega
  simp only [Region.offset, hadd, hsub, add_mod_of_aligned w.bytes_cases hx hper hpos hi] at ho ⊢
  generalize (a.toNat - r.first) % r.period = q at hq ho
  rcases w.bytes_cases with h | h | h <;> rw [h] at hq hi ⊢ <;> split at ho <;> split <;> omega

theorem Region.holds_of_aligned : r.holds (r.offset a) w = true := by
  obtain ⟨-, -, hfit⟩ := Region.offset_add hr h1 h2 ha (i := 0) (by cases w <;> decide)
  exact decide_eq_true hfit

/-- An aligned address of the default table can be read by every width (R87). -/
theorem Region.readable_of_aligned : r.readable (r.offset a) w = true := by
  obtain ⟨-, -, -, -, -, -, -, -, hread⟩ := defaultRegions_whole r hr
  have hall : allWidths.contains w = true := by cases w <;> rfl
  rw [Region.readable, hread, hall, Bool.true_and, Region.holds_of_aligned hr h1 h2 ha]

/-- The bytes of an aligned access are neighbouring cells (R74, R76). -/
theorem State.cell_add {s : State} (hd : s.par.regions = defaultRegions) {i : Nat} (hi : i < w.bytes) :
    s.cell (a + BitVec.ofNat 32 i) = some (r.store + r.offset a + i) := by
  obtain ⟨hadd, hle⟩ := toNat_add_of_aligned hr h1 h2 ha hi
  obtain ⟨hoff, -⟩ := Region.offset_add hr h1 h2 ha hi
  rw [State.cell_of_covers hd hr (by omega) (by omega), hoff, Nat.add_assoc]

end

section
variable {s : State} {a : Word} {w : Width} {r : Region}

/-- A read of storage, the Bus's own or the renderer's, answers its bytes (R84, R87). -/
theorem State.busRead_plain (k : AccessKind) (h : lookup s.par.regions a = some r)
    (hs : r.handler = .storage ∨ r.handler = .renderer) (hw : r.readable (r.offset a) w = true) :
    (s.busRead a w k).1 = Memory.load s.mem (r.store + r.offset a) w := by
  rcases hs with hs | hs
  · rw [s.busRead_storage a w k r h hs hw]
  · rw [s.busRead_renderer a w k r h hs hw]

/-- An address that keeps a byte is mapped. -/
theorem State.exists_lookup_of_peek (h : s.peek a ≠ none) : ∃ r, lookup s.par.regions a = some r := by
  cases hr : lookup s.par.regions a with
  | none => simp only [State.peek, State.cell, hr, Option.map_none, ne_eq, not_true_eq_false] at h
  | some r => exact ⟨r, rfl⟩

theorem State.plain_iff (h : lookup s.par.regions a = some r) :
    s.plain a = true ↔ r.handler = .storage ∨ r.handler = .renderer := by
  simp only [State.plain, h, Bool.or_eq_true, beq_iff_eq]

theorem Memory.lane_load (m : List Host.Cell) (c : Nat) (w : Width) {i : Nat} (hi : i < w.bytes) :
    lane (Memory.load m c w) i = Memory.read m (c + i) := by
  cases w with
  | byte =>
    obtain rfl : i = 0 := Nat.lt_one_iff.1 hi
    exact (lane_ofLanes _ _ _ _).1
  | half =>
    obtain ⟨h0, h1, -, -⟩ := lane_ofLanes (Memory.read m c) (Memory.read m (c + 1)) 0 0
    match i, hi with
    | 0, _ => exact h0
    | 1, _ => exact h1
  | word =>
    obtain ⟨h0, h1, h2, h3⟩ := lane_ofLanes (Memory.read m c) (Memory.read m (c + 1)) (Memory.read m (c + 2))
      (Memory.read m (c + 3))
    match i, hi with
    | 0, _ => exact h0
    | 1, _ => exact h1
    | 2, _ => exact h2
    | 3, _ => exact h3

/-- An aligned read of plain storage answers, lane by lane, the bytes kept for its addresses (R76, R87). -/
theorem State.peek_eq_lane (k : AccessKind) (hd : s.par.regions = defaultRegions) (hp : s.plain a = true)
    (ha : a.toNat % w.bytes = 0) (hb : s.peek a ≠ none) {i : Nat} (hi : i < w.bytes) :
    s.peek (a + BitVec.ofNat 32 i) = some (lane (s.busRead a w k).1 i) := by
  obtain ⟨r, hlook⟩ := State.exists_lookup_of_peek hb
  obtain ⟨hr, h1, h2⟩ := lookup_eq_some (hd ▸ hlook)
  rw [State.busRead_plain k hlook ((State.plain_iff hlook).1 hp) (Region.readable_of_aligned hr h1 h2 ha),
    Memory.lane_load _ _ _ hi, State.peek, State.cell_add hr h1 h2 ha hd hi]
  rfl

end

end Sys2Proof.Machine
end

section
/-! Reads and writes of storage on the default platform (family 20). -/

namespace Sys2Proof.Machine

section
variable {s : State} {a : Word} {w : Width} {r : Region}

/-- A width the row accepts is stored as it stands (R85). -/
theorem Region.target_accepted {v : Word} (hw : r.writable (r.offset a) w = true) (hc : r.writeWidths.contains w = true) :
    r.target a w v = some (r.store + r.offset a, w, v) := by
  simp only [Region.target, hw, hc, Bool.not_true, Bool.false_eq_true, if_false, if_true]

/-- Which byte an accepted access of storage puts in a cell. -/
theorem storeByte_accepted {v : Word} {c : Nat} (h : lookup s.par.regions a = some r)
    (hs : r.handler = .storage ∨ r.handler = .renderer) (hw : r.writable (r.offset a) w = true)
    (hc : r.writeWidths.contains w = true) : storeByte s (a, w, v) c =
      if r.store + r.offset a ≤ c ∧ c < r.store + r.offset a + w.bytes then some (lane v (c - (r.store + r.offset a)))
      else none := by
  rw [storeByte_storage h hs, Region.target_accepted hw hc]
  rfl

/-- A row that accepts some width can be written at every aligned offset it has (R88). -/
theorem Region.writable_of_aligned (hr : r ∈ defaultRegions) (h1 : r.first ≤ a.toNat) (h2 : a.toNat ≤ r.last)
    (ha : a.toNat % w.bytes = 0) (hw : r.writeWidths.isEmpty = false) : r.writable (r.offset a) w = true := by
  rw [Region.writable, hw, Bool.not_false, Bool.true_and, Region.holds_of_aligned hr h1 h2 ha]

theorem isEmpty_of_contains {l : List Width} {w : Width} (h : l.contains w = true) : l.isEmpty = false := by
  cases l with
  | nil => cases h
  | cons => rfl

/-- A write of work RAM, or of a halfword or word of video or object memory, is accepted as it stands (R85). -/
theorem exists_row_of_accepted
    (h : 0x02000000 ≤ a.toNat ∧ a.toNat < 0x04000000 ∨ 0x05000000 ≤ a.toNat ∧ a.toNat < 0x08000000 ∧ w ≠ .byte) :
    ∃ r ∈ defaultRegions, r.first ≤ a.toNat ∧ a.toNat ≤ r.last ∧ (r.handler = .storage ∨ r.handler = .renderer) ∧
      r.writeWidths.contains w = true := by
  have wide {l : List Width} (hl : l = [.half, .word]) (hw : w ≠ .byte) : l.contains w = true := by
    subst hl
    cases w with
    | byte => exact absurd rfl hw
    | half | word => rfl
  rcases h with ⟨h1, h2⟩ | ⟨h1, h2, hw⟩
  · by_cases h : a.toNat < 0x03000000
    · exact ⟨ewramRow, by decide, h1, Nat.le_of_lt_succ h, .inl rfl, by cases w <;> rfl⟩
    · exact ⟨iwramRow, by decide, Nat.le_of_not_lt h, Nat.le_of_lt_succ h2, .inl rfl, by cases w <;> rfl⟩
  · by_cases hp : a.toNat < 0x06000000
    · exact ⟨palRow, by decide, h1, Nat.le_of_lt_succ hp, .inr rfl, wide rfl hw⟩
    · by_cases hv : a.toNat < 0x07000000
      · exact ⟨vramRow, by decide, Nat.le_of_not_lt hp, Nat.le_of_lt_succ hv, .inr rfl, wide rfl hw⟩
      · exact ⟨oamRow, by decide, Nat.le_of_not_lt hv, Nat.le_of_lt_succ h2, .inr rfl, wide rfl hw⟩

/-- The byte kept for an address of a row. -/
theorem State.peek_add (hd : s.par.regions = defaultRegions) (hr : r ∈ defaultRegions) (h1 : r.first ≤ a.toNat)
    (h2 : a.toNat ≤ r.last) (ha : a.toNat % w.bytes = 0) {i : Nat} (hi : i < w.bytes) :
    s.peek (a + BitVec.ofNat 32 i) = some (Memory.read s.mem (r.store + r.offset a + i)) := by
  rw [State.peek, State.cell_add hr h1 h2 ha hd hi]
  rfl

end

/-- Settles O44: an aligned access is a load or store of neighbouring cells, and a cell no access covers keeps its
byte. -/
theorem storageBytes : Obligations.StorageBytes := by
  constructor
  · intro s a k b0 b1 b2 b3 hd hp hb0
    obtain ⟨r, hlook⟩ := State.exists_lookup_of_peek (hb0 ▸ Option.some_ne_none b0)
    obtain ⟨hr, h1, h2⟩ := lookup_eq_some (hd ▸ hlook)
    have value (w : Width) (ha : a.toNat % w.bytes = 0) :
        (s.busRead a w k).1 = Memory.load s.mem (r.store + r.offset a) w :=
      State.busRead_plain k hlook ((State.plain_iff hlook).1 hp) (Region.readable_of_aligned hr h1 h2 ha)
    have kept (w : Width) (ha : a.toNat % w.bytes = 0) {i : Nat} (hi : i < w.bytes) {b : Byte}
        (hb : s.peek (a + BitVec.ofNat 32 i) = some b) : Memory.read s.mem (r.store + r.offset a + i) = b := by
      rw [State.peek_add hd hr h1 h2 ha hi] at hb
      exact Option.some.inj hb
    have kept0 : Memory.read s.mem (r.store + r.offset a) = b0 :=
      kept .byte (Nat.mod_one _) (i := 0) (by decide) ((congrArg s.peek (BitVec.add_zero a)).trans hb0)
    refine ⟨?_, fun ha hb1 => ?_, fun ha hb1 hb2 hb3 => ?_⟩
    · rw [value .byte (Nat.mod_one _), Memory.load, kept0]
      rfl
    · rw [value .half ha, Memory.load, kept0, kept .half ha (i := 1) (by decide) hb1]
      rfl
    · rw [value .word ha, Memory.load, kept0, kept .word ha (i := 1) (by decide) hb1,
        kept .word ha (i := 2) (by decide) hb2, kept .word ha (i := 3) (by decide) hb3]
      rfl
  · rintro s t req a w v k k' hd hm hacc ha rfl
    obtain ⟨r, hr, h1, h2, hs, hc⟩ := exists_row_of_accepted hacc
    have hlook : lookup s.par.regions a = some r := hd ▸ lookup_of_covers hr h1 h2
    have hw := Region.writable_of_aligned hr h1 h2 ha (isEmpty_of_contains hc)
    have hpar : (s.busWrite req a w v k).par = s.par := (s.busWrite_frame a w k req v).par
    have hmem : (s.busWrite req a w v k).mem = Memory.store s.mem (r.store + r.offset a) w v := by
      rw [s.busWrite_mem_eq_put a w k req v r hlook hs, Region.target_accepted hw hc]
      rfl
    refine ⟨?_, fun i hi => ?_, fun b hb => ?_⟩
    · rw [State.busRead_plain k' (hpar ▸ hlook) hs (Region.readable_of_aligned hr h1 h2 ha), hmem, Memory.load_store hm]
    · rw [State.peek_add (hpar ▸ hd) hr h1 h2 ha hi, hmem, Memory.read_store hm,
        if_pos ⟨Nat.le_add_right _ _, Nat.add_lt_add_left hi _⟩, Nat.add_sub_cancel_left]
      rfl
    · refine State.peek_busWrite_kept hm req k fun c hcell => ?_
      rw [storeByte_accepted hlook hs hw hc, if_neg]
      rintro ⟨hge, hlt⟩
      refine hb (c - (r.store + r.offset a)) (by omega) ?_
      rw [State.cell_add hr h1 h2 ha hd (by omega), hcell, Nat.add_sub_cancel' hge]

end Sys2Proof.Machine
end

section
/-! The registers of the IO region on the default platform (family 20): which register an access reaches, what a read of
it answers, and what a write does. -/

namespace Sys2Proof.Machine

/-! ## Accesses of the IO region (R89) -/

section
variable {s : State} {a : Word} {w : Width} {off : Nat} (hd : s.par.regions = defaultRegions)
  (ha : a.toNat = 0x04000000 + off) (hoff : off < 0x400)
include hd ha hoff

theorem State.lookup_io : lookup s.par.regions a = some ioRow :=
  hd ▸ lookup_of_covers (r := ioRow) (by decide) (ha ▸ Nat.le_add_right _ _) (by rw [ha]; exact Nat.add_le_add_left (Nat.le_of_lt_succ hoff) _)

omit hd in
theorem ioRow_offset : ioRow.offset a = off := by
  have hp : ioRow.period = 0x400 := rfl
  rw [Region.offset_of_mirrored (r := ioRow) rfl (by decide) (by decide) (ha ▸ Nat.le_add_right _ _), ha, hp]
  omega

variable (hal : off % w.bytes = 0)
include hal

omit hd ha in
theorem ioRow_holds : ioRow.holds off w = true := by
  refine decide_eq_true ?_
  change off + w.bytes ≤ 0x400
  rcases w.bytes_cases with h | h | h <;> rw [h] at hal ⊢ <;> omega

/-- An aligned read of the IO region is a read of the registers there. -/
theorem State.busRead_io (k : AccessKind) : s.busRead a w k = ioRead ioRow off w (s.charge a w k).setTouched := by
  have hw : ioRow.readWidths.contains w = true := by cases w <;> rfl
  simp only [State.busRead, State.charge_par, State.lookup_io hd ha hoff, State.readRegion, ioRow_offset ha hoff,
    Region.readable, hw, ioRow_holds hoff hal, Bool.and_self, if_true]
  rfl

/-- An aligned write of the IO region is a write of the registers there. -/
theorem State.busWrite_io (req : Requester) (v : Word) (k : AccessKind) :
    s.busWrite req a w v k = ioWrite req off w v (s.charge a w k).setTouched := by
  have hw : ioRow.writeWidths.contains w = true := by cases w <;> rfl
  have hn : ioRow.writeWidths.isEmpty = false := rfl
  simp only [State.busWrite, State.charge_par, State.lookup_io hd ha hoff, State.writeRegion, ioRow_offset ha hoff,
    Region.writable, hn, hw, ioRow_holds hoff hal, Bool.not_false, Bool.and_self, if_true]
  rfl

end

/-! ## Reads of registers -/

/-- What the byte at an offset reads as; zero, the default open bus, where none can be read (R86, R89). -/
def State.ioByte (s : State) (n : Nat) : Byte :=
  ((ioHalf (n - n % 2)).bind fun h => h.readByte (decide (n % 2 = 1)) s).getD 0

/-- The value of an access's bytes, zero above its width (R76). -/
def Width.join (w : Width) (b : Nat → Byte) : Word :=
  match w with
  | .byte => ofLanes (b 0) 0 0 0
  | .half => ofLanes (b 0) (b 1) 0 0
  | .word => ofLanes (b 0) (b 1) (b 2) (b 3)

theorem ioReadByte_eq (s : State) (off i : Nat) : ioReadByte ioRow s off i = s.ioByte (off + i) := by
  have open_zero : lane ioRow.openBus i = 0 := by
    change (0 : Word).extractLsb' (8 * i) 8 = 0
    exact BitVec.extractLsb'_zero
  unfold ioReadByte State.ioByte
  rw [open_zero]
  cases ioHalf (off + i - (off + i) % 2) <;> rfl

/-- The bytes of registers depend on the registers alone. -/
theorem State.ioByte_charged (s : State) (a : Word) (w : Width) (k : AccessKind) (n : Nat) :
    (s.charge a w k).setTouched.ioByte n = s.ioByte n := by
  unfold State.ioByte
  cases ioHalf (n - n % 2) with
  | none => rfl
  | some h => cases h <;> simp [IoHalf.readByte]

section
variable {s : State} {a : Word} {w : Width} {off : Nat} (hd : s.par.regions = defaultRegions)
  (ha : a.toNat = 0x04000000 + off) (hoff : off < 0x400) (hal : off % w.bytes = 0)
include hd ha hoff hal

/-- A read of registers that belong to no collaborator answers their bytes (R89). -/
theorem State.busRead_registers (k : AccessKind) (hc : isCollaborator off = false) :
    (s.busRead a w k).1 = w.join fun i => s.ioByte (off + i) := by
  rw [State.busRead_io hd ha hoff hal, ioRead, hc, if_neg Bool.false_ne_true]
  cases w <;> simp only [ioReadByte_eq, State.ioByte_charged] <;> rfl

/-- A collaborator's register reads open bus when none is attached (R86, R531). -/
theorem State.busRead_unattached (k : AccessKind) (hc : isCollaborator off = true) (hans : s.answers = []) :
    (s.busRead a w k).1 = 0 := by
  have hnone : (s.charge a w k).setTouched.answers = [] := (s.charge_answers a w k).trans hans
  rw [State.busRead_io hd ha hoff hal, ioRead, hc, if_pos rfl, State.callback_of_no_answers _ _ hnone]
  cases w <;> rfl

end

theorem join_zero (w : Width) {b : Nat → Byte} (h : ∀ i, i < w.bytes → b i = 0) : w.join b = 0 := by
  have h0 : b 0 = 0 := h 0 (by cases w <;> decide)
  cases w with
  | byte => rw [Width.join, h0]; rfl
  | half => rw [Width.join, h0, h 1 (by decide)]; rfl
  | word => rw [Width.join, h0, h 1 (by decide), h 2 (by decide), h 3 (by decide)]; rfl

/-- The two bytes of a register are the register. -/
theorem halfByte_append (v : Half) : halfByte v true ++ halfByte v false = v := by
  refine (BitVec.extractLsb'_append_extractLsb'_eq_extractLsb' (x := v) (start₁ := 0) (len₁ := 8) rfl).trans ?_
  exact BitVec.extractLsb'_eq_self

theorem ofLanes_halfByte (v : Half) : ofLanes (halfByte v false) (halfByte v true) 0 0 = 0#16 ++ v := by
  have h : 0#16 ++ halfByte v true ++ halfByte v false = 0#16 ++ (halfByte v true ++ halfByte v false) :=
    BitVec.append_assoc
  exact h.trans (congrArg (0#16 ++ ·) (halfByte_append v))

/-! ## Writes of registers -/

/-- A write of both bytes replaces the register. -/
theorem mergeHalf_both (old new : Half) : mergeHalf old new true true = new := halfByte_append new

section
variable {s : State} {off : Nat} (req : Requester) (v : Word) {h : IoHalf} (hc : isCollaborator off = false)
  (hh : ioHalf off = some h)
include hc hh

theorem ioWrite_half : ioWrite req off .half v s = h.write req (v.extractLsb' 0 16) true true s := by
  simp only [ioWrite, hc, ioWriteHalf, hh, Bool.false_eq_true, if_false]

theorem ioWrite_low (he : off % 2 = 0) :
    ioWrite req off .byte v s = h.write req (v.extractLsb' 0 16) true false s := by
  simp only [ioWrite, hc, ioWriteHalf, hh, he, Bool.false_eq_true, if_false, if_true]

theorem ioWrite_word {h' : IoHalf} (hh' : ioHalf (off + 2) = some h') : ioWrite req off .word v s =
    h'.write req (v.extractLsb' 16 16) true true (h.write req (v.extractLsb' 0 16) true true s) := by
  simp only [ioWrite, hc, ioWriteHalf, hh, hh', Bool.false_eq_true, if_false]

omit hc in
/-- The upper byte of a register, at its odd address. -/
theorem ioWrite_high (hc : isCollaborator (off + 1) = false) (he : off % 2 = 0) :
    ioWrite req (off + 1) .byte v s = h.write req (v.extractLsb' 0 8 ++ 0#8) false true s := by
  have hodd : ¬ (off + 1) % 2 = 0 := by omega
  simp only [ioWrite, hc, ioWriteHalf, hodd, Nat.add_sub_cancel, hh, Bool.false_eq_true, if_false]

end

end Sys2Proof.Machine
end

section
/-! The interrupt, wait and boot registers on the default platform (family 20). -/

namespace Sys2Proof.Machine

/-- `IE` has bits 13:0 (R425). -/
theorem interruptEnable_bits (v : Word) : v.extractLsb' 0 16 &&& 0x3FFF = 0#2 ++ v.extractLsb' 0 14 := by
  have whole : v.extractLsb' 14 2 ++ v.extractLsb' 0 14 = v.extractLsb' 0 16 :=
    BitVec.extractLsb'_append_extractLsb'_eq_extractLsb' rfl
  have mask : (0x3FFF : Half) = 0#2 ++ BitVec.allOnes 14 := rfl
  rw [← whole, mask]
  refine BitVec.and_append.trans ?_
  rw [BitVec.and_zero, BitVec.and_allOnes]

/-- `WAITCNT` has bits 14 and 12:0 (R97). -/
theorem waitControl_bits (v : Word) :
    v.extractLsb' 0 16 &&& 0x5FFF = 0#1 ++ v.extractLsb' 14 1 ++ 0#1 ++ v.extractLsb' 0 13 := by
  have whole : v.extractLsb' 15 1 ++ v.extractLsb' 14 1 ++ v.extractLsb' 13 1 ++ v.extractLsb' 0 13 = v.extractLsb' 0 16 := by
    rw [BitVec.extractLsb'_append_extractLsb'_eq_extractLsb' (by decide),
      BitVec.extractLsb'_append_extractLsb'_eq_extractLsb' (by decide),
      BitVec.extractLsb'_append_extractLsb'_eq_extractLsb' (by decide)]
  have mask : (0x5FFF : Half) = 0#1 ++ BitVec.allOnes 1 ++ 0#1 ++ BitVec.allOnes 13 := rfl
  rw [← whole, mask]
  refine BitVec.and_append.trans ?_
  rw [BitVec.and_allOnes]
  refine congrArg (· ++ v.extractLsb' 0 13) ?_
  refine BitVec.and_append.trans ?_
  rw [BitVec.and_zero]
  refine congrArg (· ++ 0#1) ?_
  refine BitVec.and_append.trans ?_
  rw [BitVec.and_zero, BitVec.and_allOnes]

/-- The low byte of a register that a byte write covers. -/
theorem halfByte_extractLsb' (v : Word) : halfByte (v.extractLsb' 0 16) false = v.extractLsb' 0 8 :=
  BitVec.extractLsb'_extractLsb'_of_le (by decide)

/-- A byte written to an odd address is the upper byte of the halfword presented (R89). -/
theorem highByte_getLsbD_fifteen (v : Word) : (v.extractLsb' 0 8 ++ 0#8).getLsbD 15 = v.getLsbD 7 := by
  rw [BitVec.getLsbD_append, if_neg (by decide), BitVec.getLsbD_extractLsb']
  rfl

section
variable (s : State) (req : Requester) (v : Word) (k : AccessKind) (hd : s.par.regions = defaultRegions)
include hd

/-- A byte write of the post-boot flag. -/
theorem State.busWrite_postFlag : s.busWrite req 0x04000300 .byte v k =
    (s.charge 0x04000300 .byte k).setTouched.setPostFlag (v.extractLsb' 0 8) := by
  rw [State.busWrite_io (off := 0x300) hd rfl (by decide) rfl, ioWrite_low req v (h := .postHalt) rfl rfl rfl,
    IoHalf.write, halfByte_extractLsb']
  rfl

/-- A byte write of `HALTCNT` (R427, R448). -/
theorem State.busWrite_haltcnt : s.busWrite req 0x04000301 .byte v k =
    if !v.getLsbD 7 && req == .core then (s.charge 0x04000301 .byte k).setTouched.setHalted true
    else (s.charge 0x04000301 .byte k).setTouched := by
  rw [State.busWrite_io (off := 0x300 + 1) hd rfl (by decide) rfl,
    ioWrite_high req v (h := .postHalt) rfl rfl rfl, IoHalf.write, highByte_getLsbD_fifteen]
  rfl

end

/-- Settles O48: each access is one of the register at its offset, whose stored bits a mask says. -/
theorem controlRegisters : Obligations.ControlRegisters := by
  intro s req v k hd
  have read {a : Word} {off : Nat} (w : Width) (ha : a.toNat = 0x04000000 + off) (hoff : off < 0x400)
      (hal : off % w.bytes = 0) (hc : isCollaborator off = false) :
      (s.busRead a w k).1 = w.join fun i => s.ioByte (off + i) := State.busRead_registers hd ha hoff hal k hc
  refine ⟨?_, ?_, ?_, ?_, ?_, ?_, ?_, ?_, ?_, ?_, ?_, ?_, ?_, ?_⟩
  · exact (read (off := 0x200) .half rfl (by decide) rfl rfl).trans (ofLanes_halfByte s.irq.enable)
  · exact (read (off := 0x202) .half rfl (by decide) rfl rfl).trans (ofLanes_halfByte s.irq.pending)
  · refine (read (off := 0x208) .word rfl (by decide) rfl rfl).trans
      ((ofLanes_halfByte (0#15 ++ BitVec.ofBool s.irq.master)).trans ?_)
    cases s.irq.master <;> rfl
  · exact (read (off := 0x204) .half rfl (by decide) rfl rfl).trans (ofLanes_halfByte s.waitcnt)
  · exact read (off := 0x300) .byte rfl (by decide) rfl rfl
  · rw [read (off := 0x301) .byte rfl (by decide) rfl rfl]
    exact join_zero .byte fun i hi => by obtain rfl := Nat.lt_one_iff.1 hi; rfl
  · rw [State.busWrite_io (off := 0x200) hd rfl (by decide) rfl, ioWrite_half req v (h := .interruptEnable) rfl rfl,
      IoHalf.write, mergeHalf_both, interruptEnable_bits]
    simp
  · rw [State.busWrite_io (off := 0x208) hd rfl (by decide) rfl,
      ioWrite_word req v (h := .masterLow) (h' := .masterHigh) rfl rfl rfl]
    simp [IoHalf.write]
  · rw [State.busWrite_io (off := 0x204) hd rfl (by decide) rfl, ioWrite_half req v (h := .waitControl) rfl rfl,
      IoHalf.write, mergeHalf_both, waitControl_bits]
    rfl
  · rw [s.busWrite_postFlag req v k hd]; rfl
  · rw [s.busWrite_postFlag req v k hd]; exact congrArg (·.halted) (s.charge_core _ _ _)
  · rw [s.busWrite_haltcnt .core v k hd]
    cases v.getLsbD 7 <;> simp
  · rw [s.busWrite_haltcnt .dma v k hd]
    simp
  · rw [s.busWrite_haltcnt req v k hd]
    split <;> exact s.charge_postFlag _ _ _

end Sys2Proof.Machine
end

section
/-! The write rules of the default platform by region, and open bus (family 20). -/

namespace Sys2Proof.Machine

/-! ## Read-only rows (R85) -/

theorem exists_row_of_readOnly {a : Word} (h : a.toNat < 0x4000 ∨ 0x08000000 ≤ a.toNat ∧ a.toNat < 0x0E000000) :
    ∃ r ∈ defaultRegions, r.first ≤ a.toNat ∧ a.toNat ≤ r.last ∧ r.writeWidths = [] := by
  rcases h with h | ⟨h1, h2⟩
  · exact ⟨bootRow, by decide, Nat.zero_le _, Nat.le_of_lt_succ h, rfl⟩
  · by_cases h0 : a.toNat < 0x0A000000
    · exact ⟨rom0Row, by decide, h1, Nat.le_of_lt_succ h0, rfl⟩
    · by_cases h1 : a.toNat < 0x0C000000
      · exact ⟨rom1Row, by decide, Nat.le_of_not_lt h0, Nat.le_of_lt_succ h1, rfl⟩
      · exact ⟨rom2Row, by decide, Nat.le_of_not_lt h1, Nat.le_of_lt_succ h2, rfl⟩

/-! ## A byte written to palette or video memory (R85) -/

/-- A word is its upper bits and its lowest. -/
theorem eq_append_lowest (a : Word) : a = a.extractLsb' 1 31 ++ a.extractLsb' 0 1 := by
  rw [BitVec.extractLsb'_append_extractLsb'_eq_extractLsb' (by decide)]
  exact BitVec.extractLsb'_eq_self.symm

theorem and_not_one_eq (a : Word) : a &&& ~~~(1 : Word) = a.extractLsb' 1 31 ++ 0#1 := by
  have mask : ~~~(1 : Word) = BitVec.allOnes 31 ++ 0#1 := rfl
  rw [mask]
  conv_lhs => rw [eq_append_lowest a]
  exact BitVec.and_append.trans (by rw [BitVec.and_allOnes, BitVec.and_zero])

theorem or_one_eq (a : Word) : a ||| 1 = a.extractLsb' 1 31 ++ 1#1 := by
  have mask : (1 : Word) = 0#31 ++ BitVec.allOnes 1 := rfl
  rw [mask]
  conv_lhs => rw [eq_append_lowest a]
  exact BitVec.or_append.trans (by rw [BitVec.or_allOnes, BitVec.or_zero]; rfl)

theorem toNat_append_bit (x : BitVec 31) (b : BitVec 1) : (x ++ b).toNat = 2 * x.toNat + b.toNat := by
  rw [BitVec.toNat_append, ← Nat.shiftLeft_add_eq_or_of_lt b.isLt, Nat.shiftLeft_eq, Nat.mul_comm]

/-- The halfword an address lies in starts at its address rounded down. -/
theorem toNat_and_not_one (a : Word) : (a &&& ~~~(1 : Word)).toNat = a.toNat - a.toNat % 2 := by
  rw [and_not_one_eq]
  conv_rhs => rw [eq_append_lowest a]
  have hbit := (a.extractLsb' 0 1).isLt
  rw [toNat_append_bit, toNat_append_bit]
  change 2 * _ + 0 = _
  omega

theorem or_one_eq_add (a : Word) : a ||| 1 = (a &&& ~~~(1 : Word)) + 1 := by
  apply BitVec.eq_of_toNat_eq
  have hx := (a.extractLsb' 1 31).isLt
  rw [or_one_eq, BitVec.toNat_add, and_not_one_eq, toNat_append_bit, toNat_append_bit]
  change 2 * _ + 1 = (2 * _ + 0 + 1) % 2 ^ 32
  omega

theorem exists_row_of_duplicating {a : Word} (h1 : 0x05000000 ≤ a.toNat) (h2 : a.toNat < 0x07000000) :
    ∃ r ∈ defaultRegions, r.first ≤ a.toNat ∧ a.toNat ≤ r.last ∧ r.handler = .renderer ∧ r.narrow = .duplicateByte ∧
      r.writeWidths = [.half, .word] := by
  by_cases h : a.toNat < 0x06000000
  · exact ⟨palRow, by decide, h1, Nat.le_of_lt_succ h, rfl, rfl, rfl⟩
  · exact ⟨vramRow, by decide, Nat.le_of_not_lt h, Nat.le_of_lt_succ h2, rfl, rfl, rfl⟩

section
variable {s : State} {a : Word} {r : Region} (hr : r ∈ defaultRegions) (h1 : r.first ≤ a.toNat) (h2 : a.toNat ≤ r.last)
include hr h1 h2

/-- The halfword of an address of a row lies in it, its offset the address's rounded down. -/
theorem Region.offset_and_not_one : r.first ≤ (a &&& ~~~(1 : Word)).toNat ∧ (a &&& ~~~(1 : Word)).toNat ≤ r.last ∧
    (a &&& ~~~(1 : Word)).toNat % Width.half.bytes = 0 ∧ r.offset (a &&& ~~~(1 : Word)) = r.offset a - r.offset a % 2 := by
  obtain ⟨hfirst, -⟩ := defaultRegions_whole r hr
  have he := toNat_and_not_one a
  have h1' : r.first ≤ (a &&& ~~~(1 : Word)).toNat := by omega
  have h2' : (a &&& ~~~(1 : Word)).toNat ≤ r.last := by omega
  have hal : (a &&& ~~~(1 : Word)).toNat % Width.half.bytes = 0 := by
    change _ % 2 = 0
    omega
  refine ⟨h1', h2', hal, ?_⟩
  have hadd {i : Nat} (hi : i < Width.half.bytes) := Region.offset_add hr h1' h2' hal hi
  obtain ⟨-, heven, -⟩ := hadd (i := 0) (by decide)
  have hoff : r.offset a = r.offset (a &&& ~~~(1 : Word)) + a.toNat % 2 := by
    have ha : a = (a &&& ~~~(1 : Word)) + BitVec.ofNat 32 (a.toNat % 2) := by
      apply BitVec.eq_of_toNat_eq
      rw [BitVec.toNat_add, BitVec.toNat_ofNat, he]
      have := a.isLt
      omega
    have hlt : a.toNat % 2 < Width.half.bytes := Nat.mod_lt _ (by decide)
    conv_lhs => rw [ha]
    exact (hadd hlt).1
  change _ % 2 = 0 at heven
  omega

end

section
variable {s : State} {a : Word} {w : Width} {v : Word} {r : Region}

/-- A write that puts one byte in some cells and none in the others. -/
theorem State.peek_busWrite_filled (hm : Memory.wf s.mem) (req : Requester) (k : AccessKind) {b : Word} {x : Byte}
    {P : Prop} [Decidable P] (stored : P → ∃ c, s.cell b = some c ∧ storeByte s (a, w, v) c = some x)
    (kept : ¬P → ∀ c, s.cell b = some c → storeByte s (a, w, v) c = none) :
    (s.busWrite req a w v k).peek b = if P then some x else s.peek b := by
  by_cases h : P
  · obtain ⟨c, hc, hx⟩ := stored h
    rw [if_pos h, State.peek_busWrite_stored hm req k hc hx]
  · rw [if_neg h, State.peek_busWrite_kept hm req k (kept h)]

/-- A byte written to palette or video memory is both bytes of its halfword (R85, U35). -/
theorem storeByte_duplicated (h : lookup s.par.regions a = some r) (hs : r.handler = .renderer)
    (hn : r.narrow = .duplicateByte) (hww : r.writeWidths = [.half, .word]) (hw : r.writable (r.offset a) .byte = true)
    (c : Nat) : storeByte s (a, .byte, v) c =
      if c = r.store + (r.offset a - r.offset a % 2) ∨ c = r.store + (r.offset a - r.offset a % 2) + 1 then
        some (v.extractLsb' 0 8)
      else none := by
  have ht : r.target a .byte v =
      some (r.store + (r.offset a - r.offset a % 2), .half, ofLanes (lane v 0) (lane v 0) 0 0) := by
    simp [Region.target, hw, hww, hn]
  rw [storeByte_storage h (.inr hs), ht, Option.bind_some]
  generalize r.store + (r.offset a - r.offset a % 2) = c0
  obtain ⟨h0, h1, -, -⟩ := lane_ofLanes (lane v 0) (lane v 0) 0 0
  change (if c0 ≤ c ∧ c < c0 + 2 then some (lane (ofLanes (lane v 0) (lane v 0) 0 0) (c - c0)) else none) = _
  by_cases hc : c = c0 ∨ c = c0 + 1
  · rw [if_pos hc, if_pos (by omega)]
    rcases hc with rfl | rfl
    · rw [Nat.sub_self, h0]
      rfl
    · rw [Nat.add_sub_cancel_left, h1]
      rfl
  · rw [if_neg hc, if_neg (by omega)]

/-- The cells of the halfword an address lies in. -/
theorem State.cell_halfword (hd : s.par.regions = defaultRegions) (hr : r ∈ defaultRegions) (h1 : r.first ≤ a.toNat)
    (h2 : a.toNat ≤ r.last) : s.cell (a &&& ~~~(1 : Word)) = some (r.store + (r.offset a - r.offset a % 2)) ∧
      s.cell (a ||| 1) = some (r.store + (r.offset a - r.offset a % 2) + 1) := by
  obtain ⟨h1', h2', hal, hoff⟩ := Region.offset_and_not_one hr h1 h2
  refine ⟨hoff ▸ State.cell_of_covers hd hr h1' h2', ?_⟩
  rw [or_one_eq_add, ← hoff]
  exact State.cell_add hr h1' h2' hal hd (i := 1) (by decide)

/-- A byte written to palette or video memory fills its halfword (R85). -/
theorem State.peek_busWrite_duplicated (hd : s.par.regions = defaultRegions) (hm : Memory.wf s.mem) (req : Requester)
    (k : AccessKind) (h1 : 0x05000000 ≤ a.toNat) (h2 : a.toNat < 0x07000000) (b : Word) :
    (s.busWrite req a .byte v k).peek b =
      if s.cell b = s.cell (a &&& ~~~(1 : Word)) ∨ s.cell b = s.cell (a ||| 1) then some (v.extractLsb' 0 8)
      else s.peek b := by
  obtain ⟨r, hr, h1, h2, hs, hn, hww⟩ := exists_row_of_duplicating h1 h2
  have hlook : lookup s.par.regions a = some r := hd ▸ lookup_of_covers hr h1 h2
  have hw := Region.writable_of_aligned (w := .byte) hr h1 h2 (Nat.mod_one _) (hww ▸ rfl)
  obtain ⟨hlow, hhigh⟩ := State.cell_halfword hd hr h1 h2
  have hx := storeByte_duplicated (v := v) hlook hs hn hww hw
  rw [hlow, hhigh]
  refine State.peek_busWrite_filled hm req k (fun hb => ?_) fun hb c hc => ?_
  · rcases hb with hb | hb
    · exact ⟨_, hb, by rw [hx, if_pos (.inl rfl)]⟩
    · exact ⟨_, hb, by rw [hx, if_pos (.inr rfl)]⟩
  · rw [hx, if_neg]
    rintro (rfl | rfl)
    · exact hb (.inl hc)
    · exact hb (.inr hc)

/-! ## A byte written to object memory (R85) -/

/-- A byte written to object memory is dropped, having touched the renderer (U35, log 22). -/
theorem State.busWrite_objectByte (hd : s.par.regions = defaultRegions) (req : Requester) (k : AccessKind)
    (h1 : 0x07000000 ≤ a.toNat) (h2 : a.toNat < 0x08000000) :
    s.busWrite req a .byte v k = (s.charge a .byte k).setTouched := by
  have h2' : a.toNat ≤ oamRow.last := Nat.le_of_lt_succ h2
  have hr : oamRow ∈ defaultRegions := by decide
  have hlook : lookup s.par.regions a = some oamRow := hd ▸ lookup_of_covers hr h1 h2'
  have hw : oamRow.writable (oamRow.offset a) .byte = true :=
    Region.writable_of_aligned (w := .byte) hr h1 h2' (Nat.mod_one _) rfl
  have ht : oamRow.target a .byte v = none := by
    simp only [Region.target, hw]
    rfl
  simp only [State.busWrite, State.charge_par, hlook, State.writeRegion, hw, ht, if_true]
  rfl

/-! ## Backup memory (R85) -/

section
variable (hd : s.par.regions = defaultRegions) (h1 : 0x0E000000 ≤ a.toNat) (h2 : a.toNat < 0x10000000)
  (ha : a.toNat % w.bytes = 0)
include hd h1 h2

theorem State.lookup_backup : lookup s.par.regions a = some backupRow :=
  hd ▸ lookup_of_covers (r := backupRow) (by decide) h1 (Nat.le_of_lt_succ h2)

theorem State.cell_backup : s.cell a = some (backupRow.store + backupRow.offset a) :=
  State.cell_of_covers hd (r := backupRow) (by decide) h1 (Nat.le_of_lt_succ h2)

include ha

/-- With no collaborator a read of backup memory is its byte in every lane (R85, log 8). -/
theorem State.busRead_backup (hans : s.answers = []) (k : AccessKind) {b : Byte} (hb : s.peek a = some b) :
    (s.busRead a w k).1 = w.trim (b ++ b ++ b ++ b) := by
  have hr : backupRow ∈ defaultRegions := by decide
  have hw := Region.readable_of_aligned hr h1 (Nat.le_of_lt_succ h2) ha
  have hnone : (s.charge a w k).setTouched.answers = [] := (s.charge_answers a w k).trans hans
  have hread : Memory.read (s.charge a w k).setTouched.mem (backupRow.store + backupRow.offset a) = b := by
    rw [State.peek, State.cell_backup hd h1 h2] at hb
    rw [State.setTouched_mem, State.charge_mem]
    exact Option.some.inj hb
  have hs : backupRow.handler = .backup := rfl
  simp only [State.busRead, State.charge_par, State.lookup_backup hd h1 h2, State.readRegion, hw, hs, if_true, backupRead,
    State.callback_of_no_answers _ _ hnone, State.note_mem, hread]
  rfl

/-- A write of backup memory stores its low byte (R85). -/
theorem State.peek_busWrite_backup (hm : Memory.wf s.mem) (req : Requester) (k : AccessKind) (b : Word) :
    (s.busWrite req a w v k).peek b = if s.cell b = s.cell a then some (v.extractLsb' 0 8) else s.peek b := by
  have hr : backupRow ∈ defaultRegions := by decide
  have hw := Region.writable_of_aligned hr h1 (Nat.le_of_lt_succ h2) ha rfl
  have hall : backupRow.writeWidths.contains w = true := by cases w <;> rfl
  have hx (c : Nat) := storeByte_backup (v := v) (w := w) (c := c) (State.lookup_backup hd h1 h2) rfl
  rw [hw, hall] at hx
  rw [State.cell_backup hd h1 h2]
  refine State.peek_busWrite_filled hm req k (fun hb => ⟨_, hb, ?_⟩) fun hb c hc => ?_
  · rw [hx, if_pos (by simp)]
    rfl
  · rw [hx, if_neg]
    simp only [Bool.and_self, Bool.true_and, beq_iff_eq]
    exact fun h => hb (hc.trans (congrArg some h))

end

/-! ## Registers nothing is assigned to, and write-only registers (R86, R90) -/

/-- The IO offsets nothing is assigned to (R90). -/
def Unassigned (n : Nat) : Prop :=
  0xE0 ≤ n ∧ n < 0x100 ∨ 0x110 ≤ n ∧ n < 0x120 ∨ 0x160 ≤ n ∧ n < 0x200 ∨ 0x206 ≤ n ∧ n < 0x208 ∨
    0x20C ≤ n ∧ n < 0x300 ∨ 0x302 ≤ n ∧ n < 0x400

theorem ioHalf_of_unassigned {n : Nat} (h : Unassigned n) : ioHalf n = none := by
  unfold Unassigned at h
  rw [ioHalf, if_neg (by omega), if_neg (by omega), if_neg (by omega), if_neg (by omega), if_neg (by omega),
    if_neg (by omega), if_neg (by omega), if_neg (by omega)]

theorem isCollaborator_of_unassigned {n : Nat} (h : Unassigned n) : isCollaborator n = false := by
  unfold Unassigned at h
  simp only [isCollaborator, Bool.or_eq_false_iff, Bool.and_eq_false_iff, decide_eq_false_iff_not]
  omega

/-- The offsets of an aligned access of unassigned registers are unassigned, and so are their halfwords. -/
theorem Unassigned.add {n i : Nat} (h : Unassigned n) (hal : n % w.bytes = 0) (hi : i < w.bytes) :
    Unassigned (n + i) ∧ Unassigned (n + i - (n + i) % 2) := by
  unfold Unassigned at *
  rcases w.bytes_cases with hw | hw | hw <;> rw [hw] at hal hi <;> omega

section
variable {off : Nat} (hd : s.par.regions = defaultRegions) (ha : a.toNat = 0x04000000 + off) (h : Unassigned off)
  (hal : off % w.bytes = 0)
include hd ha h hal

theorem State.busRead_unassigned (k : AccessKind) : (s.busRead a w k).1 = 0 := by
  have hoff : off < 0x400 := by unfold Unassigned at h; omega
  rw [State.busRead_registers hd ha hoff hal k (isCollaborator_of_unassigned h)]
  refine join_zero w fun i hi => ?_
  rw [State.ioByte, ioHalf_of_unassigned (h.add hal hi).2]
  rfl

theorem State.busWrite_unassigned (req : Requester) (k : AccessKind) :
    s.busWrite req a w v k = (s.charge a w k).setTouched := by
  have hoff : off < 0x400 := by unfold Unassigned at h; omega
  have ignored {n : Nat} (hn : Unassigned n) (x : Half) (low high : Bool) (t : State) :
      ioWriteHalf req n x low high t = t := by rw [ioWriteHalf, ioHalf_of_unassigned hn]
  rw [State.busWrite_io hd ha hoff hal]
  unfold ioWrite
  rw [isCollaborator_of_unassigned h, if_neg Bool.false_ne_true]
  cases w with
  | byte =>
    obtain ⟨-, hhalf⟩ := h.add hal (i := 0) (by decide)
    by_cases he : off % 2 = 0
    · simp only [he, if_true, ignored h]
    · have hodd : off % 2 = 1 := by omega
      simp only [hodd, Nat.add_zero] at hhalf
      simp only [he, if_false, ignored hhalf]
  | half => exact ignored h _ _ _ _
  | word =>
    obtain ⟨h2, -⟩ := h.add hal (i := 2) (by decide)
    simp only [ignored h, ignored h2]

end

theorem isCollaborator_dma {j : Nat} (hj : j < 12) (ch : Fin 4) : isCollaborator (0xB0 + 12 * ch.val + j) = false := by
  simp only [isCollaborator, Bool.or_eq_false_iff, Bool.and_eq_false_iff, decide_eq_false_iff_not]
  omega

/-- The halfwords at the first ten offsets of a DMA channel's registers: its addresses and its count (R470). -/
theorem ioHalf_dmaWriteOnly : ∀ (ch : Fin 4) (j : Fin 10),
    ioHalf (0xB0 + 12 * ch.val + j.val - (0xB0 + 12 * ch.val + j.val) % 2) ∈
      [some (.dmaSadLow ch), some (.dmaSadHigh ch), some (.dmaDadLow ch), some (.dmaDadHigh ch), some (.dmaCntL ch)] := by
  decide

theorem State.ioByte_dmaWriteOnly (s : State) (ch : Fin 4) {j : Nat} (hj : j < 10) :
    s.ioByte (0xB0 + 12 * ch.val + j) = 0 := by
  have h := ioHalf_dmaWriteOnly ch ⟨j, hj⟩
  simp only [List.mem_cons, List.not_mem_nil, or_false] at h
  rw [State.ioByte]
  rcases h with h | h | h | h | h <;> rw [h] <;> rfl

/-- The address and count registers of a DMA channel are write-only (R501 to R503). -/
theorem State.busRead_dmaWriteOnly (hd : s.par.regions = defaultRegions) {ch : Fin 4} {j : Nat}
    (ha : a.toNat = 0x04000000 + (0xB0 + 12 * ch.val + j)) (hj : j + w.bytes ≤ 10)
    (hal : (0xB0 + 12 * ch.val + j) % w.bytes = 0) (k : AccessKind) : (s.busRead a w k).1 = 0 := by
  rw [State.busRead_registers hd ha (by omega) hal k (isCollaborator_dma (by omega) ch)]
  exact join_zero w fun i hi => (congrArg s.ioByte (Nat.add_assoc _ j i)).trans (s.ioByte_dmaWriteOnly ch (by omega))

end

/-- Settles O45: by region, what the access reads, and the byte it puts in each cell. -/
theorem widthRules : Obligations.WidthRules := by
  intro s req a w v k hd hm hans ha
  -- An address of the IO region by its offset.
  have io (h1 : 0x04000000 ≤ a.toNat) : a.toNat = 0x04000000 + (a.toNat - 0x04000000) ∧
      (a.toNat - 0x04000000) % w.bytes = 0 := by
    rcases w.bytes_cases with h | h | h <;> rw [h] at ha ⊢ <;> omega
  refine ⟨fun h => ?_, fun ⟨h1, h2⟩ hw b => ?_, fun ⟨h1, h2⟩ hw => ?_, fun ⟨h1, h2⟩ => ⟨fun b hb => ?_, fun b => ?_⟩,
    fun h => ?_, fun h => ?_, fun h => ?_, fun ch h => ?_⟩
  · obtain ⟨r, hr, h1, h2, hww⟩ := exists_row_of_readOnly h
    refine State.busWrite_not_writable req k (hd ▸ lookup_of_covers hr h1 h2) ?_
    rw [Region.writable, hww]
    rfl
  · subst hw
    exact State.peek_busWrite_duplicated hd hm req k h1 h2 b
  · subst hw
    exact State.busWrite_objectByte hd req k h1 h2
  · exact State.busRead_backup hd h1 h2 ha hans k hb
  · exact State.peek_busWrite_backup hd h1 h2 ha hm req k b
  · have hnone : lookup s.par.regions a = none := hd ▸ lookup_eq_none h
    exact ⟨s.busRead_unmapped a w k hnone, s.busWrite_unmapped a w k req v hnone⟩
  · obtain ⟨hoff, hal⟩ := io (by omega)
    have hu : Unassigned (a.toNat - 0x04000000) := by unfold Unassigned; omega
    exact ⟨State.busRead_unassigned hd hoff hu hal k, State.busWrite_unassigned hd hoff hu hal req k⟩
  · obtain ⟨hoff, hal⟩ := io (by omega)
    refine State.busRead_unattached hd hoff (by omega) hal k ?_ hans
    simp only [isCollaborator, Bool.or_eq_true, Bool.and_eq_true, decide_eq_true_iff]
    omega
  · have writeOnly (j : Nat) (hj : j ≤ 4) (h : a.toNat = 0x040000B0 + 12 * ch.val + j) : (s.busRead a w k).1 = 0 := by
      have hal : (0xB0 + 12 * ch.val + j) % w.bytes = 0 := by
        rcases w.bytes_cases with hw | hw | hw <;> rw [hw] at ha ⊢ <;> omega
      have hw : w.bytes ≤ 4 := by cases w <;> decide
      exact State.busRead_dmaWriteOnly hd (h.trans (by omega)) (by omega) hal k
    rcases h with h | h
    · exact writeOnly 0 (by decide) h
    · exact writeOnly 4 (by decide) (h.trans (by omega))

end Sys2Proof.Machine
end

section
/-! The registers of a DMA channel on the default platform (family 20). -/

namespace Sys2Proof.Machine

/-! ## Arming (R505) -/

/-- Masking `CNT_H` leaves the bits above its lowest five (R504). -/
theorem dmaControlMask_bits (v : Word) : (v.extractLsb' 0 16 &&& dmaControlMask).getLsbD 15 = v.getLsbD 15 ∧
    (v.extractLsb' 0 16 &&& dmaControlMask).getLsbD 10 = v.getLsbD 10 ∧
    (v.extractLsb' 0 16 &&& dmaControlMask).extractLsb' 12 2 = v.extractLsb' 12 2 := by
  have keeps (i : Nat) (hi : i < 16) (hm : dmaControlMask.getLsbD i = true) :
      (v.extractLsb' 0 16 &&& dmaControlMask).getLsbD i = v.getLsbD i := by
    rw [BitVec.getLsbD_and, hm, Bool.and_true, BitVec.getLsbD_extractLsb', decide_eq_true hi, Bool.true_and, Nat.zero_add]
  have field : dmaControlMask.extractLsb' 12 2 = BitVec.allOnes 2 := by decide
  refine ⟨keeps 15 (by decide) (by decide), keeps 10 (by decide) (by decide), ?_⟩
  rw [BitVec.extractLsb'_and, field, BitVec.and_allOnes]
  exact BitVec.extractLsb'_extractLsb'_of_le (by decide)

section
variable (ch : Fin 4) (x : DmaChannel) (v : Half)

/-- A write of `CNT_H` leaves the programmed registers and stores its own bits (R504, R505). -/
theorem DmaChannel.writeControl_programmed : (x.writeControl ch v).sad = x.sad ∧ (x.writeControl ch v).dad = x.dad ∧
    (x.writeControl ch v).cntL = x.cntL ∧ (x.writeControl ch v).cntH = v &&& dmaControlMask := by
  unfold DmaChannel.writeControl
  dsimp only
  split
  · exact ⟨rfl, rfl, rfl, rfl⟩
  · split <;> exact ⟨rfl, rfl, rfl, rfl⟩

variable {x v}

/-- A write whose bit 15 is clear disarms (R505). -/
theorem DmaChannel.writeControl_disarm (h : (v &&& dmaControlMask).getLsbD 15 = false) :
    x.writeControl ch v = { x with cntH := v &&& dmaControlMask, req := false } := by
  simp only [DmaChannel.writeControl, DmaChannel.armed, h, Bool.not_false, if_true]

/-- A write to an armed channel that leaves it armed changes the control bits alone (R505). -/
theorem DmaChannel.writeControl_rearm (h : (v &&& dmaControlMask).getLsbD 15 = true) (hx : x.cntH.getLsbD 15 = true) :
    x.writeControl ch v = { x with cntH := v &&& dmaControlMask } := by
  simp only [DmaChannel.writeControl, DmaChannel.armed, h, hx, Bool.not_true, Bool.false_eq_true, if_false, if_true]

/-- A write that arms latches the addresses, the count and the immediate request (R505). -/
theorem DmaChannel.writeControl_arm (h : (v &&& dmaControlMask).getLsbD 15 = true) (hx : x.cntH.getLsbD 15 = false) :
    x.writeControl ch v = { x with
      cntH := v &&& dmaControlMask
      src := alignUnit ((v &&& dmaControlMask).getLsbD 10) (x.sad &&& dmaSrcMask ch)
      dst := alignUnit ((v &&& dmaControlMask).getLsbD 10) (x.dad &&& dmaDstMask ch)
      cnt := dmaCount ch x.cntL
      req := (v &&& dmaControlMask).extractLsb' 12 2 == 0 } := by
  simp only [DmaChannel.writeControl, DmaChannel.armed, h, hx, Bool.not_true, Bool.false_eq_true, if_false]
  rfl

end

theorem alignUnit_eq (wide : Bool) (a : Word) : alignUnit wide a = a &&& ~~~(if wide then (3 : Word) else 1) := by
  cases wide <;> rfl

/-- The count of `CNT_L`, the largest for zero (R503). -/
theorem dmaCount_eq (ch : Fin 4) (c : Half) {max : Nat} (h : max = if ch = 3 then 0x10000 else 0x4000) :
    dmaCount ch c = if c.toNat % max = 0 then max else c.toNat % max := by
  have hpow : 2 ^ dmaCountBits ch = max := by
    rw [h]
    unfold dmaCountBits
    split <;> rfl
  simp only [dmaCount, hpow]

/-! ## Accesses of a channel's registers (R501 to R504) -/

theorem ioHalf_dma : ∀ ch : Fin 4, ioHalf (0xB0 + 12 * ch.val) = some (.dmaSadLow ch) ∧
    ioHalf (0xB0 + 12 * ch.val + 2) = some (.dmaSadHigh ch) ∧ ioHalf (0xB0 + 12 * ch.val + 4) = some (.dmaDadLow ch) ∧
    ioHalf (0xB0 + 12 * ch.val + 6) = some (.dmaDadHigh ch) ∧ ioHalf (0xB0 + 12 * ch.val + 8) = some (.dmaCntL ch) ∧
    ioHalf (0xB0 + 12 * ch.val + 10) = some (.dmaCntH ch) := by decide

/-- The addresses of a channel's registers. -/
theorem dmaAddress_toNat : ∀ ch : Fin 4,
    (0x040000B0 + BitVec.ofNat 32 (12 * ch.val)).toNat = 0x04000000 + (0xB0 + 12 * ch.val + 0) ∧
    (0x040000B0 + BitVec.ofNat 32 (12 * ch.val) + 2).toNat = 0x04000000 + (0xB0 + 12 * ch.val + 2) ∧
    (0x040000B0 + BitVec.ofNat 32 (12 * ch.val) + 4).toNat = 0x04000000 + (0xB0 + 12 * ch.val + 4) ∧
    (0x040000B0 + BitVec.ofNat 32 (12 * ch.val) + 4 + 2).toNat = 0x04000000 + (0xB0 + 12 * ch.val + 6) ∧
    (0x040000B0 + BitVec.ofNat 32 (12 * ch.val) + 8).toNat = 0x04000000 + (0xB0 + 12 * ch.val + 8) ∧
    (0x040000B0 + BitVec.ofNat 32 (12 * ch.val) + 8 + 2).toNat = 0x04000000 + (0xB0 + 12 * ch.val + 10) := by decide

section
variable {s : State} {a : Word} {ch : Fin 4} {j : Nat} {h : IoHalf} (hd : s.par.regions = defaultRegions)
  (ha : a.toNat = 0x04000000 + (0xB0 + 12 * ch.val + j)) (hj : j < 12) (hh : ioHalf (0xB0 + 12 * ch.val + j) = some h)
include hd ha hj hh

/-- A halfword write of a channel's register. -/
theorem State.busWrite_dmaHalf (hal : j % Width.half.bytes = 0) (req : Requester) (v : Word) (k : AccessKind) :
    s.busWrite req a .half v k = h.write req (v.extractLsb' 0 16) true true (s.charge a .half k).setTouched := by
  change j % 2 = 0 at hal
  rw [State.busWrite_io hd ha (by omega) (by change _ % 2 = 0; omega), ioWrite_half req v (isCollaborator_dma hj ch) hh]

/-- A word write of two of a channel's registers is the lower's, then the upper's (R89). -/
theorem State.busWrite_dmaWord (hal : j % Width.word.bytes = 0) {h' : IoHalf}
    (hh' : ioHalf (0xB0 + 12 * ch.val + (j + 2)) = some h') (req : Requester) (v : Word) (k : AccessKind) :
    s.busWrite req a .word v k = h'.write req (v.extractLsb' 16 16) true true
      (h.write req (v.extractLsb' 0 16) true true (s.charge a .word k).setTouched) := by
  change j % 4 = 0 at hal
  rw [State.busWrite_io hd ha (by omega) (by change _ % 4 = 0; omega), ioWrite_word req v (isCollaborator_dma hj ch) hh hh']

end

/-- The two halves of a 32-bit register written one after the other. -/
theorem setHighHalf_setLowHalf (w v : Word) : setHighHalf (setLowHalf w (v.extractLsb' 0 16)) (v.extractLsb' 16 16) = v := by
  have low : (w.extractLsb' 16 16 ++ v.extractLsb' 0 16).extractLsb' 0 16 = v.extractLsb' 0 16 :=
    BitVec.extractLsb'_append_eq_right
  unfold setHighHalf setLowHalf
  rw [low, BitVec.extractLsb'_append_extractLsb'_eq_extractLsb' (by decide)]
  exact BitVec.extractLsb'_eq_self

theorem extractLsb'_ushiftRight_half (v : Word) : (v >>> 16).extractLsb' 0 16 = v.extractLsb' 16 16 := by
  ext i hi
  simp

section
variable (s : State) (ch : Fin 4) (req : Requester) (v : Half)

theorem IoHalf.dma_write_sadLow : ((IoHalf.dmaSadLow ch).write req v true true s).dma =
    s.dma.set ch { s.dma[ch] with sad := setLowHalf s.dma[ch].sad v } := by
  simp only [IoHalf.write, mergeHalf_both, State.setDma_dma]

theorem IoHalf.dma_write_sadHigh : ((IoHalf.dmaSadHigh ch).write req v true true s).dma =
    s.dma.set ch { s.dma[ch] with sad := setHighHalf s.dma[ch].sad v } := by
  simp only [IoHalf.write, mergeHalf_both, State.setDma_dma]

theorem IoHalf.dma_write_dadLow : ((IoHalf.dmaDadLow ch).write req v true true s).dma =
    s.dma.set ch { s.dma[ch] with dad := setLowHalf s.dma[ch].dad v } := by
  simp only [IoHalf.write, mergeHalf_both, State.setDma_dma]

theorem IoHalf.dma_write_dadHigh : ((IoHalf.dmaDadHigh ch).write req v true true s).dma =
    s.dma.set ch { s.dma[ch] with dad := setHighHalf s.dma[ch].dad v } := by
  simp only [IoHalf.write, mergeHalf_both, State.setDma_dma]

theorem IoHalf.dma_write_cntL : ((IoHalf.dmaCntL ch).write req v true true s).dma =
    s.dma.set ch { s.dma[ch] with cntL := v } := by
  simp only [IoHalf.write, mergeHalf_both, State.setDma_dma]

theorem IoHalf.dma_write_cntH : ((IoHalf.dmaCntH ch).write req v true true s).dma =
    s.dma.set ch (s.dma[ch].writeControl ch v) := by
  simp only [IoHalf.write, mergeHalf_both, State.setDma_dma]

end

theorem getElem_set_self_row {α : Type} (v : Vector α 4) (i : Fin 4) (x : α) : (v.set i x)[i] = x := by
  rw [getElem_set_row, if_pos rfl]

/-- Settles O52: each access is one of the halfword registers at its offset; arming by the old and the new bit 15. -/
theorem dmaArming : Obligations.DmaArming := by
  constructor
  · rintro s t ch req v k x y low max hd rfl rfl rfl rfl hmax
    obtain ⟨-, -, -, -, -, hcntH⟩ := ioHalf_dma ch
    have base : ∀ c : Fin 4, (0x040000BA + BitVec.ofNat 32 (12 * c.val)).toNat = 0x04000000 + (0xB0 + 12 * c.val + 10) := by
      decide
    have hdma : (s.busWrite req (0x040000BA + BitVec.ofNat 32 (12 * ch.val)) .half v k).dma =
        s.dma.set ch (s.dma[ch].writeControl ch (v.extractLsb' 0 16)) := by
      rw [State.busWrite_dmaHalf hd (base ch) (by decide) hcntH rfl, IoHalf.dma_write_cntH, State.setTouched_dma,
        State.charge_dma]
    obtain ⟨harmed, hwide, htrigger⟩ := dmaControlMask_bits v
    obtain ⟨hsad, hdad, hcntL, hcntH⟩ := s.dma[ch].writeControl_programmed ch (v.extractLsb' 0 16)
    rw [hdma, getElem_set_self_row]
    refine ⟨hsad, hdad, hcntL, hcntH, fun hv hx => ?_, fun hv hx => ?_, fun hv => ?_, fun c hc => ?_⟩
    · rw [DmaChannel.writeControl_arm ch (harmed.trans hv) hx, hwide, htrigger, alignUnit_eq, alignUnit_eq,
        dmaCount_eq ch _ hmax]
      exact ⟨rfl, rfl, rfl, beq_iff_eq⟩
    · rw [DmaChannel.writeControl_rearm ch (harmed.trans hv) hx]
      exact ⟨rfl, rfl, rfl, rfl⟩
    · rw [DmaChannel.writeControl_disarm ch (harmed.trans hv)]
      exact ⟨rfl, rfl, rfl, rfl⟩
    · rw [getElem_set_row, if_neg (Ne.symm hc)]
  · rintro s ch req v k x sad dad cnt hd rfl rfl rfl rfl
    obtain ⟨hsadLow, hsadHigh, hdadLow, hdadHigh, hcntL, hcntH⟩ := ioHalf_dma ch
    have hch := ch.isLt
    obtain ⟨asad, asadHigh, adad, adadHigh, acnt, acntH⟩ := dmaAddress_toNat ch
    refine ⟨?_, ?_, ?_, ?_, ?_, ?_, ?_, ?_, ?_, ?_, ?_, ?_⟩
    · rw [State.busWrite_dmaWord hd asad (by decide) hsadLow rfl hsadHigh, IoHalf.dma_write_sadHigh, IoHalf.dma_write_sadLow,
        State.setTouched_dma, State.charge_dma, getElem_set_self_row, Vector.set_set, setHighHalf_setLowHalf]
    · rw [State.busWrite_dmaHalf hd asad (by decide) hsadLow rfl, IoHalf.dma_write_sadLow, State.setTouched_dma,
        State.charge_dma]
      rfl
    · rw [State.busWrite_dmaHalf hd asadHigh (by decide) hsadHigh rfl, IoHalf.dma_write_sadHigh, State.setTouched_dma,
        State.charge_dma]
      rfl
    · rw [State.busWrite_dmaWord hd adad (by decide) hdadLow rfl hdadHigh, IoHalf.dma_write_dadHigh, IoHalf.dma_write_dadLow,
        State.setTouched_dma, State.charge_dma, getElem_set_self_row, Vector.set_set, setHighHalf_setLowHalf]
    · rw [State.busWrite_dmaHalf hd adad (by decide) hdadLow rfl, IoHalf.dma_write_dadLow, State.setTouched_dma,
        State.charge_dma]
      rfl
    · rw [State.busWrite_dmaHalf hd adadHigh (by decide) hdadHigh rfl, IoHalf.dma_write_dadHigh, State.setTouched_dma,
        State.charge_dma]
      rfl
    · rw [State.busWrite_dmaHalf hd acnt (by decide) hcntL rfl, IoHalf.dma_write_cntL, State.setTouched_dma,
        State.charge_dma]
    · have hd' : (s.busWrite req (0x040000B0 + BitVec.ofNat 32 (12 * ch.val) + 8) .half v k).par.regions = defaultRegions := by
        rw [(s.busWrite_frame _ _ k req v).par, hd]
      rw [State.busWrite_dmaWord hd acnt (by decide) hcntL rfl hcntH, State.busWrite_dmaHalf hd' acntH (by decide) hcntH rfl,
        State.busWrite_dmaHalf hd acnt (by decide) hcntL rfl, extractLsb'_ushiftRight_half]
      simp only [IoHalf.dma_write_cntH, IoHalf.dma_write_cntL, State.setTouched_dma, State.charge_dma]
    · have hoff : (0xB0 + 12 * ch.val + 10) % Width.half.bytes = 0 := by change _ % 2 = 0; omega
      rw [State.busRead_registers hd acntH (by omega) hoff k (isCollaborator_dma (by decide) ch)]
      refine Eq.trans ?_ (ofLanes_halfByte s.dma[ch].cntH)
      have even : (0xB0 + 12 * ch.val + 10) % 2 = 0 := by omega
      have odd : (0xB0 + 12 * ch.val + 10 + 1) % 2 = 1 := by omega
      simp only [Width.join, State.ioByte, Nat.add_zero, even, odd, Nat.sub_zero, Nat.add_sub_cancel, hcntH]
      rfl
    · exact State.busRead_dmaWriteOnly hd asad (by decide) (by change _ % 4 = 0; omega) k
    · exact State.busRead_dmaWriteOnly hd adad (by decide) (by change _ % 4 = 0; omega) k
    · exact State.busRead_dmaWriteOnly hd acnt (by decide) (by change _ % 2 = 0; omega) k

end Sys2Proof.Machine
end

section
/-! The single stores of both variants (family 20): each is one write through the Bus, the base written back, and the
next instruction. -/

namespace Sys2Proof.Machine

/-! ## What a write through the Bus costs and leaves -/

/-- The byte kept for an address depends on memory and the region table alone. -/
theorem State.peek_congr {s t : State} (hp : t.par = s.par) (hm : t.mem = s.mem) (a : Word) : t.peek a = s.peek a := by
  simp only [State.peek, State.cell_congr hp, hm]

/-- A write of a register reports nothing. -/
theorem IoHalf.write_report (r : IoHalf) (req : Requester) (v : Half) (low high : Bool) (s : State) :
    (r.write req v low high s).report = s.report := by
  cases r with
  | masterLow => simp only [IoHalf.write]; split <;> rfl
  | postHalt => simp only [IoHalf.write]; split <;> split <;> rfl
  | _ => rfl

theorem ioWriteHalf_report (req : Requester) (off : Nat) (v : Half) (low high : Bool) (s : State) :
    (ioWriteHalf req off v low high s).report = s.report := by
  unfold ioWriteHalf
  split
  · rfl
  · exact IoHalf.write_report _ req v low high s

theorem ioWrite_report (req : Requester) (off : Nat) (w : Width) (v : Word) (s : State) :
    (ioWrite req off w v s).report = s.report := by
  unfold ioWrite
  split
  · exact (s.callback_unreported _).report
  · split
    · split <;> exact ioWriteHalf_report ..
    · exact ioWriteHalf_report ..
    · exact (ioWriteHalf_report ..).trans (ioWriteHalf_report ..)

theorem State.put_report (s : State) (t : Option (Nat × Width × Word)) : (s.put t).report = s.report := by
  cases t <;> rfl

theorem videoWrite_report (t : Option (Nat × Width × Word)) (s : State) : (videoWrite t s).report = s.report := by
  cases t with
  | none => rfl
  | some x => exact (s.callback_unreported _).report

section
variable (s : State) (a : Word) (w : Width) (v : Word) (k : AccessKind) (req : Requester)

theorem State.writeRegion_cost (r : Region) : (s.writeRegion req r a w v).report.cost = s.report.cost := by
  unfold State.writeRegion
  dsimp only
  split
  · split
    · rw [State.put_report]
    · rw [videoWrite_report, State.put_report]; rfl
    · split
      · rw [ioWrite_report]; rfl
      · rfl
    · split
      · rw [backupWrite, (State.callback_unreported _ _).report]; rfl
      · rfl
  · rfl

/-- What a write does after it is charged costs nothing (R96). -/
theorem State.busWrite_cost : (s.busWrite req a w v k).report.cost = (s.charge a w k).report.cost := by
  unfold State.busWrite
  dsimp only
  split
  · rfl
  · exact State.writeRegion_cost _ a w v req _

/-- A write to storage reaches no register, so it leaves the core (R448). -/
theorem State.busWrite_plain_core (h : s.plain a = true) : (s.busWrite req a w v k).core = s.core := by
  have put_core (u : State) (t : Option (Nat × Width × Word)) : (u.put t).core = u.core := by cases t <;> rfl
  cases hr : lookup s.par.regions a with
  | none => rw [s.busWrite_unmapped a w k req v hr, State.charge_core]
  | some r =>
    rcases (State.plain_iff hr).1 h with hs | hs
    · rw [s.busWrite_storage a w k req v r hr hs, put_core, State.charge_core]
    · simp only [State.busWrite, State.charge_par, hr, State.writeRegion, hs]
      split
      · rw [(videoWrite_sheltered _ _).core, put_core, State.setTouched_core, State.charge_core]
      · rw [State.charge_core]

theorem State.charge_devices : SameDevices s (s.charge a w k) := by
  obtain ⟨c, r, h⟩ := s.charge_eq a w k
  rw [h]
  exact .refl s

theorem State.put_devices (t : Option (Nat × Width × Word)) : SameDevices s (s.put t) := by
  cases t <;> exact .refl s

/-- A write to the Bus's own storage, or to no region, reaches no device (R102). -/
theorem State.busWrite_quiet_devices (h : s.quiet a = true) : SameDevices s (s.busWrite req a w v k) := by
  cases hr : lookup s.par.regions a with
  | none => rw [s.busWrite_unmapped a w k req v hr]; exact s.charge_devices a w k
  | some r =>
    have hs : r.handler = .storage := by simpa only [State.quiet, hr, beq_iff_eq] using h
    rw [s.busWrite_storage a w k req v r hr hs]
    exact (s.charge_devices a w k).trans (State.put_devices _ _)

end

/-! ## One write of the core, and the base -/

/-- The write-back of a base, where there is one (R210). -/
def State.setBack (s : State) : Option (Reg × Word) → State
  | none => s
  | some (rn, v) => s.setReg rn v

/-- The state after one store: the access, the written-back base, a non-sequential fetch next, `pc` at the next
instruction (R210, R567). -/
def State.afterStore (s : State) (x : Word × Width × Word) (back : Option (Reg × Word)) : State :=
  (((s.busWrite .core x.1 x.2.1 x.2.2 .n).setBack back).setSeq false).advance

section
variable (s : State) (x : Word × Width × Word) (back : Option (Reg × Word))

theorem State.setBack_mem : (s.setBack back).mem = s.mem := by cases back <;> rfl
theorem State.setBack_par : (s.setBack back).par = s.par := by cases back <;> rfl
theorem State.setBack_report : (s.setBack back).report = s.report := by cases back <;> rfl
theorem State.setBack_devices : SameDevices s (s.setBack back) := by cases back <;> exact .refl s
theorem State.setBack_halted : (s.setBack back).core.halted = s.core.halted := by cases back <;> rfl

theorem State.peek_afterStore (hm : Memory.wf s.mem) (a : Word) : (s.afterStore x back).peek a = s.peekAfter [x] a := by
  obtain ⟨b, w, v⟩ := x
  rw [← State.peek_busWrite hm .core .n a]
  exact State.peek_congr (State.setBack_par _ back) (State.setBack_mem _ back) a

theorem State.afterStore_cost : (s.afterStore x back).report.cost = (s.charge x.1 x.2.1 .n).report.cost :=
  (congrArg Report.cost (State.setBack_report _ back)).trans (s.busWrite_cost _ _ _ _ _)

theorem State.afterStore_halted (h : s.plain x.1 = true) : (s.afterStore x back).core.halted = s.core.halted :=
  (State.setBack_halted _ back).trans (congrArg Core.halted (s.busWrite_plain_core _ _ _ _ _ h))

theorem State.afterStore_devices (h : s.quiet x.1 = true) : SameDevices s (s.afterStore x back) :=
  (s.busWrite_quiet_devices _ _ _ _ _ h).trans (State.setBack_devices _ back)

/-- The bound of a store: its base, and what its write can change. -/
def State.storeMay (s : State) (back : Option (Reg × Word)) : May where
  dests := (back.map fun b => physReg s.core.cpsr.mode b.1).toList
  halted := true
  devices := true

theorem State.busWrite_within (s : State) (req : Requester) (a : Word) (w : Width) (v : Word) (k : AccessKind) {m : May}
    (hd : m.devices = true) (hh : m.halted = true) : Within m s (s.busWrite req a w v k) :=
  .of_access (s.busWrite_frame a w k req v) (s.busWrite_devicesKept req a w v k) hd (of_granted hh)

variable {back} (hback : ∀ rn v, back = some (rn, v) → rn ≠ 15)
include hback

theorem State.afterStore_within : Within (s.storeMay back) s (s.afterStore x back) := by
  have written : Within (s.storeMay back) s (s.busWrite .core x.1 x.2.1 x.2.2 .n) :=
    s.busWrite_within .core x.1 x.2.1 x.2.2 .n rfl rfl
  refine .advance (.setSeq ?_ _)
  cases back with
  | none => exact written
  | some b => exact written.setReg (written.mode rfl) b.2 (hback b.1 b.2 rfl) List.mem_cons_self

theorem State.setBack_pc (t : State) : (t.setBack back).pc = t.pc := by
  cases back with
  | none => rfl
  | some b => exact t.setReg_pc b.1 b.2 (hback b.1 b.2 rfl)

theorem State.afterStore_pc : (s.afterStore x back).pc = s.pc + s.step := by
  obtain ⟨b, hcore⟩ := (s.busWrite_frame x.1 x.2.1 .n .core x.2.2).core
  have hstep : ((s.busWrite .core x.1 x.2.1 x.2.2 .n).setBack back).step = s.step := by
    cases back <;> simp only [State.step, State.setBack, State.setReg_core_cpsr, hcore]
  have hpc : (s.busWrite .core x.1 x.2.1 x.2.2 .n).pc = s.pc := by simp only [State.pc, hcore]
  rw [← hstep, ← hpc, ← State.setBack_pc hback (s.busWrite .core x.1 x.2.1 x.2.2 .n)]
  exact State.advance_pc _

theorem State.reg_afterStore {rn : Reg} {v : Word} (hb : back = some (rn, v)) : (s.afterStore x back).reg rn = v := by
  subst hb
  have hrn := hback rn v rfl
  rw [State.afterStore, State.reg_advance _ _ hrn]
  exact (State.reg_setReg _ rn rn v hrn).trans (if_pos rfl)

end

/-! ## The single stores (R212 to R221, R342 to R356) -/

section
variable {s : State}

theorem State.singleStore_next {width : Width} {p u w : Bool} {rn rd : Reg} {off : Word}
    (hbase : writesBack p w = true → rn ≠ 15) (hsrc : writesBack p w = true → rd ≠ rn) :
    s.singleStore width p u w rn rd off =
      .next (s.afterStore (width.align (transferAddr p u (s.reg rn) off), width, s.regLate rd)
        (if writesBack p w then some (rn, transferBase u (s.reg rn) off) else none)) := by
  unfold State.singleStore baseRefused State.writeBack
  cases hw : writesBack p w with
  | true => simp [hbase hw, hsrc hw, State.afterStore, State.setBack, State.storeData]
  | false => simp [State.afterStore, State.setBack, State.storeData]

theorem withOffsetReg_allowed {rm : Reg} {o : Outcome} (h : some rm ≠ some 15) : withOffsetReg rm o = o :=
  if_neg fun e => h (congrArg some e)

theorem halfwordForm_allowed {p w : Bool} {o : Outcome} (h : (!p && w) = false) : halfwordForm p w o = o :=
  if_neg (ne_true_of_eq_false h)

/-- A single store that has a meaning is one write of the core. -/
theorem exec_single_store {i : Instr} {x : Word × Width × Word} (hr : Ready i s) (hshape : shape i = .store)
    (hx : stored s i = [x]) (ha : transferAllowed s i) : exec i s = .next (s.afterStore x (backOf s i)) := by
  obtain ⟨-, hcond⟩ := hr
  obtain ⟨hoff, hhalf, hback, hsrc⟩ := ha
  unfold exec
  have base {p u w : Bool} {rn : Reg} {off : Word}
      (hb : backOf s i = if writesBack p w then some (rn, transferBase u (s.reg rn) off) else none)
      (hw : writesBack p w = true) : rn ≠ 15 := hback rn _ (hb.trans (if_pos hw))
  have source {p u w : Bool} {rn rd : Reg} {off : Word}
      (hb : backOf s i = if writesBack p w then some (rn, transferBase u (s.reg rn) off) else none)
      (hs : storeSource i = some rd) (hw : writesBack p w = true) : rd ≠ rn := fun e =>
    hsrc rn _ (hb.trans (if_pos hw)) (hs.trans (congrArg some e))
  cases i with
  | strImm c | strbImm c | strtImm c | strbtImm c =>
    cases hx
    refine (State.when_true (hcond c rfl) _).trans ?_
    exact State.singleStore_next (base rfl) (source rfl rfl)
  | strReg c | strbReg c | strtReg c | strbtReg c =>
    cases hx
    refine (State.when_true (hcond c rfl) _).trans ((withOffsetReg_allowed hoff).trans ?_)
    exact State.singleStore_next (base rfl) (source rfl rfl)
  | strhImm c =>
    cases hx
    refine (State.when_true (hcond c rfl) _).trans ((halfwordForm_allowed hhalf).trans ?_)
    exact State.singleStore_next (base rfl) (source rfl rfl)
  | strhReg c =>
    cases hx
    refine (State.when_true (hcond c rfl) _).trans ((halfwordForm_allowed hhalf).trans
      ((withOffsetReg_allowed hoff).trans ?_))
    exact State.singleStore_next (base rfl) (source rfl rfl)
  | tStrReg | tStrbReg | tStrhReg | tStrImm | tStrbImm | tStrhImm | tStrSp =>
    cases hx
    rfl
  | _ => cases hshape

end

/-- Settles O20: a single store is one write of the core, whose bytes, cost and reach are those of a write through the
Bus, and the write-back of its base. -/
theorem singleStores : Obligations.SingleStores := by
  intro i s x hm hr hshape hx ha
  obtain ⟨-, -, hback, -⟩ := id ha
  obtain ⟨-, regs, flags, control, variant, saved, -, -⟩ := s.afterStore_within x hback
  exact ⟨s.afterStore x (backOf s i), exec_single_store hr hshape hx ha, s.peek_afterStore x _ hm,
    fun _ _ => s.reg_afterStore x hback, s.afterStore_pc x hback, flags rfl,
    ⟨regs, control rfl, variant rfl, saved rfl⟩, rfl, s.afterStore_halted x _, s.afterStore_devices x _,
    s.afterStore_cost x _⟩

end Sys2Proof.Machine
end

section
/-! What each instruction leaves in memory (family 20): the shared procedures it is made of keep memory, or put the
accesses of a store there. -/

namespace Sys2Proof.Machine

/-! ## Outcomes by the memory they leave -/

/-- Work that goes on leaves this memory. -/
def Leaves (m : List Host.Cell) (o : Outcome) : Prop := ∀ t, o = .next t → t.mem = m

section
variable {m : List Host.Cell} {o o' : Outcome} {s : State}

theorem Leaves.next (h : s.mem = m) : Leaves m (.next s) := by
  intro t e
  cases e
  exact h

theorem Leaves.refused (r : Refusal) : Leaves m (.refused r) := by
  intro t e
  cases e

theorem Leaves.ite {p : Prop} [Decidable p] (h : Leaves m o) (h' : Leaves m o') : Leaves m (if p then o else o') := by
  split
  · exact h
  · exact h'

/-- What is not refused. -/
theorem Leaves.unless {p : Prop} [Decidable p] {r : Refusal} (h : Leaves m o) :
    Leaves m (if p then .refused r else o) := .ite (.refused r) h

variable {effect ignored : State → Outcome}

theorem Leaves.when {c : Cond} (h : Leaves s.mem (effect s)) : Leaves s.mem (s.when c effect) :=
  .ite h (.next s.advance_mem)

theorem Leaves.undefined : Leaves s.mem (.next s.takeUndefined) := .next (State.enterException_mem _ _ _)

theorem Leaves.privileged (hi : Leaves s.mem (ignored s)) (he : Leaves s.mem (effect s)) :
    Leaves s.mem (s.privileged ignored effect) := by
  unfold State.privileged
  split
  · split
    · exact .undefined
    · exact hi
  · exact he

theorem Leaves.exceptionReturn (v : Word) : Leaves s.mem (s.exceptionReturn v) := by
  intro t h
  obtain ⟨p, q, -, -, rfl⟩ := State.exceptionReturn_next h
  exact (s.setCpsr q).writePc_mem v

theorem State.finishReg_mem (s : State) (i : Reg) (v : Word) : (s.finishReg i v).mem = s.mem := by
  unfold State.finishReg
  split
  · exact s.writePc_mem v
  · rfl

/-! ## Data processing and multiplies -/

theorem Leaves.dpWrite (extra : Nat) (sf : Bool) (rd : Reg) (r : AluResult) : Leaves s.mem (s.dpWrite extra sf rd r) := by
  have written : Leaves s.mem (.next ((s.addCost extra).writePc r.value)) := .next (State.writePc_mem _ _)
  refine .ite (.ite (.privileged written (Leaves.exceptionReturn (s := s.addCost extra) _)) written) (.next ?_)
  cases sf <;> rfl

theorem Leaves.dpTest (extra : Nat) (rd : Reg) (r : AluResult) : Leaves s.mem (s.dpTest extra rd r) := .unless (.next rfl)

section
variable (alu : AluOp) (c : Cond) (sf : Bool) (rn rd rs rm : Reg) (rot : BitVec 4) (imm8 : BitVec 8) (amt : BitVec 5)
  (ty : ShiftKind)

theorem Leaves.dpImm : Leaves s.mem (s.dpImm alu c sf rn rd rot imm8) := .when (.dpWrite _ _ _ _)
theorem Leaves.dpReg : Leaves s.mem (s.dpReg alu c sf rn rd amt ty rm) := .when (.dpWrite _ _ _ _)
theorem Leaves.dpRsr : Leaves s.mem (s.dpRsr alu c sf rn rd rs ty rm) := .when (.unless (.dpWrite _ _ _ _))
theorem Leaves.testImm : Leaves s.mem (s.testImm alu c rn rd rot imm8) := .when (.dpTest _ _ _)
theorem Leaves.testReg : Leaves s.mem (s.testReg alu c rn rd amt ty rm) := .when (.dpTest _ _ _)
theorem Leaves.testRsr : Leaves s.mem (s.testRsr alu c rn rd rs ty rm) := .when (.unless (.dpTest _ _ _))

end

theorem Leaves.multiply (sf : Bool) (rd rs rm rn : Reg) (accumulate : Bool) :
    Leaves s.mem (s.multiply sf rd rs rm rn accumulate) := .unless (.next (by cases sf <;> rfl))

theorem Leaves.multiplyLong (signed accumulate sf : Bool) (rdHi rdLo rs rm : Reg) :
    Leaves s.mem (s.multiplyLong signed accumulate sf rdHi rdLo rs rm) := .unless (.next (by cases sf <;> rfl))

/-! ## Loads -/

theorem State.writeBack_mem (s : State) (p w u : Bool) (rn : Reg) (base off : Word) :
    (s.writeBack p w u rn base off).mem = s.mem := by
  unfold State.writeBack
  split <;> rfl

section
variable {load : State → Word → Word × State} (hl : Reads load)
include hl

theorem Reads.mem (s : State) (a : Word) : (load s a).2.mem = s.mem := by
  obtain ⟨b, w, e⟩ := hl s a
  rw [e, State.busRead_mem]

theorem Reads.par (s : State) (a : Word) : (load s a).2.par = s.par := by
  obtain ⟨b, w, e⟩ := hl s a
  rw [e, State.busRead_par]

theorem Leaves.singleLoad (wide p u w : Bool) (rn rd : Reg) (off : Word) :
    Leaves s.mem (s.singleLoad wide load p u w rn rd off) :=
  .unless (.unless (.next ((State.finishReg_mem _ _ _).trans ((State.writeBack_mem _ _ _ _ _ _ _).trans (hl.mem s _)))))

theorem Leaves.tLoad (rd : LReg) (a : Word) : Leaves s.mem (s.tLoad load rd a) := .next (hl.mem s a)

end

theorem Leaves.withOffsetReg {rm : Reg} (h : Leaves m o) : Leaves m (withOffsetReg rm o) := .unless h

theorem Leaves.halfwordForm {p w : Bool} (h : Leaves m o) : Leaves m (halfwordForm p w o) := .unless h

theorem State.loadMany_mem (s : State) (n : Mode) (regs : List Reg) (a : Word) (k : Nat) :
    (s.loadMany n regs a k).mem = s.mem := by
  induction regs generalizing s a k with
  | nil => rfl
  | cons i rest ih => exact (ih _ _ _).trans (s.busRead_mem _ _ _)

theorem Leaves.ldmBody (n : Mode) (p u w : Bool) (rn : Reg) (list : BitVec 16) {ret : State → Word → Outcome}
    (hret : ∀ c v, c.mem = s.mem → Leaves s.mem (ret c v)) : Leaves s.mem (s.ldmBody n p u w rn list ret) := by
  have based : (if w then s.setReg rn (blockBase u (s.reg rn) (listRegs list).length) else s).mem = s.mem := by
    cases w <;> rfl
  unfold State.ldmBody
  dsimp only
  generalize (if w then s.setReg rn (blockBase u (s.reg rn) (listRegs list).length) else s) = b at based
  have loaded := (b.loadMany_mem n (lowPart (listRegs list)) (blockStart p u (s.reg rn) (listRegs list).length) 0).trans
    based
  exact .ite (hret _ _ ((State.busRead_mem _ _ _ _).trans loaded)) (.next loaded)

theorem Leaves.ldm (c : Cond) (p u sf w : Bool) (rn : Reg) (list : BitVec 16) :
    Leaves s.mem (execLdm c p u sf w rn list s) := by
  have branch (n : Mode) : Leaves s.mem (s.ldmBody n p u w rn list fun s v => .next (s.writePc v)) :=
    .ldmBody _ _ _ _ _ _ fun _ _ hc => .next ((State.writePc_mem _ _).trans hc)
  refine .when ?_
  split
  · exact .refused _
  · exact .ite (.privileged (branch _) (.ldmBody _ _ _ _ _ _ fun _ v hc => hc ▸ .exceptionReturn v)) (branch _)

/-! ## Status, the system-control unit, the compact variant -/

theorem Leaves.mrsWrite (rd : Reg) (v : Word) : Leaves s.mem (s.mrsWrite rd v) := .unless (.next rfl)

theorem Leaves.mrs (c : Cond) (r : Bool) (rd : Reg) : Leaves s.mem (execMrs c r rd s) := by
  refine .when (.ite (.privileged (Leaves.mrsWrite (s := s.setDraws (s.draws + 1)) _ _) ?_) (.mrsWrite _ _))
  split
  · exact .refused _
  · exact .mrsWrite _ _

theorem Leaves.writeCpsr (operand mask : Word) : Leaves s.mem (s.writeCpsr operand mask) := by
  unfold State.writeCpsr
  split
  · exact .refused _
  · exact .next rfl

theorem Leaves.msr (r : Bool) (mask : BitVec 4) (operand : Word) : Leaves s.mem (s.msr r mask operand) := by
  refine .ite (.privileged (.next rfl) ?_) (.ite (.privileged (.writeCpsr _ _) (.writeCpsr _ _)) (.writeCpsr _ _))
  split
  · exact .refused _
  · exact .next rfl

theorem Leaves.cp15 {cp : BitVec 4} (hi : ∀ k, Leaves s.mem (ignored (s.addCost k)))
    (he : ∀ k, Leaves s.mem (effect (s.addCost k))) : Leaves s.mem (s.cp15 cp ignored effect) :=
  .ite (.privileged (hi _) (he _)) .undefined

theorem State.mrcWrite_mem (s : State) (rd : Reg) (v : Word) : (s.mrcWrite rd v).mem = s.mem := by
  unfold State.mrcWrite
  split <;> rfl

theorem Leaves.tPop (r : Bool) (rlist : BitVec 8) : Leaves s.mem (execTPop r rlist s) := by
  have loaded := s.loadMany_mem s.core.cpsr.mode (lowListRegs rlist) (s.reg 13) 0
  refine .unless (.ite (.next ?_) (.next loaded))
  exact (State.writePc_mem _ _).trans ((State.busRead_mem _ _ _ _).trans loaded)

theorem Leaves.tLdmia (rb : LReg) (rlist : BitVec 8) : Leaves s.mem (execTLdmia rb rlist s) :=
  .unless (.next (State.loadMany_mem _ _ _ _ _))

/-! ## Stores -/

theorem Leaves.singleStore (width : Width) (p u w : Bool) (rn rd : Reg) (off : Word) :
    Leaves (s.storeData (transferAddr p u (s.reg rn) off) width (s.regLate rd) .n).mem
      (s.singleStore width p u w rn rd off) :=
  .unless (.unless (.next (State.writeBack_mem _ _ _ _ _ _ _)))

end

end Sys2Proof.Machine
end

section
/-! After any instruction memory holds the bytes it stores over those it held (family 20). -/

namespace Sys2Proof.Machine

/-- Each cell of `t` holds the byte the accesses put there, the later over the earlier, or what it held in `s`. -/
def Puts (s : State) (xs : List (Word × Width × Word)) (t : State) : Prop :=
  ∀ c, Memory.read t.mem c = xs.foldl (fun b x => (storeByte s x c).getD b) (Memory.read s.mem c)

section
variable {s t : State} {o : Outcome}

theorem Puts.of_leaves (h : o = .next t) (hl : Leaves s.mem o) : Puts s [] t := fun c => by
  rw [hl t h]
  rfl

theorem Puts.of_when {c : Cond} {effect : State → Outcome} (h : s.when c effect = .next t)
    (hl : Leaves s.mem (effect s)) : Puts s [] t := .of_leaves h (.when hl)

theorem Puts.peek {xs : List (Word × Width × Word)} (h : Puts s xs t) (hp : t.par = s.par) (a : Word) :
    t.peek a = s.peekAfter xs a := by
  rw [State.peek, State.peekAfter, State.cell_congr hp]
  cases s.cell a with
  | none => rfl
  | some c => exact congrArg some (h c)

/-- What a false condition would have done is out of question. -/
theorem next_of_when {c : Cond} {effect : State → Outcome} (hc : condHolds c s.core.cpsr = true)
    (h : s.when c effect = .next t) : effect s = .next t := (State.when_true hc effect).symm.trans h

variable (hm : Memory.wf s.mem)
include hm

/-! ## Stores -/

theorem puts_storeData {a : Word} {w : Width} {v : Word} {k : AccessKind} (h : t.mem = (s.storeData a w v k).mem) :
    Puts s [(w.align a, w, v)] t := fun c => by
  rw [h]
  exact State.read_busWrite hm .core k

theorem State.singleStore_puts {width : Width} {p u w : Bool} {rn rd : Reg} {off : Word}
    (h : s.singleStore width p u w rn rd off = .next t) :
    Puts s [(width.align (transferAddr p u (s.reg rn) off), width, s.regLate rd)] t :=
  puts_storeData hm (Leaves.singleStore width p u w rn rd off t h)

theorem State.tStore_puts {w : Width} {rd : LReg} {a : Word} (h : s.tStore w rd a = .next t) :
    Puts s [(w.align a, w, s.low rd)] t := by
  cases h
  exact puts_storeData hm (k := .n) rfl

theorem State.swap_puts {load : State → Word → Word × State} (hl : Reads load) {width : Width} {rn rd rm : Reg}
    (h : s.swap load width rn rd rm = .next t) : Puts s [(width.align (s.reg rn), width, s.reg rm)] t := by
  obtain ⟨-, h⟩ := next_of_ite_refused h
  cases h
  intro c
  have hmem : (load s (s.reg rn)).2.mem = s.mem := hl.mem s _
  have put := puts_storeData (t := (load s (s.reg rn)).2.storeData (s.reg rn) width (s.reg rm) .n)
    (hmem ▸ hm) rfl c
  rw [List.foldl_cons, storeByte_congr (hl.par s _), hmem] at put
  exact put

/-- A block store puts its words in order (R242). -/
theorem State.storeMany_puts (vs : List Word) (a : Word) (k : Nat) : Puts s (storedWords a vs) (s.storeMany vs a k) := by
  induction vs generalizing s a k with
  | nil => exact fun _ => rfl
  | cons v rest ih =>
    intro c
    have frame : WriteFrame s (s.storeData a .word v (blockKind k)) := s.busWrite_frame _ _ _ _ _
    have first : Memory.read (s.storeData a .word v (blockKind k)).mem c = _ := puts_storeData hm rfl c
    rw [State.storeMany, ih (frame.wf hm), first]
    simp only [storeByte_congr frame.par]
    rfl

/-! ## The table of all instructions -/

theorem exec_puts {i : Instr} (hr : Ready i s) (h : exec i s = .next t) : Puts s (stored s i) t := by
  obtain ⟨-, hcond⟩ := hr
  unfold exec at h
  cases i with
  | andImm | eorImm | subImm | rsbImm | addImm | adcImm | sbcImm | rscImm | orrImm | movImm | bicImm | mvnImm =>
    exact .of_leaves h (.dpImm _ _ _ _ _ _ _)
  | andReg | eorReg | subReg | rsbReg | addReg | adcReg | sbcReg | rscReg | orrReg | movReg | bicReg | mvnReg =>
    exact .of_leaves h (.dpReg _ _ _ _ _ _ _ _)
  | andRsr | eorRsr | subRsr | rsbRsr | addRsr | adcRsr | sbcRsr | rscRsr | orrRsr | movRsr | bicRsr | mvnRsr =>
    exact .of_leaves h (.dpRsr _ _ _ _ _ _ _ _)
  | tstImm | teqImm | cmpImm | cmnImm => exact .of_leaves h (.testImm _ _ _ _ _ _)
  | tstReg | teqReg | cmpReg | cmnReg => exact .of_leaves h (.testReg _ _ _ _ _ _ _)
  | tstRsr | teqRsr | cmpRsr | cmnRsr => exact .of_leaves h (.testRsr _ _ _ _ _ _ _)
  | mul | mla => exact .of_when h (.multiply _ _ _ _ _ _)
  | umull | umlal | smull | smlal => exact .of_when h (.multiplyLong _ _ _ _ _ _ _)
  | ldrImm | ldrtImm => exact .of_when h (.singleLoad loadWord_reads _ _ _ _ _ _ _)
  | ldrbImm | ldrbtImm => exact .of_when h (.singleLoad loadByte_reads _ _ _ _ _ _ _)
  | ldrReg | ldrtReg => exact .of_when h (.withOffsetReg (.singleLoad loadWord_reads _ _ _ _ _ _ _))
  | ldrbReg | ldrbtReg => exact .of_when h (.withOffsetReg (.singleLoad loadByte_reads _ _ _ _ _ _ _))
  | ldrhImm => exact .of_when h (.halfwordForm (.singleLoad loadHalf_reads _ _ _ _ _ _ _))
  | ldrsbImm => exact .of_when h (.halfwordForm (.singleLoad loadSignedByte_reads _ _ _ _ _ _ _))
  | ldrshImm => exact .of_when h (.halfwordForm (.singleLoad loadSignedHalf_reads _ _ _ _ _ _ _))
  | ldrhReg =>
    exact .of_when h (.halfwordForm (.withOffsetReg (.singleLoad loadHalf_reads _ _ _ _ _ _ _)))
  | ldrsbReg =>
    exact .of_when h (.halfwordForm (.withOffsetReg (.singleLoad loadSignedByte_reads _ _ _ _ _ _ _)))
  | ldrshReg =>
    exact .of_when h (.halfwordForm (.withOffsetReg (.singleLoad loadSignedHalf_reads _ _ _ _ _ _ _)))
  | strImm c | strtImm c | strbImm c | strbtImm c => exact State.singleStore_puts hm (next_of_when (hcond c rfl) h)
  | strReg c | strtReg c | strbReg c | strbtReg c =>
    exact State.singleStore_puts hm (next_of_withOffsetReg (next_of_when (hcond c rfl) h))
  | strhImm c => exact State.singleStore_puts hm (next_of_halfwordForm (next_of_when (hcond c rfl) h))
  | strhReg c =>
    exact State.singleStore_puts hm (next_of_withOffsetReg (next_of_halfwordForm (next_of_when (hcond c rfl) h)))
  | swp c => exact State.swap_puts hm loadWord_reads (next_of_when (hcond c rfl) h)
  | swpb c => exact State.swap_puts hm loadByte_reads (next_of_when (hcond c rfl) h)
  | ldm => exact .of_leaves h (.ldm _ _ _ _ _ _ _)
  | stm c p u sf w rn list =>
    have h := next_of_when (hcond c rfl) h
    split at h
    · cases h
    · cases h
      cases w <;> exact State.storeMany_puts hm _ _ _
  | b | bl | bx => exact .of_when h (.next (State.writePc_mem _ _))
  | mrs => exact .of_leaves h (.mrs _ _ _)
  | msrReg => exact .of_when h (.unless (.msr _ _ _))
  | msrImm => exact .of_when h (.msr _ _ _)
  | mcr =>
    exact .of_when h (.cp15 (fun _ => .next rfl) fun _ => .ite (.next rfl) (.unless (.next rfl)))
  | mrc =>
    exact .of_when h (.cp15 (fun _ => .next (State.mrcWrite_mem _ _ _))
      fun _ => .next (State.mrcWrite_mem _ _ _))
  | wfi => exact .of_when h (.cp15 (fun _ => .next rfl) fun _ => .next rfl)
  | swi => exact .of_when h (.next (State.enterException_mem _ _ _))
  | undSpace | undOther | cdp | ldc | stc => exact .of_when h .undefined
  | tLslImm | tLsrImm | tAsrImm | tAddReg | tSubReg | tAddImm3 | tSubImm3 | tMovImm8 | tAddImm8 | tSubImm8 | tAnd | tEor
  | tAdc | tSbc | tNeg | tOrr | tBic | tMvn | tCmpImm8 | tTst | tCmpReg | tCmn | tCmpHi | tLslReg | tLsrReg | tAsrReg
  | tRorReg | tMul | tBlHi => exact .of_leaves h (.next rfl)
  | tAddHi | tMovHi | tAddPc | tAddSp | tAddSpImm | tSubSpImm => exact .of_leaves h (.next (State.finishReg_mem _ _ _))
  | tLdrPc | tLdrReg | tLdrImm | tLdrSp => exact .of_leaves h (.tLoad loadWord_reads _ _)
  | tLdrbReg | tLdrbImm => exact .of_leaves h (.tLoad loadByte_reads _ _)
  | tLdrhReg | tLdrhImm => exact .of_leaves h (.tLoad loadHalf_reads _ _)
  | tLdsbReg => exact .of_leaves h (.tLoad loadSignedByte_reads _ _)
  | tLdshReg => exact .of_leaves h (.tLoad loadSignedHalf_reads _ _)
  | tStrReg | tStrbReg | tStrhReg | tStrImm | tStrbImm | tStrhImm | tStrSp => exact State.tStore_puts hm h
  | tPush =>
    obtain ⟨-, h⟩ := next_of_ite_refused h
    cases h
    exact State.storeMany_puts hm _ _ _
  | tStmia =>
    obtain ⟨-, h⟩ := next_of_ite_refused h
    cases h
    exact State.storeMany_puts hm _ _ _
  | tPop => exact .of_leaves h (.tPop _ _)
  | tLdmia => exact .of_leaves h (.tLdmia _ _)
  | tBcond => exact .of_leaves h (.ite (.next (State.writePc_mem _ _)) (.next rfl))
  | tB | tBlLo | tBx => exact .of_leaves h (.next (State.writePc_mem _ _))
  | tSwi => exact .of_leaves h (.next (State.enterException_mem _ _ _))
  | tUndCond | tUndOther => exact .of_leaves h .undefined

end

/-- No instruction that takes an exception stores anything. -/
theorem stored_of_takesException {s : State} {i : Instr} (h : takesException s i = true) : stored s i = [] := by
  cases i with
  | strImm | strReg | strbImm | strbReg | strtImm | strtReg | strbtImm | strbtReg | strhImm | strhReg | swp | swpb | stm
  | tStrReg | tStrbReg | tStrhReg | tStrImm | tStrbImm | tStrhImm | tStrSp | tPush | tStmia => cases h
  | _ => rfl

/-- Settles O41: by the table of all instructions, each keeps memory or puts its stores there. -/
theorem memoryFrame : Obligations.MemoryFrame := by
  intro i s t hm hr h a
  have hxs : (if takesException s i then [] else stored s i) = stored s i := by
    cases he : takesException s i with
    | true => exact (stored_of_takesException he).symm
    | false => rfl
  rw [hxs]
  exact (exec_puts hm hr h).peek (exec_ran h).lawful.par a

end Sys2Proof.Machine
end

section
/-! The decoder reads back what the encoder wrote (family 20): an instruction that is well formed, in its variant. -/

namespace Sys2Proof

/-! ## Fields (R11) -/

/-- Neighbouring fields. -/
theorem bits_append (b lo m n : Nat) : bits b lo (m + n) = bits b (lo + n) m ++ bits b lo n := by
  apply BitVec.eq_of_toNat_eq
  rw [BitVec.toNat_append]
  simp only [bits, BitVec.toNat_ofNat]
  rw [← Nat.shiftLeft_add_eq_or_of_lt (Nat.mod_lt _ (Nat.two_pow_pos n)), Nat.shiftLeft_eq, Nat.shiftRight_add,
    Nat.shiftRight_eq_div_pow (b >>> lo), Nat.add_comm m n, Nat.pow_add, Nat.mod_mul, Nat.add_comm, Nat.mul_comm]

theorem bits_append_eq {b lo m n : Nat} {x : BitVec m} {y : BitVec n} :
    bits b lo (m + n) = x ++ y ↔ bits b (lo + n) m = x ∧ bits b lo n = y := by
  rw [bits_append]
  constructor
  · intro h
    refine ⟨?_, ?_⟩
    · have := congrArg (BitVec.extractLsb' n m) h
      simpa only [BitVec.extractLsb'_append_eq_left] using this
    · have := congrArg (BitVec.extractLsb' 0 n) h
      simpa only [BitVec.extractLsb'_append_eq_right] using this
  · rintro ⟨rfl, rfl⟩; rfl

theorem bits_one_eq (b lo : Nat) : (bits b lo 1 = 1#1 ↔ flag b lo = true) ∧ (bits b lo 1 = 0#1 ↔ flag b lo = false) := by
  unfold flag
  generalize bits b lo 1 = x
  revert x
  decide

theorem bits_toNat_ofNat (b m lo len : Nat) (h : lo + len ≤ m) : bits (BitVec.ofNat m b).toNat lo len = bits b lo len := by
  obtain ⟨k, rfl⟩ := Nat.exists_eq_add_of_le h
  apply BitVec.eq_of_toNat_eq
  simp only [bits, BitVec.toNat_ofNat, Nat.shiftRight_eq_div_pow]
  rw [Nat.add_assoc, Nat.pow_add, Nat.mod_mul_right_div_self, Nat.mod_mod_of_dvd _ (pow_dvd_pow 2 (Nat.le_add_right len k))]

theorem bits_two_eq_zero {b lo : Nat} : bits b lo 2 = 0#2 ↔ flag b (lo + 1) = false ∧ flag b lo = false := by
  rw [← (bits_one_eq b _).2, ← (bits_one_eq b lo).2]
  exact bits_append_eq (m := 1) (n := 1) (x := 0#1) (y := 0#1)

theorem bits_two_eq_two {b lo : Nat} : bits b lo 2 = 2#2 ↔ flag b (lo + 1) = true ∧ flag b lo = false := by
  rw [← (bits_one_eq b _).1, ← (bits_one_eq b lo).2]
  exact bits_append_eq (m := 1) (n := 1) (x := 1#1) (y := 0#1)

theorem bits_three_eq_zero {b lo : Nat} : bits b lo 3 = 0#3 ↔ bits b (lo + 1) 2 = 0#2 ∧ flag b lo = false := by
  rw [← (bits_one_eq b lo).2]
  exact bits_append_eq (m := 2) (n := 1) (x := 0#2) (y := 0#1)

theorem bits_eight_eq {b lo : Nat} {x y : BitVec 4} : bits b lo 8 = x ++ y ↔ bits b (lo + 4) 4 = x ∧ bits b lo 4 = y :=
  bits_append_eq (m := 4) (n := 4)

theorem bits_twelve_eq {b lo : Nat} {x y z : BitVec 4} :
    bits b lo 12 = x ++ y ++ z ↔ (bits b (lo + 4 + 4) 4 = x ∧ bits b (lo + 4) 4 = y) ∧ bits b lo 4 = z :=
  (bits_append_eq (m := 8) (n := 4)).trans (and_congr bits_eight_eq Iff.rfl)

theorem bits_sixteen_eq {b lo : Nat} {x y z w : BitVec 4} : bits b lo 16 = x ++ y ++ z ++ w ↔
    ((bits b (lo + 4 + 4 + 4) 4 = x ∧ bits b (lo + 4 + 4) 4 = y) ∧ bits b (lo + 4) 4 = z) ∧ bits b lo 4 = w :=
  (bits_append_eq (m := 12) (n := 4)).trans (and_congr bits_twelve_eq Iff.rfl)

/-! ## The undefined full-variant words (R152) -/

section
variable (c : Cond) {b : Nat}

/-- Item 2, `bits[6:5] = 00`. -/
theorem decodeMultiply_eq_none (hshort : ¬(bits b 23 2 = 0#2 ∧ flag b 22 = false)) (hlong : bits b 23 2 ≠ 1#2)
    (hswap : ¬(bits b 23 2 = 2#2 ∧ bits b 20 2 = 0#2 ∧ bits b 8 4 = 0#4)) : decodeMultiply c b = none := by
  unfold decodeMultiply
  by_cases h0 : bits b 23 2 = 0#2
  · have h22 : flag b 22 = true := by simpa [h0] using hshort
    rw [if_pos h0, if_pos h22]
  · rw [if_neg h0, if_neg hlong]
    by_cases h2 : bits b 23 2 = 2#2
    · rw [if_pos h2]
      by_cases h20 : bits b 20 2 = 0#2
      · rw [if_pos h20, if_neg fun h8 => hswap ⟨h2, h20, h8⟩]
      · rw [if_neg h20]
    · rw [if_neg h2]

/-- Item 2, `bits[6:5]` 10 or 11. -/
theorem decodeHalfword_eq_none (h : bits b 5 2 = 2#2 ∨ bits b 5 2 = 3#2) (h20 : flag b 20 = false) :
    decodeHalfword c b = none := by
  unfold decodeHalfword
  rcases h with h | h <;> simp [h, h20]

/-- Item 3: no `MRS`, `MSR` register, `BX`. -/
theorem decodeMisc_eq_none (h20 : flag b 20 = false)
    (hmrs : ¬(flag b 21 = false ∧ bits b 16 4 = 15#4 ∧ bits b 8 4 = 0#4 ∧ bits b 4 4 = 0#4 ∧ bits b 0 4 = 0#4))
    (hmsr : ¬(flag b 21 = true ∧ bits b 12 4 = 15#4 ∧ bits b 8 4 = 0#4 ∧ bits b 4 4 = 0#4))
    (hbx : ¬(flag b 22 = false ∧ flag b 21 = true ∧ bits b 16 4 = 15#4 ∧ bits b 12 4 = 15#4 ∧ bits b 8 4 = 15#4 ∧
      bits b 4 4 = 1#4)) : decodeMisc c b = none := by
  have hlow : bits b 20 2 = 0#2 ↔ flag b 21 = false := by
    rw [bits_two_eq_zero, and_iff_left h20]
  unfold decodeMisc
  cases h21 : flag b 21 with
  | false =>
    rw [if_pos (hlow.2 h21)]
    simp only [h21, true_and] at hmrs
    split_ifs with h16 h8 h4 h0
    · exact absurd ⟨h16, h8, h4, h0⟩ hmrs
    all_goals rfl
  | true =>
    rw [if_neg (mt hlow.1 (by rw [h21]; exact Bool.noConfusion))]
    simp only [h21, true_and] at hmsr hbx
    split_ifs with h12 h8 h4 h8' h22 h16 h4
    · exact absurd ⟨h12, h8, h4⟩ hmsr
    · rfl
    · rfl
    · exact absurd ⟨Bool.eq_false_iff.2 h22, h16, h12, h8', h4⟩ hbx
    all_goals rfl

/-- Item 4: no `MSR` immediate. -/
theorem decodeClass1_eq_none (h23 : bits b 23 2 = 2#2) (h20 : flag b 20 = false)
    (hmsr : ¬(flag b 21 = true ∧ bits b 12 4 = 15#4)) : decodeClass1 c b = none := by
  have hhigh : bits b 20 2 = 2#2 ↔ flag b 21 = true := by
    rw [bits_two_eq_two, and_iff_left h20]
  unfold decodeClass1
  rw [if_pos h23, if_neg (ne_true_of_eq_false h20)]
  split_ifs with h21 h12
  · exact absurd ⟨hhigh.1 h21, h12⟩ hmsr
  all_goals rfl

/-- The space with `bits[7] = bits[4] = 1` (R136). -/
theorem decodeClass0_extension (h4 : flag b 4 = true) (h7 : flag b 7 = true) :
    decodeClass0 c b = if bits b 5 2 = 0#2 then decodeMultiply c b else decodeHalfword c b := by
  rw [decodeClass0, if_pos h4, if_pos h7]

/-- The status space, outside of the one with `bits[7] = bits[4] = 1` (R136). -/
theorem decodeClass0_status (h : flag b 4 = false ∨ flag b 7 = false) (h23 : bits b 23 2 = 2#2) (h20 : flag b 20 = false) :
    decodeClass0 c b = decodeMisc c b := by
  have hspace : decodeDpSpace c b = decodeMisc c b := by
    rw [decodeDpSpace, if_pos h23, if_neg (ne_true_of_eq_false h20)]
  rw [decodeClass0, hspace]
  rcases h with h | h
  · rw [if_neg (ne_true_of_eq_false h)]
  · rw [if_neg (ne_true_of_eq_false h), ite_self]

/-- A body no row matches but the catch-all one (R152). -/
theorem decodeDefined_of_undefinedBody (h : undefinedBody (BitVec.ofNat 28 b) = true) : decodeDefined c b = none := by
  have field (lo len : Nat) (hl : lo + len ≤ 28) : bits (BitVec.ofNat 28 b).toNat lo len = bits b lo len :=
    bits_toNat_ofNat b 28 lo len hl
  have flagField (lo : Nat) (hl : lo + 1 ≤ 28) : flag (BitVec.ofNat 28 b).toNat lo = flag b lo := by
    rw [flag, field lo 1 hl, flag]
  simp only [undefinedBody, field, flagField, Nat.reduceAdd, Nat.reduceLeDiff, Bool.or_eq_true, Bool.and_eq_true,
    beq_iff_eq, Bool.not_eq_true', Bool.or_eq_false_iff, Bool.and_eq_false_iff, beq_eq_false_iff_ne] at h
  unfold decodeDefined
  rcases h with ⟨h25, (⟨⟨⟨h4, h7⟩, h5⟩, ⟨hshort, hlong⟩, hswap⟩ | ⟨⟨⟨h4, h7⟩, h5⟩, h20⟩) | ⟨⟨hext, h23, h20⟩, ⟨hmrs, hmsr⟩, hbx⟩⟩ |
    ⟨h25, ⟨h23, h20⟩, hmsr⟩
  · rw [if_pos h25, decodeClass0_extension c h4 h7, if_pos h5]
    refine decodeMultiply_eq_none c (mt bits_three_eq_zero.2 hshort) hlong ?_
    rintro ⟨h23, h20, h8⟩
    exact hswap.elim (fun h => h.elim (fun h => h h23) fun h => h h20) fun h => h h8
  · have hne : bits b 5 2 ≠ 0#2 := by rcases h5 with h | h <;> rw [h] <;> decide
    rw [if_pos h25, decodeClass0_extension c h4 h7, if_neg hne]
    exact decodeHalfword_eq_none c h5 h20
  · rw [if_pos h25, decodeClass0_status c hext h23 h20]
    refine decodeMisc_eq_none c h20 ?_ ?_ ?_
    · rintro ⟨h21, h16, h8, h4, h0⟩
      have h12 : bits b 0 12 = 0#12 := bits_twelve_eq (x := 0#4) (y := 0#4) (z := 0#4) |>.2 ⟨⟨h8, h4⟩, h0⟩
      simp [h21, h16, h12] at hmrs
    · rintro ⟨h21, h12, h8, h4⟩
      have h48 : bits b 4 8 = 0#8 := bits_eight_eq (x := 0#4) (y := 0#4) |>.2 ⟨h8, h4⟩
      simp [h21, h12, h48] at hmsr
    · rintro ⟨h22, h21, h16, h12, h8, h4⟩
      have h416 : bits b 4 16 = 65521#16 :=
        bits_sixteen_eq (x := 15#4) (y := 15#4) (z := 15#4) (w := 1#4) |>.2 ⟨⟨⟨h16, h12⟩, h8⟩, h4⟩
      simp [h22, h21, h416] at hbx
  · have hne : bits b 25 3 ≠ 0#3 := by rw [h25]; decide
    rw [if_neg hne, if_pos h25]
    refine decodeClass1_eq_none c h23 h20 ?_
    rintro ⟨h21, h12⟩
    simp [h21, h12] at hmsr

end
/-! ## The undefined compact words (R159) -/

/-- Whether a compact word has a row does not depend on its lowest seven bits. -/
theorem decodeDefinedHalf_isNone_cat (k : Nat) (r : BitVec 7) :
    (decodeDefinedHalf (cat k r)).isNone = (decodeDefinedHalf (cat k 0#7)).isNone := by
  simp only [decodeDefinedHalf, decodeFormat1And2, decodeFormat3, decodeGroup2, decodeFormat4, decodeFormat5,
    decodeFormat7And8, decodeFormat9, decodeFormat10And11, decodeFormat12To14, decodeFormat15To17, decodeFormat18And19,
    flag, bits_cat_high, apply_ite Option.isNone, Option.isNone_some, Option.isNone_none, Nat.reduceLeDiff,
    Nat.reduceSub, ite_self]

/-- The upper nine bits of the undefined compact words. -/
theorem decodeDefinedHalf_isNone : ∀ k : Fin 512,
    (0x162 ≤ k.val ∧ k.val ≤ 0x167 ∨ 0x16C ≤ k.val ∧ k.val ≤ 0x177 ∨ 0x17C ≤ k.val ∧ k.val ≤ 0x17F ∨
      0x1D0 ≤ k.val ∧ k.val ≤ 0x1DF ∨ k.val = 0x8F) → (decodeDefinedHalf (cat k.val 0#7)).isNone = true := by
  decide +kernel

/-- A compact word no row matches but the catch-all one (R159). -/
theorem decodeDefinedHalf_of_undefinedHalf {h : Half} (hu : undefinedHalf h = true) : decodeDefinedHalf h.toNat = none := by
  have hlt := h.isLt
  have hcat : cat (h.toNat / 128) (BitVec.ofNat 7 h.toNat) = h.toNat := by
    change h.toNat / 128 * 128 + h.toNat % 128 = h.toNat
    omega
  simp only [undefinedHalf, Bool.or_eq_true, Bool.and_eq_true, decide_eq_true_iff] at hu
  have hnone := decodeDefinedHalf_isNone ⟨h.toNat / 128, by omega⟩ (by dsimp only; omega)
  rw [← hcat, ← Option.isNone_iff_eq_none, decodeDefinedHalf_isNone_cat]
  exact hnone

/-! ## Reading back what was written (R135) -/

theorem bits_cat_piece (x : Nat) {n : Nat} (y : BitVec n) (lo len : Nat) (h : lo + len ≤ n) :
    bits (cat x y) lo len = y.extractLsb' lo len := bits_cat_low x y lo len h

theorem ofBool_beq_one_eq (b : Bool) : (BitVec.ofBool b == 1#1) = b := by cases b <;> rfl

/-- A plain transfer is not read as one of the user-access forms (R146). -/
theorem plainTransfer_ite {α : Type} {p w : Bool} (h : plainTransfer p w = true) (x y : α) :
    (if p = true then x else if w = true then y else x) = x := by
  cases p with
  | true => rfl
  | false =>
    cases w with
    | true => cases h
    | false => rfl

/-- An `MCR` that is not the `WFI` word is not read as one (R149, R269). -/
theorem mcr_ite {α : Type} {opc1 : BitVec 3} {crn cp : BitVec 4} {opc2 : BitVec 3} {crm : BitVec 4}
    (h : (!isWfi opc1 crn cp opc2 crm) = true) (x y : α) :
    (if opc1 = 0#3 then if crn = 7#4 then if cp = 15#4 then if opc2 = 4#3 then if crm = 0#4 then y else x else x else x
      else x else x) = x := by
  split_ifs with h1 h2 h3 h4 h5
  · subst h1 h2 h3 h4 h5
    cases h
  all_goals rfl

theorem Cond.toBits_ne {c : Cond} (h : (c != .al && c != .nv) = true) : c.toBits ≠ 15#4 ∧ c.toBits ≠ 14#4 := by
  revert h
  cases c <;> decide

/-- The decoder of an instruction's variant reads the instruction its opcode was written for: the fields of each format
read back, and the constraints of `Instr.wf` keep a row from being read as an earlier one (R135). -/
theorem decode_encode {i : Instr} (hw : i.wf = true) :
    (if i.isCompact then decodeHalf (encodeHalf i) else decodeWord (encodeWord i)) = i := by
  unfold encodeHalf encodeWord encodeNat Instr.isCompact
  cases i
  case undOther c body =>
    have hbody : bits (cat (cat 0 c.toBits) body % 4294967296) 0 28 = body := by
      rw [bits_mod_word _ _ _ (by decide), bits_cat_piece _ _ _ _ (by decide), BitVec.extractLsb'_eq_self]
    have hcond : bits (cat (cat 0 c.toBits) body % 4294967296) 28 4 = c.toBits := by
      rw [bits_mod_word _ _ _ (by decide), bits_cat_high _ _ _ _ (by decide), bits_cat_piece _ _ _ _ (by decide),
        BitVec.extractLsb'_eq_self]
    have hnone := decodeDefined_of_undefinedBody c (b := cat (cat 0 c.toBits) body % 4294967296)
      ((congrArg undefinedBody hbody).trans hw)
    simp only [decodeWord, BitVec.toNat_ofNat, Nat.reducePow, hbody, hcond, Cond.ofBits_toBits, hnone, Option.getD_none,
      Bool.false_eq_true, ↓reduceIte]
  case tUndOther word =>
    have hword : BitVec.ofNat 16 (cat 0 word) = word := by
      rw [cat, Nat.zero_mul, Nat.zero_add, BitVec.ofNat_toNat, BitVec.setWidth_eq]
    simp only [decodeHalf, hword, decodeDefinedHalf_of_undefinedHalf hw, Option.getD_none, ↓reduceIte]
  all_goals
    simp only [decodeWord, decodeDefined, decodeClass0, decodeClass1, decodeMultiply, decodeHalfword, decodeDpSpace,
      decodeDpImm, decodeDpReg, decodeDpRsr, decodeMisc, decodeTransferImm, decodeTransferReg, decodeCoprocessor,
      decodeHalf, decodeDefinedHalf, decodeFormat1And2, decodeFormat3, decodeGroup2, decodeFormat4, decodeFormat5,
      decodeFormat7And8, decodeFormat9, decodeFormat10And11, decodeFormat12To14, decodeFormat15To17,
      decodeFormat18And19, flag, BitVec.toNat_ofNat, Nat.reducePow, bits_mod_word, bits_mod_half, bits_cat_high,
      bits_cat_piece, Nat.reduceLeDiff, Nat.reduceAdd, Nat.reduceSub, BitVec.reduceExtractLsb',
      BitVec.extractLsb'_eq_self, BitVec.reduceEq, BitVec.reduceBEq, ofBool_beq_one_eq, regOf_regBits, lregOf_lregBits,
      regJoin_high_low, ShiftKind.ofBits_toBits, Cond.ofBits_toBits, Option.getD_some, Bool.false_eq_true, ↓reduceIte]
  case ldrImm | ldrReg | strImm | strReg | ldrbImm | ldrbReg | strbImm | strbReg =>
    rw [plainTransfer_ite hw]
    rfl
  case mcr =>
    rw [mcr_ite hw]
    rfl
  case tBcond =>
    obtain ⟨hnv, hal⟩ := Cond.toBits_ne hw
    rw [if_neg hnv, if_neg hal]
    rfl

end Sys2Proof
end

section
/-! A step runs the instruction whose encoding stands at `pc` (family 20). -/

namespace Sys2Proof.Machine

/-! ## The bytes of an encoding (R76) -/

theorem leBytes_length (n w : Nat) : (leBytes n w).length = n := by
  induction n generalizing w with
  | zero => rfl
  | succ n ih => exact congrArg (· + 1) (ih _)

theorem getElem_leBytes {n w j : Nat} (h : j < (leBytes n w).length) : (leBytes n w)[j] = bits w (8 * j) 8 := by
  induction n generalizing w j with
  | zero => exact absurd h (Nat.not_lt_zero j)
  | succ n ih =>
    cases j with
    | zero => rfl
    | succ j =>
      have hshift : bits (w >>> 8) (8 * j) 8 = bits w (8 * (j + 1)) 8 := by
        rw [bits, ← Nat.shiftRight_add, Nat.add_comm, ← Nat.mul_succ, ← bits]
      exact (ih _).trans hshift

/-- The bytes of an instruction's encoding are the lanes of the word its opcode stands in. -/
theorem lane_of_opcode {i : Instr} {v : Word}
    (hv : if i.isCompact then v.extractLsb' 0 16 = encodeHalf i else v = encodeWord i) {j : Nat}
    (hj : j < (encode i).length) : lane v j = (encode i)[j] := by
  unfold encode at hj ⊢
  rw [getElem_leBytes hj]
  rw [leBytes_length] at hj
  cases hc : i.isCompact with
  | true =>
    rw [hc, if_pos rfl] at hv hj
    have hlane : lane v j = (v.extractLsb' 0 16).extractLsb' (8 * j) 8 := by
      rw [BitVec.extractLsb'_extractLsb'_of_le (by omega)]
      rfl
    rw [hlane, hv]
    exact bits_toNat_ofNat (encodeNat i) 16 (8 * j) 8 (by omega)
  | false =>
    rw [hc, if_neg Bool.false_ne_true] at hv hj
    rw [hv]
    exact bits_toNat_ofNat (encodeNat i) 32 (8 * j) 8 (by omega)

/-! ## The fetch (R32, R132, R561) -/

/-- An aligned address stands as it is on the Bus. -/
theorem Width.align_of_aligned {w : Width} {a : Word} (h : a.toNat % w.bytes = 0) : w.align a = a := by
  have low {k : Nat} (hk : a.toNat % 2 ^ k = 0) : a.extractLsb' 0 k = 0#k :=
    BitVec.eq_of_toNat_eq (by rw [BitVec.extractLsb'_toNat, Nat.shiftRight_zero, hk, BitVec.toNat_ofNat, Nat.zero_mod])
  cases w with
  | byte => rfl
  | half =>
    have whole := eq_append_lowest a
    rw [low (k := 1) h] at whole
    exact (and_not_one_eq a).trans whole.symm
  | word =>
    have whole : a.extractLsb' 2 30 ++ 0#2 = a := by
      rw [← low (k := 2) h, BitVec.extractLsb'_append_extractLsb'_eq_extractLsb' (by decide)]
      exact BitVec.extractLsb'_eq_self
    have mask : (0xFFFFFFFC : Word) = BitVec.allOnes 30 ++ 0#2 := rfl
    rw [Width.align, alignWord, mask]
    conv_lhs => rw [← whole]
    exact BitVec.and_append.trans (by rw [BitVec.and_allOnes, BitVec.and_zero, whole])

/-- The `pc` of a core stands at an instruction of its variant (R32). -/
theorem State.pc_mod (s : State) (h : s.core.aligned = true) : s.pc.toNat % s.width.bytes = 0 := by
  rw [Core.aligned_iff] at h
  unfold State.width
  cases ht : s.core.cpsr.t with
  | true =>
    rw [ht, if_pos rfl, BitVec.getLsbD, Nat.testBit_zero, decide_eq_false_iff_not] at h
    change s.core.regs.pc.toNat % 2 = 0
    omega
  | false =>
    rw [ht, if_neg Bool.false_ne_true] at h
    have h := congrArg BitVec.toNat h
    rw [BitVec.extractLsb'_toNat, Nat.shiftRight_zero] at h
    exact h

theorem State.fetch_eq (s : State) (h : s.core.aligned = true) :
    s.fetch = ((s.busRead s.pc s.width s.fetchKind).1, (s.busRead s.pc s.width s.fetchKind).2.setSeq true) := by
  rw [State.fetch, Width.align_of_aligned (s.pc_mod h)]
  rfl

/-- A read of the Bus's own storage, or of no region, is charged alone. -/
theorem State.busRead_quiet (s : State) (a : Word) (w : Width) (k : AccessKind) (h : s.quiet a = true) :
    (s.busRead a w k).2 = s.charge a w k := by
  cases hr : lookup s.par.regions a with
  | none => rw [s.busRead_unmapped a w k hr]
  | some r =>
    have hs : r.handler = .storage := by simpa only [State.quiet, hr, beq_iff_eq] using h
    simp only [State.busRead, State.charge_par, hr, State.readRegion, hs]
    split <;> rfl

/-! ## The step (R467) -/

/-- With no transfer, interrupt or halt the checkpoint runs an instruction. -/
theorem stepWith_of_running (cost : CostFunction) {s : State} (hd : s.atCheckpoint.dmaReady = none)
    (hi : s.atCheckpoint.deliverable = false) (hh : s.atCheckpoint.core.halted = false) :
    stepWith cost s = runInstruction cost s.atCheckpoint := by
  change checkpoint cost s.atCheckpoint = _
  rw [checkpoint, hd, hi, hh]
  rfl

/-- The opcode read at `pc` decodes to the instruction it is the encoding of. -/
theorem State.fetch_of_opcode {u f : State} {i : Instr} {v : Word} (ha : u.core.aligned = true)
    (hf : (v, f) = u.busRead u.pc u.width u.fetchKind) (hw : i.wf = true) (hc : i.isCompact = u.core.cpsr.t)
    (hv : if i.isCompact then v.extractLsb' 0 16 = encodeHalf i else v = encodeWord i) :
    u.fetch = (v, f.setSeq true) ∧ (f.setSeq true).decodeOpcode v = i := by
  have hfetch : u.fetch = (v, f.setSeq true) := by rw [u.fetch_eq ha, ← hf]
  have hcore : f.core = u.core := by
    have := u.busRead_core u.pc u.width u.fetchKind
    rwa [← hf] at this
  have ht : (f.setSeq true).core.cpsr.t = i.isCompact := by rw [hc, ← hcore]; rfl
  have hread := decode_encode hw
  refine ⟨hfetch, ?_⟩
  rw [State.decodeOpcode, ht]
  cases hcompact : i.isCompact with
  | true =>
    rw [hcompact, if_pos rfl] at hv hread
    rw [if_pos rfl, hv, hread]
  | false =>
    rw [hcompact, if_neg Bool.false_ne_true] at hv hread
    rw [if_neg Bool.false_ne_true, hv, hread]

/-- Settles O54: the opcode read at `pc` decodes to the instruction it is the encoding of, and its bytes are those
stored there. -/
theorem stepRunsDecoded : Obligations.StepRunsDecoded := by
  intro s u i v f hu hd hi hh ha hf hw hc hv
  subst hu
  rw [← hc] at hv
  obtain ⟨hfetch, hdecode⟩ := State.fetch_of_opcode ha hf hw hc hv
  have run (cost : CostFunction) := stepWith_of_running cost hd hi hh
  refine ⟨fun t ht => ?_, fun r hr => ?_, fun hq => ?_, fun hdef hp hb j hj => ?_⟩
  · have next (cost : CostFunction) : stepWith cost s = .next (t.settleBy (cost.step s.atCheckpoint t)) := by
      rw [run, runInstruction, hfetch, hdecode, ht]
    exact ⟨next tableCost, next⟩
  · rw [step, run, runInstruction, hfetch, hdecode, hr]
  · rw [← State.busRead_quiet _ _ _ _ hq, ← hf]
  · have hwidth : j < s.atCheckpoint.width.bytes := by
      rw [encode, leBytes_length, hc] at hj
      unfold State.width
      split at hj
      · next ht => rw [if_pos ht]; exact hj
      · next ht => rw [if_neg ht]; exact hj
    rw [State.peek_eq_lane s.atCheckpoint.fetchKind hdef hp (State.pc_mod _ ha) hb hwidth, ← hf]
    exact congrArg some (lane_of_opcode hv hj)

end Sys2Proof.Machine
end

section
/-! What the encoder writes, the decoder of its variant reads back, and leaves the bytes that follow (family 30). -/

namespace Sys2Proof

/-! ## The bytes of an opcode (R76) -/

theorem leBytes_two (w : Nat) : leBytes 2 w = [bits w 0 8, bits w 8 8] := rfl

theorem leBytes_four (w : Nat) : leBytes 4 w = [bits w 0 8, bits w 8 8, bits w 16 8, bits w 24 8] := by
  simp only [leBytes, ← Nat.shiftRight_add, bits, Nat.reduceAdd, Nat.shiftRight_zero]

theorem bits_half_append (w : Nat) : bits w 8 8 ++ bits w 0 8 = BitVec.ofNat 16 w :=
  (bits_append w 0 8 8).symm

theorem bits_word_append (w : Nat) : bits w 24 8 ++ bits w 16 8 ++ bits w 8 8 ++ bits w 0 8 = BitVec.ofNat 32 w := by
  have h16 : bits w 24 8 ++ bits w 16 8 = bits w 16 16 := (bits_append w 16 8 8).symm
  have h24 : bits w 16 16 ++ bits w 8 8 = bits w 8 24 := (bits_append w 8 16 8).symm
  rw [h16, h24]
  exact (bits_append w 0 24 8).symm

/-- Settles O1: the bytes of the encoding are put together to the opcode again, which decodes to the instruction. -/
theorem encodeDecode : Obligations.EncodeDecode := by
  intro i rest hw
  have hi := decode_encode hw
  unfold encode
  cases hc : i.isCompact with
  | true =>
    rw [hc, if_pos rfl] at hi
    rw [if_pos rfl, leBytes_two, List.cons_append, List.cons_append, List.nil_append, decode, bits_half_append]
    exact congrArg (fun j => Except.ok (j, rest)) hi
  | false =>
    rw [hc, if_neg Bool.false_ne_true] at hi
    simp only [Bool.false_eq_true, ↓reduceIte, leBytes_four, List.cons_append, List.nil_append, decode,
      bits_word_append]
    exact congrArg (fun j => Except.ok (j, rest)) hi

end Sys2Proof
end

section
/-! The defined rows of the full variant (family 30): whatever row the decoder answers for a word, its instruction
is well formed and its opcode is the word. -/

namespace Sys2Proof

/-! ## Instructions that stand for an opcode -/

/-- `i` is a well-formed instruction of the variant, and its opcode is the number `b`. -/
structure Instr.StandsFor (i : Instr) (compact : Bool) (b : Nat) : Prop where
  wf : i.wf = true
  variant : i.isCompact = compact
  opcode : encodeNat i = b

/-- Whatever row is answered, its instruction stands for `b`. -/
def RowStandsFor (o : Option Instr) (compact : Bool) (b : Nat) : Prop := ∀ i, o = some i → i.StandsFor compact b

section
variable {compact : Bool} {b : Nat} {p : Prop} [Decidable p] {x y : Option Instr} {i : Instr}

theorem RowStandsFor.none : RowStandsFor none compact b := fun _ h => nomatch h

theorem RowStandsFor.some (h : i.StandsFor compact b) : RowStandsFor (some i) compact b :=
  fun _ hi => Option.some.inj hi ▸ h

theorem RowStandsFor.ite (hx : p → RowStandsFor x compact b) (hy : ¬p → RowStandsFor y compact b) :
    RowStandsFor (if p then x else y) compact b := by
  split_ifs with h
  · exact hx h
  · exact hy h

end

/-! ## Fields put together again -/

/-- The highest field of an opcode. -/
theorem cat_zero_bits {b lo n : Nat} {y : BitVec n} (hb : b < 2 ^ (lo + n)) (h : bits b lo n = y) :
    cat 0 y = b >>> lo := by
  subst h
  rw [cat, bits, BitVec.toNat_ofNat, Nat.shiftRight_eq_div_pow, Nat.zero_mul, Nat.zero_add]
  exact Nat.mod_eq_of_lt (Nat.div_lt_of_lt_mul (by rwa [← Nat.pow_add]))

/-- A field below the fields above it. -/
theorem cat_shiftRight {b hi n : Nat} {y : BitVec n} (hn : n ≤ hi) (h : bits b (hi - n) n = y) :
    cat (b >>> hi) y = b >>> (hi - n) := by
  subst h
  obtain ⟨lo, rfl⟩ := Nat.exists_eq_add_of_le' hn
  rw [Nat.add_sub_cancel, cat, bits, BitVec.toNat_ofNat, Nat.shiftRight_add,
    Nat.shiftRight_eq_div_pow (b >>> lo), Nat.mul_comm]
  exact Nat.div_add_mod _ _

@[simp] theorem ofBool_flag (b lo : Nat) : BitVec.ofBool (flag b lo) = bits b lo 1 := by
  unfold flag
  generalize bits b lo 1 = x
  revert x
  decide

@[simp] theorem regBits_regOf (x : BitVec 4) : regBits (regOf x) = x := rfl
@[simp] theorem lregBits_lregOf (x : BitVec 3) : lregBits (lregOf x) = x := rfl

theorem eq_three_of_ne {x : BitVec 2} (h0 : x ≠ 0#2) (h1 : x ≠ 1#2) (h2 : x ≠ 2#2) : x = 3#2 := by bv_omega

theorem eq_seven_of_ne {x : BitVec 3} (h0 : x ≠ 0#3) (h1 : x ≠ 1#3) (h2 : x ≠ 2#3) (h3 : x ≠ 3#3)
    (h4 : x ≠ 4#3) (h5 : x ≠ 5#3) (h6 : x ≠ 6#3) : x = 7#3 := by bv_omega

/-- The rows of the test instructions lie in the status space, and have bit 20 set there (R137, R151). -/
theorem test_flag {b : Nat} (h : bits b 23 2 = 2#2 → flag b 20 = true) :
    (bits b 21 4 = 8#4 → flag b 20 = true) ∧ (bits b 21 4 = 9#4 → flag b 20 = true) ∧
      (bits b 21 4 = 10#4 → flag b 20 = true) ∧ (bits b 21 4 = 11#4 → flag b 20 = true) := by
  have high {x : BitVec 2} (hx : bits b 21 4 = 2#2 ++ x) : flag b 20 = true :=
    h (bits_append_eq (m := 2) (n := 2) |>.1 hx).1
  exact ⟨high (x := 0#2), high (x := 1#2), high (x := 2#2), high (x := 3#2)⟩

section
variable {c : Cond} {b : Nat} (hc : cat 0 c.toBits = b >>> 28)
include hc

theorem decodeMultiply_standsFor (h25 : bits b 25 3 = 0#3) (h4 : flag b 4 = true) (h7 : flag b 7 = true)
    (h5 : bits b 5 2 = 0#2) : RowStandsFor (decodeMultiply c b) false b := by
  unfold decodeMultiply
  repeat' refine .ite (fun _ => ?_) fun _ => ?_
  any_goals exact .none
  all_goals exact .some ⟨rfl, rfl, by simp [encodeNat, cat_shiftRight, eq_three_of_ne, bits_one_eq, *]⟩

theorem decodeHalfword_standsFor (h25 : bits b 25 3 = 0#3) (h4 : flag b 4 = true) (h7 : flag b 7 = true)
    (h5 : bits b 5 2 ≠ 0#2) : RowStandsFor (decodeHalfword c b) false b := by
  unfold decodeHalfword
  repeat' refine .ite (fun _ => ?_) fun _ => ?_
  any_goals exact .none
  all_goals exact .some ⟨rfl, rfl, by simp [encodeNat, cat_shiftRight, eq_three_of_ne, bits_one_eq, *]⟩

theorem decodeMisc_standsFor (h25 : bits b 25 3 = 0#3) (h23 : bits b 23 2 = 2#2) (h20 : flag b 20 = false) :
    RowStandsFor (decodeMisc c b) false b := by
  have h21 (h : bits b 20 2 ≠ 0#2) : bits b 20 2 = 2#2 := by
    rw [Ne, bits_two_eq_zero, and_iff_left h20, Bool.not_eq_false] at h
    exact bits_two_eq_two.2 ⟨h, h20⟩
  unfold decodeMisc
  repeat' refine .ite (fun _ => ?_) fun _ => ?_
  any_goals exact .none
  all_goals exact .some ⟨rfl, rfl, by simp [encodeNat, cat_shiftRight, bits_one_eq, *]⟩

section
variable (htest : bits b 23 2 = 2#2 → flag b 20 = true)
include htest

theorem decodeDpImm_standsFor (h25 : bits b 25 3 = 1#3) : RowStandsFor (decodeDpImm c b) false b := by
  have h20 := test_flag htest
  unfold decodeDpImm
  repeat' refine .ite (fun _ => ?_) fun _ => ?_
  any_goals exact .none
  all_goals exact .some ⟨rfl, rfl, by simp [encodeNat, cat_shiftRight, bits_one_eq, *]⟩

theorem decodeDpReg_standsFor (h25 : bits b 25 3 = 0#3) (h4 : flag b 4 = false) :
    RowStandsFor (decodeDpReg c b) false b := by
  have h20 := test_flag htest
  unfold decodeDpReg
  repeat' refine .ite (fun _ => ?_) fun _ => ?_
  any_goals exact .none
  all_goals exact .some ⟨rfl, rfl, by simp [encodeNat, cat_shiftRight, bits_one_eq, *]⟩

theorem decodeDpRsr_standsFor (h25 : bits b 25 3 = 0#3) (h4 : flag b 4 = true) (h7 : flag b 7 = false) :
    RowStandsFor (decodeDpRsr c b) false b := by
  have h20 := test_flag htest
  unfold decodeDpRsr
  repeat' refine .ite (fun _ => ?_) fun _ => ?_
  any_goals exact .none
  all_goals exact .some ⟨rfl, rfl, by simp [encodeNat, cat_shiftRight, bits_one_eq, *]⟩

end

theorem decodeTransferImm_standsFor (h25 : bits b 25 3 = 2#3) : RowStandsFor (decodeTransferImm c b) false b := by
  unfold decodeTransferImm
  repeat' refine .ite (fun _ => ?_) fun _ => ?_
  all_goals exact .some ⟨by simp [Instr.wf, plainTransfer, *], rfl,
    by simp [encodeNat, cat_shiftRight, bits_one_eq, *]⟩

theorem decodeTransferReg_standsFor (h25 : bits b 25 3 = 3#3) (h4 : flag b 4 = false) :
    RowStandsFor (decodeTransferReg c b) false b := by
  unfold decodeTransferReg
  repeat' refine .ite (fun _ => ?_) fun _ => ?_
  all_goals exact .some ⟨by simp [Instr.wf, plainTransfer, *], rfl,
    by simp [encodeNat, cat_shiftRight, bits_one_eq, *]⟩

theorem decodeCoprocessor_standsFor (h25 : bits b 25 3 = 7#3) : RowStandsFor (decodeCoprocessor c b) false b := by
  unfold decodeCoprocessor
  repeat' refine .ite (fun _ => ?_) fun _ => ?_
  all_goals exact .some ⟨by simp [Instr.wf, isWfi, *], rfl, by simp [encodeNat, cat_shiftRight, bits_one_eq, *]⟩

theorem decodeDpSpace_standsFor (h25 : bits b 25 3 = 0#3) (h : flag b 4 = false ∨ flag b 7 = false) :
    RowStandsFor (decodeDpSpace c b) false b := by
  have rows (htest : bits b 23 2 = 2#2 → flag b 20 = true) :
      RowStandsFor (if flag b 4 then decodeDpRsr c b else decodeDpReg c b) false b :=
    .ite (fun h4 => decodeDpRsr_standsFor hc htest h25 h4 (h.resolve_left (ne_false_of_eq_true h4)))
      fun h4 => decodeDpReg_standsFor hc htest h25 (Bool.eq_false_iff.2 h4)
  exact .ite
    (fun h23 => .ite (fun h20 => rows fun _ => h20) fun h20 =>
      decodeMisc_standsFor hc h25 h23 (Bool.eq_false_iff.2 h20))
    fun h23 => rows fun h => absurd h h23

theorem decodeClass0_standsFor (h25 : bits b 25 3 = 0#3) : RowStandsFor (decodeClass0 c b) false b :=
  .ite
    (fun h4 => .ite
      (fun h7 => .ite (decodeMultiply_standsFor hc h25 h4 h7) (decodeHalfword_standsFor hc h25 h4 h7))
      fun h7 => decodeDpSpace_standsFor hc h25 (.inr (Bool.eq_false_iff.2 h7)))
    fun h4 => decodeDpSpace_standsFor hc h25 (.inl (Bool.eq_false_iff.2 h4))

theorem decodeClass1_standsFor (h25 : bits b 25 3 = 1#3) : RowStandsFor (decodeClass1 c b) false b := by
  refine .ite (fun h23 => .ite (fun h20 => ?_) fun h20 =>
    .ite (fun h21 => .ite (fun h12 => ?_) fun _ => .none) fun _ => .none) fun h23 => ?_
  · exact decodeDpImm_standsFor hc (fun _ => h20) h25
  · exact .some ⟨rfl, rfl, by simp [encodeNat, cat_shiftRight, *]⟩
  · exact decodeDpImm_standsFor hc (fun h => absurd h h23) h25

theorem decodeDefined_standsFor : RowStandsFor (decodeDefined c b) false b := by
  refine .ite (decodeClass0_standsFor hc) fun h0 => .ite (decodeClass1_standsFor hc) fun h1 =>
    .ite (decodeTransferImm_standsFor hc) fun h2 => .ite
      (fun h3 => .ite (fun h4 => ?undSpace) fun h4 => decodeTransferReg_standsFor hc h3 (Bool.eq_false_iff.2 h4))
      fun h3 => .ite (fun h4 => .ite (fun _ => ?ldm) fun _ => ?stm) fun h4 =>
        .ite (fun h5 => .ite (fun _ => ?bl) fun _ => ?b) fun h5 =>
          .ite (fun h6 => .ite (fun _ => ?ldc) fun _ => ?stc) fun h6 =>
            decodeCoprocessor_standsFor hc (eq_seven_of_ne h0 h1 h2 h3 h4 h5 h6)
  all_goals exact .some ⟨rfl, rfl, by simp [encodeNat, cat_shiftRight, bits_one_eq, *]⟩

end
end Sys2Proof
end

section
/-! The full-variant words that no row matches but the catch-all one (family 30): they are those of
R152 items 2 to 4. -/

namespace Sys2Proof

/-- The space with `bits[7] = bits[4] = 1` (R136). -/
def InExtension (b : Nat) : Prop := flag b 4 = true ∧ flag b 7 = true

/-- R152 item 2, within that space: no multiply, multiply long, swap, halfword or signed transfer. -/
def NoExtensionRow (b : Nat) : Prop :=
  (bits b 5 2 = 0#2 ∧ ¬(bits b 23 2 = 0#2 ∧ flag b 22 = false) ∧ bits b 23 2 ≠ 1#2 ∧
    ¬(bits b 23 2 = 2#2 ∧ bits b 20 2 = 0#2 ∧ bits b 8 4 = 0#4)) ∨
  ((bits b 5 2 = 2#2 ∨ bits b 5 2 = 3#2) ∧ flag b 20 = false)

/-- R152 item 3, outside of it: the status space, and no `MRS`, `MSR` register, `BX`. -/
def NoStatusRow (b : Nat) : Prop :=
  bits b 23 2 = 2#2 ∧ flag b 20 = false ∧
  ¬(flag b 21 = false ∧ bits b 16 4 = 15#4 ∧ bits b 8 4 = 0#4 ∧ bits b 4 4 = 0#4 ∧ bits b 0 4 = 0#4) ∧
  ¬(flag b 21 = true ∧ bits b 12 4 = 15#4 ∧ bits b 8 4 = 0#4 ∧ bits b 4 4 = 0#4) ∧
  ¬(flag b 22 = false ∧ flag b 21 = true ∧ bits b 16 4 = 15#4 ∧ bits b 12 4 = 15#4 ∧ bits b 8 4 = 15#4 ∧
    bits b 4 4 = 1#4)

/-- R152 item 4: the status space with an immediate, and no `MSR` immediate. -/
def NoImmediateRow (b : Nat) : Prop :=
  bits b 23 2 = 2#2 ∧ flag b 20 = false ∧ ¬(flag b 21 = true ∧ bits b 12 4 = 15#4)

theorem undefinedBody_iff (b : Nat) : undefinedBody (BitVec.ofNat 28 b) = true ↔
    (bits b 25 3 = 0#3 ∧ (InExtension b ∧ NoExtensionRow b ∨ ¬InExtension b ∧ NoStatusRow b)) ∨
      (bits b 25 3 = 1#3 ∧ NoImmediateRow b) := by
  have field (lo len : Nat) (hl : lo + len ≤ 28) : bits (BitVec.ofNat 28 b).toNat lo len = bits b lo len :=
    bits_toNat_ofNat b 28 lo len hl
  have flagField (lo : Nat) (hl : lo + 1 ≤ 28) : flag (BitVec.ofNat 28 b).toNat lo = flag b lo := by
    rw [flag, field lo 1 hl, flag]
  have h12 : bits b 0 12 = 0#12 ↔ _ := bits_twelve_eq (x := 0#4) (y := 0#4) (z := 0#4)
  have h48 : bits b 4 8 = 0#8 ↔ _ := bits_eight_eq (x := 0#4) (y := 0#4)
  have h416 : bits b 4 16 = 65521#16 ↔ _ := bits_sixteen_eq (x := 15#4) (y := 15#4) (z := 15#4) (w := 1#4)
  simp only [undefinedBody, field, flagField, Nat.reduceAdd, Nat.reduceLeDiff, Bool.or_eq_true, Bool.and_eq_true,
    beq_iff_eq, Bool.not_eq_true', ← Bool.not_eq_true, bits_three_eq_zero (lo := 22), h12, h48, h416, ne_eq,
    InExtension, NoExtensionRow, NoStatusRow, NoImmediateRow, and_assoc, not_or, ← and_or_left]

section
variable {c : Cond} {b : Nat}

theorem decodeMultiply_none (h5 : bits b 5 2 = 0#2) (h : decodeMultiply c b = none) : NoExtensionRow b := by
  unfold decodeMultiply at h
  split_ifs at h <;> simp [NoExtensionRow, *]

theorem decodeHalfword_none (h5 : bits b 5 2 ≠ 0#2) (h : decodeHalfword c b = none) : NoExtensionRow b := by
  unfold decodeHalfword at h
  split_ifs at h <;> simp [NoExtensionRow, eq_three_of_ne, *]

theorem decodeMisc_none (h23 : bits b 23 2 = 2#2) (h20 : flag b 20 = false) (h : decodeMisc c b = none) :
    NoStatusRow b := by
  unfold decodeMisc at h
  split_ifs at h <;> simp_all [NoStatusRow, bits_two_eq_zero]

theorem ite_ne_none {p : Prop} [Decidable p] {i : Instr} {y : Option Instr} (hy : ¬p → y ≠ none) :
    (if p then some i else y) ≠ none := by
  split_ifs with h
  · exact Option.some_ne_none i
  · exact hy h

/-- Every code of the sixteen opcodes has a row (R137). -/
theorem decodeDpImm_ne_none : decodeDpImm c b ≠ none := by
  unfold decodeDpImm
  repeat' refine ite_ne_none fun _ => ?_
  exfalso
  bv_omega

theorem decodeDpReg_ne_none : decodeDpReg c b ≠ none := by
  unfold decodeDpReg
  repeat' refine ite_ne_none fun _ => ?_
  exfalso
  bv_omega

theorem decodeDpRsr_ne_none : decodeDpRsr c b ≠ none := by
  unfold decodeDpRsr
  repeat' refine ite_ne_none fun _ => ?_
  exfalso
  bv_omega

theorem decodeClass1_none (h : decodeClass1 c b = none) : NoImmediateRow b := by
  unfold decodeClass1 at h
  split_ifs at h <;> simp_all [NoImmediateRow, decodeDpImm_ne_none, bits_two_eq_two]

theorem decodeDpSpace_none (h : decodeDpSpace c b = none) : NoStatusRow b := by
  unfold decodeDpSpace at h
  split_ifs at h with h23 h20
  · exact absurd h decodeDpRsr_ne_none
  · exact absurd h decodeDpReg_ne_none
  · exact decodeMisc_none h23 (Bool.eq_false_iff.2 h20) h
  · exact absurd h decodeDpRsr_ne_none
  · exact absurd h decodeDpReg_ne_none

theorem decodeClass0_none (h : decodeClass0 c b = none) :
    InExtension b ∧ NoExtensionRow b ∨ ¬InExtension b ∧ NoStatusRow b := by
  unfold decodeClass0 at h
  split_ifs at h with h4 h7 h5
  · exact .inl ⟨⟨h4, h7⟩, decodeMultiply_none h5 h⟩
  · exact .inl ⟨⟨h4, h7⟩, decodeHalfword_none h5 h⟩
  · exact .inr ⟨fun hx => h7 hx.2, decodeDpSpace_none h⟩
  · exact .inr ⟨fun hx => h4 hx.1, decodeDpSpace_none h⟩

theorem decodeTransferImm_ne_none : decodeTransferImm c b ≠ none := by
  unfold decodeTransferImm
  split_ifs <;> exact Option.some_ne_none _

theorem decodeTransferReg_ne_none : decodeTransferReg c b ≠ none := by
  unfold decodeTransferReg
  split_ifs <;> exact Option.some_ne_none _

theorem decodeCoprocessor_ne_none : decodeCoprocessor c b ≠ none := by
  unfold decodeCoprocessor
  split_ifs <;> exact Option.some_ne_none _

/-- A word no row matches is one of R152. -/
theorem undefinedBody_of_decodeDefined (h : decodeDefined c b = none) : undefinedBody (BitVec.ofNat 28 b) = true := by
  rw [undefinedBody_iff]
  unfold decodeDefined at h
  split_ifs at h with h0 h1 h2 h3 h4 h5 h6
  · exact .inl ⟨h0, decodeClass0_none h⟩
  · exact .inr ⟨h1, decodeClass1_none h⟩
  · exact absurd h decodeTransferImm_ne_none
  · exact absurd h decodeTransferReg_ne_none
  · exact absurd h decodeCoprocessor_ne_none

end

end Sys2Proof
end

section
/-! Every word of either variant decodes to a well-formed instruction that encodes back to it (family 30). -/

namespace Sys2Proof

theorem eq_fifteen_of_ne {x : BitVec 4} (h0 : x ≠ 0#4) (h1 : x ≠ 1#4) (h2 : x ≠ 2#4) (h3 : x ≠ 3#4)
    (h4 : x ≠ 4#4) (h5 : x ≠ 5#4) (h6 : x ≠ 6#4) (h7 : x ≠ 7#4) (h8 : x ≠ 8#4) (h9 : x ≠ 9#4)
    (h10 : x ≠ 10#4) (h11 : x ≠ 11#4) (h12 : x ≠ 12#4) (h13 : x ≠ 13#4) (h14 : x ≠ 14#4) : x = 15#4 := by bv_omega

@[simp] theorem regHigh_regJoin (h : BitVec 1) (l : BitVec 3) : regHigh (regJoin h l) = h := by revert h l; decide
@[simp] theorem regLow_regJoin (h : BitVec 1) (l : BitVec 3) : regLow (regJoin h l) = l := by revert h l; decide

theorem Cond.ofBits_eq_al : ∀ x : BitVec 4, Cond.ofBits x = .al ↔ x = 14#4 := by decide
theorem Cond.ofBits_eq_nv : ∀ x : BitVec 4, Cond.ofBits x = .nv ↔ x = 15#4 := by decide

/-! ## Every full-variant word (R130, R135) -/

theorem cat_zero_cond {b : Nat} (hb : b < 2 ^ 32) : cat 0 (Cond.ofBits (bits b 28 4)).toBits = b >>> 28 :=
  cat_zero_bits hb (Cond.toBits_ofBits _).symm

theorem decodeWord_standsFor (w : Word) : (decodeWord w).StandsFor false w.toNat := by
  have hc := cat_zero_cond w.isLt
  unfold decodeWord
  dsimp only
  cases h : decodeDefined (Cond.ofBits (bits w.toNat 28 4)) w.toNat with
  | some i => exact decodeDefined_standsFor hc i h
  | none =>
    refine ⟨undefinedBody_of_decodeDefined h, rfl, ?_⟩
    rw [Option.getD_none, encodeNat, hc, cat_shiftRight (by decide) rfl]
    rfl

/-! ## Every compact word (R130, R135) -/

section
variable {b : Nat} (hb : b < 2 ^ 16)
include hb

theorem decodeFormat1And2_standsFor (h13 : bits b 13 3 = 0#3) : RowStandsFor (decodeFormat1And2 b) true b := by
  have top := cat_zero_bits hb h13
  unfold decodeFormat1And2
  repeat' refine .ite (fun _ => ?_) fun _ => ?_
  all_goals exact .some ⟨rfl, rfl, by simp [encodeNat, cat_shiftRight, eq_three_of_ne, bits_one_eq, *]⟩

theorem decodeFormat3_standsFor (h13 : bits b 13 3 = 1#3) : RowStandsFor (decodeFormat3 b) true b := by
  have top := cat_zero_bits hb h13
  unfold decodeFormat3
  repeat' refine .ite (fun _ => ?_) fun _ => ?_
  all_goals exact .some ⟨rfl, rfl, by simp [encodeNat, cat_shiftRight, eq_three_of_ne, *]⟩

theorem decodeFormat4_standsFor (h13 : bits b 13 3 = 2#3) (h12 : flag b 12 = false) (h11 : flag b 11 = false)
    (h10 : flag b 10 = false) : RowStandsFor (decodeFormat4 b) true b := by
  have top := cat_zero_bits hb h13
  unfold decodeFormat4
  repeat' refine .ite (fun _ => ?_) fun _ => ?_
  all_goals exact .some ⟨rfl, rfl, by simp [encodeNat, cat_shiftRight, eq_fifteen_of_ne, bits_one_eq, *]⟩

theorem decodeFormat5_standsFor (h13 : bits b 13 3 = 2#3) (h12 : flag b 12 = false) (h11 : flag b 11 = false)
    (h10 : flag b 10 = true) : RowStandsFor (decodeFormat5 b) true b := by
  have top := cat_zero_bits hb h13
  unfold decodeFormat5
  repeat' refine .ite (fun _ => ?_) fun _ => ?_
  any_goals exact .none
  all_goals exact .some ⟨rfl, rfl, by simp [encodeNat, cat_shiftRight, eq_three_of_ne, bits_one_eq, *]⟩

theorem decodeFormat7And8_standsFor (h13 : bits b 13 3 = 2#3) (h12 : flag b 12 = true) :
    RowStandsFor (decodeFormat7And8 b) true b := by
  have top := cat_zero_bits hb h13
  unfold decodeFormat7And8
  repeat' refine .ite (fun _ => ?_) fun _ => ?_
  all_goals exact .some ⟨rfl, rfl, by simp [encodeNat, cat_shiftRight, eq_three_of_ne, bits_one_eq, *]⟩

theorem decodeGroup2_standsFor (h13 : bits b 13 3 = 2#3) : RowStandsFor (decodeGroup2 b) true b := by
  have top := cat_zero_bits hb h13
  refine .ite (decodeFormat7And8_standsFor hb h13) fun h12 => .ite (fun h11 => ?_) fun h11 =>
    .ite (fun h10 => ?_) fun h10 => ?_
  · exact .some ⟨rfl, rfl, by simp [encodeNat, cat_shiftRight, bits_one_eq, *]⟩
  · exact decodeFormat5_standsFor hb h13 (Bool.eq_false_iff.2 h12) (Bool.eq_false_iff.2 h11) h10
  · exact decodeFormat4_standsFor hb h13 (Bool.eq_false_iff.2 h12) (Bool.eq_false_iff.2 h11) (Bool.eq_false_iff.2 h10)

theorem decodeFormat9_standsFor (h13 : bits b 13 3 = 3#3) : RowStandsFor (decodeFormat9 b) true b := by
  have top := cat_zero_bits hb h13
  unfold decodeFormat9
  repeat' refine .ite (fun _ => ?_) fun _ => ?_
  all_goals exact .some ⟨rfl, rfl, by simp [encodeNat, cat_shiftRight, eq_three_of_ne, *]⟩

theorem decodeFormat10And11_standsFor (h13 : bits b 13 3 = 4#3) : RowStandsFor (decodeFormat10And11 b) true b := by
  have top := cat_zero_bits hb h13
  unfold decodeFormat10And11
  repeat' refine .ite (fun _ => ?_) fun _ => ?_
  all_goals exact .some ⟨rfl, rfl, by simp [encodeNat, cat_shiftRight, bits_one_eq, *]⟩

theorem decodeFormat12To14_standsFor (h13 : bits b 13 3 = 5#3) : RowStandsFor (decodeFormat12To14 b) true b := by
  have top := cat_zero_bits hb h13
  have h8 (h9 : bits b 9 2 = 0#2) (h11 : ¬flag b 11 = true) (h8 : ¬flag b 8 = true) : bits b 8 4 = 0#4 :=
    (bits_append_eq (m := 1) (n := 3) (x := 0#1) (y := 0#3)).2
      ⟨(bits_one_eq b 11).2.2 (Bool.eq_false_iff.2 h11), bits_three_eq_zero.2 ⟨h9, Bool.eq_false_iff.2 h8⟩⟩
  unfold decodeFormat12To14
  repeat' refine .ite (fun _ => ?_) fun _ => ?_
  any_goals exact .none
  all_goals exact .some ⟨rfl, rfl, by simp [encodeNat, cat_shiftRight, bits_one_eq, *]⟩

theorem decodeFormat15To17_standsFor (h13 : bits b 13 3 = 6#3) : RowStandsFor (decodeFormat15To17 b) true b := by
  have top := cat_zero_bits hb h13
  unfold decodeFormat15To17
  repeat' refine .ite (fun _ => ?_) fun _ => ?_
  all_goals exact .some ⟨by simp [Instr.wf, Cond.ofBits_eq_al, Cond.ofBits_eq_nv, *], rfl,
    by simp [encodeNat, cat_shiftRight, bits_one_eq, *]⟩

theorem decodeFormat18And19_standsFor (h13 : bits b 13 3 = 7#3) : RowStandsFor (decodeFormat18And19 b) true b := by
  have top := cat_zero_bits hb h13
  unfold decodeFormat18And19
  repeat' refine .ite (fun _ => ?_) fun _ => ?_
  any_goals exact .none
  all_goals exact .some ⟨rfl, rfl, by simp [encodeNat, cat_shiftRight, eq_three_of_ne, *]⟩

theorem decodeDefinedHalf_standsFor : RowStandsFor (decodeDefinedHalf b) true b :=
  .ite (decodeFormat1And2_standsFor hb) fun h0 => .ite (decodeFormat3_standsFor hb) fun h1 =>
    .ite (decodeGroup2_standsFor hb) fun h2 => .ite (decodeFormat9_standsFor hb) fun h3 =>
      .ite (decodeFormat10And11_standsFor hb) fun h4 => .ite (decodeFormat12To14_standsFor hb) fun h5 =>
        .ite (decodeFormat15To17_standsFor hb) fun h6 =>
          decodeFormat18And19_standsFor hb (eq_seven_of_ne h0 h1 h2 h3 h4 h5 h6)

end

theorem upperBits_of_decodeDefinedHalf : ∀ k : Fin 512, (decodeDefinedHalf (cat k.val 0#7)).isNone = true →
    (0x162 ≤ k.val ∧ k.val ≤ 0x167 ∨ 0x16C ≤ k.val ∧ k.val ≤ 0x177 ∨
      0x17C ≤ k.val ∧ k.val ≤ 0x17F ∨ 0x1D0 ≤ k.val ∧ k.val ≤ 0x1DF ∨ k.val = 0x8F) := by
  decide +kernel

theorem cat_upper_lower (n : Nat) : cat (n / 128) (BitVec.ofNat 7 n) = n := by
  change n / 128 * 128 + n % 128 = n
  omega

theorem undefinedHalf_of_decodeDefinedHalf {h : Half} (hn : decodeDefinedHalf h.toNat = none) :
    undefinedHalf h = true := by
  have hlt := h.isLt
  rw [← cat_upper_lower h.toNat, ← Option.isNone_iff_eq_none, decodeDefinedHalf_isNone_cat] at hn
  have hk := upperBits_of_decodeDefinedHalf ⟨h.toNat / 128, by omega⟩ hn
  simp only [undefinedHalf, Bool.or_eq_true, Bool.and_eq_true, decide_eq_true_iff]
  dsimp only at hk
  omega

theorem decodeHalf_standsFor (h : Half) : (decodeHalf h).StandsFor true h.toNat := by
  unfold decodeHalf
  cases hd : decodeDefinedHalf h.toNat with
  | some i => exact decodeDefinedHalf_standsFor h.isLt i hd
  | none => exact ⟨undefinedHalf_of_decodeDefinedHalf hd, rfl,
      by rw [Option.getD_none, encodeNat, cat, Nat.zero_mul, Nat.zero_add]⟩

/-- Settles O2: a word matches a row, whose fields encode back to it, or is one of the undefined words. -/
theorem decodeEncode : Obligations.DecodeEncode := by
  refine ⟨fun w => ?_, fun h => ?_⟩
  · obtain ⟨hwf, hvariant, hopcode⟩ := decodeWord_standsFor w
    exact ⟨hwf, hvariant, by rw [encodeWord, hopcode, BitVec.ofNat_toNat, BitVec.setWidth_eq]⟩
  · obtain ⟨hwf, hvariant, hopcode⟩ := decodeHalf_standsFor h
    exact ⟨hwf, hvariant, by rw [encodeHalf, hopcode, BitVec.ofNat_toNat, BitVec.setWidth_eq]⟩

end Sys2Proof
end

section
/-! The undefined words of both variants as the spec lists them (family 30). -/

namespace Sys2Proof

/-! ## Masks and fields (R152) -/

/-- The fields the full-variant formats are cut into: first bit and length. -/
def wordFields : List (Nat × Nat) :=
  [(25, 3), (24, 1), (23, 1), (22, 1), (21, 1), (20, 1), (16, 4), (12, 4),
    (8, 4), (7, 1), (5, 2), (4, 1), (0, 4), (28, 4)]

/-- A masked comparison of a word is one of each of its fields. -/
theorem and_eq_iff_fields (w M V : Word) : w &&& M = V ↔
    ∀ p ∈ wordFields, bits w.toNat p.1 p.2 &&& M.extractLsb' p.1 p.2 = V.extractLsb' p.1 p.2 := by
  constructor
  · rintro rfl p -
    exact BitVec.extractLsb'_and.symm
  · intro h
    apply BitVec.eq_of_getLsbD_eq
    intro i hi
    have covered : ∀ i < 32, ∃ p ∈ wordFields, p.1 ≤ i ∧ i < p.1 + p.2 := by decide
    obtain ⟨p, hp, hlo, hhi⟩ := covered i hi
    have field := congrArg (fun x => x.getLsbD (i - p.1)) ((BitVec.extractLsb'_and (x := w)).trans (h p hp))
    simpa [BitVec.getLsbD_extractLsb', Nat.add_sub_cancel' hlo, show i - p.1 < p.2 by omega] using field

@[simp] theorem and_one_bits (x : BitVec 1) : x &&& 1#1 = x := by revert x; decide
@[simp] theorem and_two_bits (x : BitVec 2) : x &&& 3#2 = x := by revert x; decide
@[simp] theorem and_three_bits (x : BitVec 3) : x &&& 7#3 = x := by revert x; decide
@[simp] theorem and_four_bits (x : BitVec 4) : x &&& 15#4 = x := by revert x; decide

theorem bits_four_eq_zero {b lo : Nat} : bits b lo 4 = 0#4 ↔
    flag b (lo + 3) = false ∧ bits b (lo + 1) 2 = 0#2 ∧ flag b lo = false := by
  rw [← (bits_one_eq b _).2, ← bits_three_eq_zero]
  exact bits_append_eq (m := 1) (n := 3) (x := 0#1) (y := 0#3)

theorem bits_four_eq_one {b lo : Nat} : bits b lo 4 = 1#4 ↔
    flag b (lo + 3) = false ∧ bits b (lo + 1) 2 = 0#2 ∧ flag b lo = true := by
  rw [← (bits_one_eq b _).2, ← (bits_one_eq b lo).1]
  refine (bits_append_eq (m := 1) (n := 3) (x := 0#1) (y := 1#3)).trans (and_congr_right' ?_)
  exact bits_append_eq (m := 2) (n := 1) (x := 0#2) (y := 1#1)

theorem bits_two_eq_one {b lo : Nat} : bits b lo 2 = 1#2 ↔ flag b (lo + 1) = false ∧ flag b lo = true := by
  rw [← (bits_one_eq b _).2, ← (bits_one_eq b lo).1]
  exact bits_append_eq (m := 1) (n := 1) (x := 0#1) (y := 1#1)

theorem cases_two_bits : ∀ x : BitVec 2, x = 0#2 ∨ x = 1#2 ∨ x = 2#2 ∨ x = 3#2 := by decide

section
variable (w : Word)

/-- R152 item 1. -/
theorem undSpaceMask_iff : w &&& 0x0E000010 = 0x06000010 ↔ bits w.toNat 25 3 = 3#3 ∧ flag w.toNat 4 = true := by
  simp [and_eq_iff_fields, wordFields, bits_one_eq]

/-- R152 item 2. -/
theorem extensionMasks_iff :
    (w &&& 0x0E000090 = 0x00000090 ∧ w &&& 0x0FC000F0 ≠ 0x00000090 ∧ w &&& 0x0F8000F0 ≠ 0x00800090 ∧
      w &&& 0x0FB00FF0 ≠ 0x01000090 ∧ w &&& 0x0E1000F0 ≠ 0x001000B0 ∧ w &&& 0x0E1000F0 ≠ 0x001000D0 ∧
      w &&& 0x0E1000F0 ≠ 0x001000F0 ∧ w &&& 0x0E1000F0 ≠ 0x000000B0) ↔
    bits w.toNat 25 3 = 0#3 ∧ InExtension w.toNat ∧ NoExtensionRow w.toNat := by
  simp only [BitVec.ofNat_eq_ofNat, and_eq_iff_fields, wordFields, List.mem_cons, List.not_mem_nil, or_false,
    forall_eq_or_imp, forall_eq, BitVec.reduceExtractLsb', BitVec.and_zero, and_one_bits, and_two_bits,
    and_three_bits, and_four_bits, bits_one_eq, and_self, and_true, true_and, ne_eq, not_and,
    Bool.not_eq_true, Bool.not_eq_false, and_imp, InExtension, NoExtensionRow, bits_two_eq_zero (lo := 23),
    bits_two_eq_one (lo := 23), bits_two_eq_two (lo := 23), bits_two_eq_zero (lo := 20), Nat.reduceAdd]
  rcases cases_two_bits (bits w.toNat 5 2) with h5 | h5 | h5 | h5 <;> grind

/-- R152 item 3; the words of its masks with `bits[7] = bits[4] = 1` are words of item 2. -/
theorem statusMasks_iff :
    (w &&& 0x0F900000 = 0x01000000 ∧ w &&& 0x0FBF0FFF ≠ 0x010F0000 ∧ w &&& 0x0FB0FFF0 ≠ 0x0120F000 ∧
      w &&& 0x0FFFFFF0 ≠ 0x012FFF10 ∧ w &&& 0x0FB00FF0 ≠ 0x01000090 ∧ w &&& 0x0E1000F0 ≠ 0x000000B0) ↔
    bits w.toNat 25 3 = 0#3 ∧ (¬InExtension w.toNat ∧ NoStatusRow w.toNat ∨
      InExtension w.toNat ∧ NoExtensionRow w.toNat ∧ bits w.toNat 23 2 = 2#2 ∧ flag w.toNat 20 = false) := by
  simp only [BitVec.ofNat_eq_ofNat, and_eq_iff_fields, wordFields, List.mem_cons, List.not_mem_nil, or_false,
    forall_eq_or_imp, forall_eq, BitVec.reduceExtractLsb', BitVec.and_zero, and_one_bits, and_two_bits,
    and_three_bits, and_four_bits, bits_one_eq, and_self, and_true, true_and, ne_eq, not_and,
    Bool.not_eq_true, Bool.not_eq_false, and_imp, InExtension, NoExtensionRow, NoStatusRow,
    bits_two_eq_zero (lo := 23), bits_two_eq_one (lo := 23), bits_two_eq_two (lo := 23), bits_two_eq_zero (lo := 20),
    bits_four_eq_zero (lo := 4), bits_four_eq_one (lo := 4), Nat.reduceAdd]
  rcases cases_two_bits (bits w.toNat 5 2) with h5 | h5 | h5 | h5 <;> grind

/-- R152 item 4. -/
theorem immediateMasks_iff :
    (w &&& 0x0F900000 = 0x03000000 ∧ w &&& 0x0FB0F000 ≠ 0x0320F000) ↔
    bits w.toNat 25 3 = 1#3 ∧ NoImmediateRow w.toNat := by
  simp only [BitVec.ofNat_eq_ofNat, and_eq_iff_fields, wordFields, List.mem_cons, List.not_mem_nil, or_false,
    forall_eq_or_imp, forall_eq, BitVec.reduceExtractLsb', BitVec.and_zero, and_one_bits, and_three_bits,
    and_four_bits, bits_one_eq, and_self, and_true, true_and, ne_eq, not_and, NoImmediateRow, bits_two_eq_two, Nat.reduceAdd]
  grind

/-! ## The undefined rows of the full variant -/

theorem decodeWord_undSpace_iff :
    (∃ c hi lo, decodeWord w = .undSpace c hi lo) ↔ bits w.toNat 25 3 = 3#3 ∧ flag w.toNat 4 = true := by
  constructor
  · rintro ⟨c, hi, lo, h⟩
    have hopcode := (decodeWord_standsFor w).opcode
    rw [h] at hopcode
    rw [← hopcode]
    simp [encodeNat, flag, bits_cat_high, bits_cat_piece]
  · rintro ⟨h25, h4⟩
    exact ⟨_, _, _, by simp only [decodeWord, decodeDefined, h25, h4]; rfl⟩

theorem decodeWord_undOther_iff :
    (∃ c body, decodeWord w = .undOther c body) ↔ undefinedBody (BitVec.ofNat 28 w.toNat) = true := by
  constructor
  · rintro ⟨c, body, h⟩
    obtain ⟨hwf, -, hopcode⟩ := decodeWord_standsFor w
    rw [h] at hwf hopcode
    have hbody : bits w.toNat 0 28 = body := by
      rw [← hopcode, encodeNat, bits_cat_piece _ _ _ _ (by decide), BitVec.extractLsb'_eq_self]
    exact (congrArg undefinedBody hbody).trans hwf
  · intro h
    exact ⟨_, _, by rw [decodeWord, decodeDefined_of_undefinedBody _ h]; rfl⟩

end

/-- Settles O4: the masks of each item say the fields by which the decoder finds no defined row. -/
theorem undefinedWords : Obligations.UndefinedWords := by
  intro w
  rw [decodeWord_undSpace_iff, decodeWord_undOther_iff, undefinedBody_iff, undSpaceMask_iff, extensionMasks_iff,
    statusMasks_iff, immediateMasks_iff]
  tauto

/-! ## The undefined rows of the compact variant -/

open Machine

theorem decodeHalf_encodeHalf {i : Instr} (hw : i.wf = true) (hc : i.isCompact = true) :
    decodeHalf (encodeHalf i) = i := by
  have hread := decode_encode hw
  rwa [hc, if_pos rfl] at hread

theorem encodeNat_tUndCond (x : BitVec 8) : encodeNat (.tUndCond x) = 0xDE * 2 ^ 8 + x.toNat := by
  simp only [encodeNat, cat]
  rfl

theorem decodeHalf_tUndCond_iff (h : Half) :
    (∃ x, decodeHalf h = .tUndCond x) ↔ 0xDE00 ≤ h.toNat ∧ h.toNat ≤ 0xDEFF := by
  constructor
  · rintro ⟨x, hx⟩
    have hopcode := (decodeHalf_standsFor h).opcode
    rw [hx, encodeNat_tUndCond] at hopcode
    omega
  · intro hr
    have hopcode : encodeHalf (.tUndCond (BitVec.ofNat 8 h.toNat)) = h := by
      apply BitVec.eq_of_toNat_eq
      rw [encodeHalf, encodeNat_tUndCond, BitVec.toNat_ofNat, BitVec.toNat_ofNat]
      omega
    have hread := decodeHalf_encodeHalf (i := .tUndCond (BitVec.ofNat 8 h.toNat)) rfl rfl
    rw [hopcode] at hread
    exact ⟨_, hread⟩

theorem decodeHalf_tUndOther_iff (h : Half) : (∃ x, decodeHalf h = .tUndOther x) ↔ undefinedHalf h = true := by
  constructor
  · rintro ⟨x, hx⟩
    obtain ⟨hwf, -, hopcode⟩ := decodeHalf_standsFor h
    rw [hx] at hwf hopcode
    have hword : x = h := BitVec.eq_of_toNat_eq (by rwa [encodeNat, cat, Nat.zero_mul, Nat.zero_add] at hopcode)
    exact hword ▸ hwf
  · intro hu
    exact ⟨h, by rw [decodeHalf, decodeDefinedHalf_of_undefinedHalf hu]; rfl⟩

/-- Settles O5: the two undefined rows of the compact variant are exactly the listed ranges, and their meaning is the
undefined-instruction exception. -/
theorem undefinedHalfwords : Obligations.UndefinedHalfwords := by
  intro h
  refine ⟨?_, fun s ht hu => ?_⟩
  · rw [decodeHalf_tUndCond_iff, decodeHalf_tUndOther_iff]
    simp only [undefinedHalf, Bool.or_eq_true, Bool.and_eq_true, decide_eq_true_iff, BitVec.le_def,
      BitVec.toNat_ofNat, BitVec.ofNat_eq_ofNat, Nat.reducePow, Nat.reduceMod]
    tauto
  · have entered := s.takeUndefined_entered
    have hstep : s.step = 2 := by rw [State.step, ht]; rfl
    rw [hstep] at entered
    rcases hu with ⟨x, hx⟩ | ⟨x, hx⟩ <;> exact ⟨s.takeUndefined, by rw [hx]; rfl, entered⟩

end Sys2Proof
end

section
/-! The condition table and where its codes stand (family 30). -/

namespace Sys2Proof.Machine

/-- R134, code by code. -/
theorem condHolds_table (p : Cpsr) :
    (condHolds (Cond.ofBits 0b0000) p = true ↔ p.z = true) ∧
    (condHolds (Cond.ofBits 0b0001) p = true ↔ p.z = false) ∧
    (condHolds (Cond.ofBits 0b0010) p = true ↔ p.c = true) ∧
    (condHolds (Cond.ofBits 0b0011) p = true ↔ p.c = false) ∧
    (condHolds (Cond.ofBits 0b0100) p = true ↔ p.n = true) ∧
    (condHolds (Cond.ofBits 0b0101) p = true ↔ p.n = false) ∧
    (condHolds (Cond.ofBits 0b0110) p = true ↔ p.v = true) ∧
    (condHolds (Cond.ofBits 0b0111) p = true ↔ p.v = false) ∧
    (condHolds (Cond.ofBits 0b1000) p = true ↔ p.c = true ∧ p.z = false) ∧
    (condHolds (Cond.ofBits 0b1001) p = true ↔ p.c = false ∨ p.z = true) ∧
    (condHolds (Cond.ofBits 0b1010) p = true ↔ p.n = p.v) ∧
    (condHolds (Cond.ofBits 0b1011) p = true ↔ p.n ≠ p.v) ∧
    (condHolds (Cond.ofBits 0b1100) p = true ↔ p.z = false ∧ p.n = p.v) ∧
    (condHolds (Cond.ofBits 0b1101) p = true ↔ p.z = true ∨ p.n ≠ p.v) ∧
    condHolds (Cond.ofBits 0b1110) p = true ∧ condHolds (Cond.ofBits 0b1111) p = false := by
  simp [Cond.ofBits, condHolds]

/-- The upper four bits of a full-variant opcode are its condition's code. -/
theorem bits_encodeNat_cond {i : Instr} {c : Cond} (h : i.cond = some c) : bits (encodeNat i) 28 4 = c.toBits := by
  cases i <;> cases h
  all_goals simp only [encodeNat, bits_cat_high, bits_cat_piece, Nat.reduceLeDiff, Nat.reduceSub, Nat.reduceAdd,
    BitVec.extractLsb'_eq_self]

theorem cond_of_full {i : Instr} (h : i.isCompact = false) : ∃ c, i.cond = some c := by
  cases i <;> cases h
  all_goals exact ⟨_, rfl⟩

theorem decodeWord_cond (w : Word) : (decodeWord w).cond = some (Cond.ofBits (w.extractLsb' 28 4)) := by
  obtain ⟨-, hvariant, hopcode⟩ := decodeWord_standsFor w
  obtain ⟨c, hc⟩ := cond_of_full hvariant
  have hbits : w.extractLsb' 28 4 = c.toBits := by
    rw [← bits_encodeNat_cond hc, hopcode]
    rfl
  rw [hc, hbits, Cond.ofBits_toBits]

theorem toNat_append_eq_cat {m n : Nat} (x : BitVec m) (y : BitVec n) : (x ++ y).toNat = cat x.toNat y := by
  rw [BitVec.toNat_append, ← Nat.shiftLeft_add_eq_or_of_lt y.isLt, Nat.shiftLeft_eq, cat]

/-- A compact opcode written as its upper and its lower byte. -/
theorem decodeHalf_append {k x : BitVec 8} {i : Instr} (hw : i.wf = true) (hc : i.isCompact = true)
    (hi : encodeNat i = cat k.toNat x) : decodeHalf (k ++ x) = i := by
  have hopcode : encodeHalf i = k ++ x := by
    rw [encodeHalf, hi, ← toNat_append_eq_cat, BitVec.ofNat_toNat, BitVec.setWidth_eq]
  rw [← hopcode, decodeHalf_encodeHalf hw hc]

theorem wf_tBcond (k : BitVec 4) (imm8 : BitVec 8) (hk : k < 14) : (Instr.tBcond (Cond.ofBits k) imm8).wf = true := by
  change (Cond.ofBits k != .al && Cond.ofBits k != .nv) = true
  revert k
  decide

/-- Settles O6: the field's code is the upper four bits of the opcode, which the decoder reads back in both
variants. -/
theorem conditionTable : Obligations.ConditionTable := by
  refine ⟨condHolds_table, decodeWord_cond, fun k imm8 hk => ?_, fun imm8 => ⟨?_, ?_⟩⟩
  · refine decodeHalf_append (k := 0xD#4 ++ k) (wf_tBcond k imm8 hk) rfl ?_
    rw [toNat_append_eq_cat, encodeNat, Cond.toBits_ofBits]
    rfl
  · exact decodeHalf_append rfl rfl (by rw [encodeNat]; rfl)
  · exact decodeHalf_append rfl rfl (by rw [encodeNat]; rfl)

end Sys2Proof.Machine
end

section
/-! Operand2 (family 30): the rotated immediate, and the register shifted by an immediate amount or by a register. -/

namespace Sys2Proof.Machine

/-! ## Shifts of a word -/

section
variable (m : Word) {k j : Nat}

theorem getLsbD_rotateRight_word (hk : k < 32) (hj : j < 32) :
    (m.rotateRight k).getLsbD j = m.getLsbD ((j + k) % 32) := by
  rw [BitVec.getLsbD_rotateRight, Nat.mod_eq_of_lt hk, Bool.cond_decide, decide_eq_true hj, Bool.true_and]
  split_ifs with h
  · exact congrArg m.getLsbD (by omega)
  · exact congrArg m.getLsbD (by omega)

theorem toNat_shiftLeft_word : (m <<< k).toNat = m.toNat * 2 ^ k % 2 ^ 32 := by
  rw [BitVec.toNat_shiftLeft, Nat.shiftLeft_eq]

theorem toNat_ushiftRight_word : (m >>> k).toNat = m.toNat / 2 ^ k := by
  rw [BitVec.toNat_ushiftRight, Nat.shiftRight_eq_div_pow]

theorem toInt_sshiftRight_word : (m.sshiftRight k).toInt = m.toInt / 2 ^ k := by
  rw [BitVec.toInt_sshiftRight, Int.shiftRight_eq_div_pow]
  norm_num

theorem msb_eq_getLsbD : m.msb = m.getLsbD 31 := BitVec.msb_eq_getLsbD_last m

end

/-! ## The rotated immediate (R138) -/

/-- Settles O8: twice a four-bit amount is less than the word's length, so the rotation is read off bit by bit. -/
theorem immediateOperand : Obligations.ImmediateOperand := by
  intro rot imm8 c
  have hrot := rot.isLt
  refine ⟨fun j hj => getLsbD_rotateRight_word _ (by omega) hj, ?_⟩
  rw [← msb_eq_getLsbD]
  rfl

/-! ## A register shifted by an immediate amount (R139) -/

section
variable (s : State) (rm : Reg) (ht : s.core.cpsr.t = false)
include ht

theorem State.reg_full : s.reg rm = if rm = 15 then s.pc + 8 else s.getMode s.core.cpsr.mode rm := by
  rw [State.reg, ht]
  rfl

theorem State.regLate_full : s.regLate rm = if rm = 15 then s.pc + 12 else s.getMode s.core.cpsr.mode rm := by
  unfold State.regLate
  split_ifs with h
  · rfl
  · rw [s.reg_full rm ht, if_neg h]

end

/-- The carry above bits 31 to 1: rotate-with-extend. -/
theorem getLsbD_carry_append (c : Bool) (m : Word) : (BitVec.ofBool c ++ m.extractLsb' 1 31).getLsbD 31 = c ∧
    ∀ j, j < 31 → (BitVec.ofBool c ++ m.extractLsb' 1 31).getLsbD j = m.getLsbD (j + 1) := by
  have split (j : Nat) : (BitVec.ofBool c ++ m.extractLsb' 1 31).getLsbD j =
      if j < 31 then (m.extractLsb' 1 31).getLsbD j else (BitVec.ofBool c).getLsbD (j - 31) := BitVec.getLsbD_append
  refine ⟨(split 31).trans (BitVec.getLsbD_ofBool c 0), fun j hj => (split j).trans ?_⟩
  rw [if_pos hj, BitVec.getLsbD_extractLsb', decide_eq_true hj, Bool.true_and, Nat.add_comm]

/-- Amount 0. -/
theorem shiftImm_zero (m : Word) (c : Bool) :
    shiftImm .lsl 0 m c = ⟨m, c⟩ ∧ shiftImm .lsr 0 m c = ⟨0, m.getLsbD 31⟩ ∧
    shiftImm .asr 0 m c = ⟨if m.getLsbD 31 then 0xFFFFFFFF else 0, m.getLsbD 31⟩ ∧
    shiftImm .ror 0 m c = ⟨BitVec.ofBool c ++ m.extractLsb' 1 31, m.getLsbD 0⟩ := by
  rw [← msb_eq_getLsbD]
  exact ⟨rfl, rfl, rfl, rfl⟩

/-- Amounts 1 to 31. -/
theorem shiftImm_pos {amt : BitVec 5} (h : amt ≠ 0) (m : Word) (c : Bool) :
    shiftImm .lsl amt m c = ⟨m <<< amt.toNat, m.getLsbD (32 - amt.toNat)⟩ ∧
    shiftImm .lsr amt m c = ⟨m >>> amt.toNat, m.getLsbD (amt.toNat - 1)⟩ ∧
    shiftImm .asr amt m c = ⟨m.sshiftRight amt.toNat, m.getLsbD (amt.toNat - 1)⟩ ∧
    shiftImm .ror amt m c = ⟨m.rotateRight amt.toNat, m.getLsbD (amt.toNat - 1)⟩ := by
  have hk : amt.toNat ≠ 0 := fun hk => h (BitVec.eq_of_toNat_eq hk)
  exact ⟨if_neg hk, if_neg hk, if_neg hk, if_neg hk⟩

/-- Settles O9: by the amount, 0 or not. -/
theorem shiftByImmediate : Obligations.ShiftByImmediate := by
  intro s amt rm m ht hm
  have hreg : s.reg rm = m := (s.reg_full rm ht).trans hm.symm
  have hamt := amt.isLt
  simp only [State.regOperand, hreg]
  refine ⟨?_, fun h => ?_⟩
  · rintro rfl
    obtain ⟨hlsl, hlsr, hasr, hror⟩ := shiftImm_zero m s.core.cpsr.c
    obtain ⟨hcarry, hbits⟩ := getLsbD_carry_append s.core.cpsr.c m
    rw [hror]
    exact ⟨hlsl, hlsr, hasr, hcarry, hbits, rfl⟩
  · obtain ⟨hlsl, hlsr, hasr, hror⟩ := shiftImm_pos h m s.core.cpsr.c
    rw [hlsl, hlsr, hasr, hror]
    exact ⟨toNat_shiftLeft_word m, rfl, toNat_ushiftRight_word m, rfl, toInt_sshiftRight_word m, rfl,
      fun j hj => getLsbD_rotateRight_word m hamt hj, rfl⟩

/-! ## A register shifted by a register (R140) -/

section
variable (m : Word) (c : Bool) {amount : Word} {k : Nat} (hk : (amount.extractLsb' 0 8).toNat = k)
include hk

theorem shiftReg_zero (h : k = 0) (ty : ShiftKind) : shiftReg ty amount m c = ⟨m, c⟩ := by
  unfold shiftReg
  exact if_pos (hk.trans h)

theorem shiftReg_short (h0 : 0 < k) (h : k < 32) :
    shiftReg .lsl amount m c = ⟨m <<< k, m.getLsbD (32 - k)⟩ ∧
    shiftReg .lsr amount m c = ⟨m >>> k, m.getLsbD (k - 1)⟩ ∧
    shiftReg .asr amount m c = ⟨m.sshiftRight k, m.getLsbD (k - 1)⟩ := by
  simp only [shiftReg, hk, h, Nat.pos_iff_ne_zero.1 h0, ↓reduceIte, and_self]

theorem shiftReg_word (h : k = 32) :
    shiftReg .lsl amount m c = ⟨0, m.getLsbD 0⟩ ∧ shiftReg .lsr amount m c = ⟨0, m.getLsbD 31⟩ := by
  subst h
  simp only [shiftReg, hk, msb_eq_getLsbD]
  exact ⟨rfl, rfl⟩

theorem shiftReg_long (h : 32 < k) :
    shiftReg .lsl amount m c = ⟨0, false⟩ ∧ shiftReg .lsr amount m c = ⟨0, false⟩ := by
  simp only [shiftReg, hk, show k ≠ 0 by omega, show k ≠ 32 by omega, show ¬k < 32 by omega, ↓reduceIte,
    and_self]

theorem shiftReg_asr_full (h : 32 ≤ k) :
    shiftReg .asr amount m c = ⟨if m.getLsbD 31 then 0xFFFFFFFF else 0, m.getLsbD 31⟩ := by
  simp only [shiftReg, hk, show k ≠ 0 by omega, show ¬k < 32 by omega, ↓reduceIte, signFill, msb_eq_getLsbD]

theorem shiftReg_ror (h : 0 < k) : shiftReg .ror amount m c =
    if k % 32 = 0 then ⟨m, m.getLsbD 31⟩ else ⟨m.rotateRight (k % 32), m.getLsbD (k % 32 - 1)⟩ := by
  simp only [shiftReg, hk, Nat.pos_iff_ne_zero.1 h, ↓reduceIte, msb_eq_getLsbD]

end

/-- Settles O10: by the amount, below, at and above the word's length. -/
theorem shiftByRegister : Obligations.ShiftByRegister := by
  intro s rs rm m k ht hrs hkeq hm
  have hk : ((s.reg rs).extractLsb' 0 8).toNat = k := by
    rw [s.reg_full rs ht, if_neg hrs, hkeq, BitVec.extractLsb'_toNat, Nat.shiftRight_zero]
  have hlate : s.regLate rm = m := (s.regLate_full rm ht).trans hm.symm
  simp only [State.rsrOperand, hlate]
  refine ⟨shiftReg_zero m _ hk, fun h0 h => ?_, shiftReg_word m _ hk, shiftReg_long m _ hk, shiftReg_asr_full m _ hk,
    fun h0 h => (shiftReg_ror m _ hk h0).trans (if_pos h), fun h => ?_⟩
  · obtain ⟨hlsl, hlsr, hasr⟩ := shiftReg_short m s.core.cpsr.c hk h0 h
    rw [hlsl, hlsr, hasr]
    exact ⟨toNat_shiftLeft_word m, rfl, toNat_ushiftRight_word m, rfl, toInt_sshiftRight_word m, rfl⟩
  · rw [shiftReg_ror m _ hk (by omega), if_neg h]
    exact ⟨fun j hj => getLsbD_rotateRight_word m (by omega) hj, rfl⟩

end Sys2Proof.Machine
end

section
/-! The operand combinations the spec refuses (family 30): data processing, multiplies, swaps and single transfers. -/

namespace Sys2Proof.Machine

section
variable {s : State}

/-! ## Data processing (R140, R170) -/

section
variable {alu : AluOp} {c : Cond} {sf : Bool} {rn rd rs rm : Reg} {rot : BitVec 4} {imm8 : BitVec 8} {amt : BitVec 5}
  {ty : ShiftKind} (hc : condHolds c s.core.cpsr = true)
include hc

theorem State.dpRsr_refused : s.dpRsr alu c sf rn rd 15 ty rm = .refused .shiftAmountR15 := State.when_true hc _

theorem State.testRsr_refused : s.testRsr alu c rn rd 15 ty rm = .refused .shiftAmountR15 := State.when_true hc _

theorem State.testImm_refused : s.testImm alu c rn 15 rot imm8 = .refused .testDestinationR15 := State.when_true hc _

theorem State.testReg_refused : s.testReg alu c rn 15 amt ty rm = .refused .testDestinationR15 := State.when_true hc _

theorem State.testRsr_refused_destination (h : rs ≠ 15) :
    s.testRsr alu c rn 15 rs ty rm = .refused .testDestinationR15 := (State.when_true hc _).trans (if_neg h)

end

theorem exec_dp_shiftAmount (k : DpOp) (c : Cond) (sf : Bool) (rn rd : Reg) (ty : ShiftKind) (rm : Reg)
    (hr : Ready (k.instr c sf rn rd (.rsr 15 ty rm)) s) :
    exec (k.instr c sf rn rd (.rsr 15 ty rm)) s = .refused .shiftAmountR15 := by
  obtain ⟨-, hcond⟩ := hr
  cases k with
  | logic k => cases k <;> exact State.dpRsr_refused (hcond c rfl)
  | arith k => cases k <;> exact State.dpRsr_refused (hcond c rfl)

theorem exec_test_shiftAmount (k : TestOp) (c : Cond) (rn rd : Reg) (ty : ShiftKind) (rm : Reg)
    (hr : Ready (k.instr c rn rd (.rsr 15 ty rm)) s) :
    exec (k.instr c rn rd (.rsr 15 ty rm)) s = .refused .shiftAmountR15 := by
  obtain ⟨-, hcond⟩ := hr
  cases k <;> exact State.testRsr_refused (hcond c rfl)

theorem exec_test_destination (k : TestOp) (c : Cond) (rn : Reg) (o : Operand2) (hr : Ready (k.instr c rn 15 o) s)
    (ho : o.Allowed) : exec (k.instr c rn 15 o) s = .refused .testDestinationR15 := by
  obtain ⟨-, hcond⟩ := hr
  cases o with
  | imm rot imm8 => cases k <;> exact State.testImm_refused (hcond c rfl)
  | reg amt ty rm => cases k <;> exact State.testReg_refused (hcond c rfl)
  | rsr rs ty rm => cases k <;> exact State.testRsr_refused_destination (hcond c rfl) ho

/-! ## Multiplies and swaps (R200, R224) -/

theorem State.multiply_refused {sf : Bool} {rd rs rm rn : Reg} {accumulate : Bool}
    (h : rd = 15 ∨ rs = 15 ∨ rm = 15 ∨ accumulate = true ∧ rn = 15) :
    s.multiply sf rd rs rm rn accumulate = .refused .multiplyOperand :=
  if_pos (by simpa only [Bool.or_eq_true, Bool.and_eq_true, decide_eq_true_eq, or_assoc] using h)

theorem State.multiplyLong_refused {signed accumulate sf : Bool} {rdHi rdLo rs rm : Reg}
    (h : rdHi = 15 ∨ rdLo = 15 ∨ rs = 15 ∨ rm = 15 ∨ rdHi = rdLo) :
    s.multiplyLong signed accumulate sf rdHi rdLo rs rm = .refused .multiplyOperand :=
  if_pos (by simpa only [Bool.or_eq_true, decide_eq_true_eq, or_assoc] using h)

theorem State.swap_refused {load : State → Word → Word × State} {width : Width} {rn rd rm : Reg}
    (h : rn = 15 ∨ rd = 15 ∨ rm = 15) : s.swap load width rn rd rm = .refused .swapOperand :=
  if_pos (by simpa only [Bool.or_eq_true, decide_eq_true_eq, or_assoc] using h)

/-! ## Single transfers (R145, R146, R210) -/

/-- The gates before the addressing part: the halfword format's and the offset register's. -/
def gated (i : Instr) (o : Outcome) : Outcome :=
  if badHalfword i then .refused .halfwordPostWriteback else if offsetReg i = some 15 then .refused .offsetR15 else o

/-- What a single transfer runs: a load or a store of the full variant behind its gates, or a compact transfer,
which has no form that is refused. -/
inductive RunsTransfer (s : State) (i : Instr) : Prop
  | load (k : LoadKind) (load : State → Word → Word × State) (a : Word) (p u w : Bool) (rn rd : Reg) (off : Word)
      (hback : backOf s i = if writesBack p w then some (rn, transferBase u (s.reg rn) off) else none)
      (hload : loadOf s i = some (k, a, rd)) (hsource : storeSource i = none)
      (hexec : exec i s = gated i (s.singleLoad (decide (k = .word)) load p u w rn rd off))
  | store (width : Width) (p u w : Bool) (rn rd : Reg) (off : Word)
      (hback : backOf s i = if writesBack p w then some (rn, transferBase u (s.reg rn) off) else none)
      (hload : loadOf s i = none) (hsource : storeSource i = some rd)
      (hexec : exec i s = gated i (s.singleStore width p u w rn rd off))
  | compact (hhalf : badHalfword i = false) (hoffset : offsetReg i = none) (hback : backOf s i = none)
      (hload : ∀ k a, loadOf s i ≠ some (k, a, 15)) (hsource : storeSource i = none)

section
variable {i : Instr} {rm : Reg} {o : Outcome} {p w : Bool}

theorem gated_open (hh : badHalfword i = false) (ho : offsetReg i = none) : gated i o = o := by
  simp [gated, hh, ho]

theorem gated_offset (hh : badHalfword i = false) (ho : offsetReg i = some rm) : gated i o = withOffsetReg rm o := by
  simp [gated, hh, ho, withOffsetReg]

theorem gated_half (hh : badHalfword i = (!p && w)) (ho : offsetReg i = none) : gated i o = halfwordForm p w o := by
  simp [gated, hh, ho, halfwordForm]

theorem gated_half_offset (hh : badHalfword i = (!p && w)) (ho : offsetReg i = some rm) :
    gated i o = halfwordForm p w (withOffsetReg rm o) := by
  simp [gated, hh, ho, halfwordForm, withOffsetReg]

end

theorem lowReg_load_ne {k : LoadKind} {a : Word} {rd : LReg} (k' : LoadKind) (a' : Word) :
    some (k, a, lowReg rd) ≠ some (k', a', (15 : Reg)) := by
  simp

theorem runsTransfer {i : Instr} (hr : Ready i s) (hs : shape i = .load ∨ shape i = .store) : RunsTransfer s i := by
  obtain ⟨-, hcond⟩ := hr
  cases i
  case ldrImm | ldrtImm | ldrbImm | ldrbtImm =>
    exact .load _ _ _ _ _ _ _ _ _ rfl rfl rfl (by
      rw [gated_open rfl rfl]; unfold exec; exact State.when_true (hcond _ rfl) _)
  case ldrReg | ldrtReg | ldrbReg | ldrbtReg =>
    exact .load _ _ _ _ _ _ _ _ _ rfl rfl rfl (by
      rw [gated_offset rfl rfl]; unfold exec; exact State.when_true (hcond _ rfl) _)
  case ldrhImm | ldrsbImm | ldrshImm =>
    exact .load _ _ _ _ _ _ _ _ _ rfl rfl rfl (by
      rw [gated_half rfl rfl]; unfold exec; exact State.when_true (hcond _ rfl) _)
  case ldrhReg | ldrsbReg | ldrshReg =>
    exact .load _ _ _ _ _ _ _ _ _ rfl rfl rfl (by
      rw [gated_half_offset rfl rfl]; unfold exec; exact State.when_true (hcond _ rfl) _)
  case strImm | strbImm | strtImm | strbtImm =>
    exact .store _ _ _ _ _ _ _ rfl rfl rfl (by
      rw [gated_open rfl rfl]; unfold exec; exact State.when_true (hcond _ rfl) _)
  case strReg | strbReg | strtReg | strbtReg =>
    exact .store _ _ _ _ _ _ _ rfl rfl rfl (by
      rw [gated_offset rfl rfl]; unfold exec; exact State.when_true (hcond _ rfl) _)
  case strhImm =>
    exact .store _ _ _ _ _ _ _ rfl rfl rfl (by
      rw [gated_half rfl rfl]; unfold exec; exact State.when_true (hcond _ rfl) _)
  case strhReg =>
    exact .store _ _ _ _ _ _ _ rfl rfl rfl (by
      rw [gated_half_offset rfl rfl]; unfold exec; exact State.when_true (hcond _ rfl) _)
  case tLdrPc | tLdrReg | tLdrbReg | tLdsbReg | tLdrhReg | tLdshReg | tLdrImm | tLdrbImm | tLdrhImm | tLdrSp =>
    exact .compact rfl rfl rfl lowReg_load_ne rfl
  case tStrReg | tStrbReg | tStrhReg | tStrImm | tStrbImm | tStrhImm | tStrSp =>
    exact .compact rfl rfl rfl (fun _ _ h => nomatch h) rfl
  all_goals rcases hs with hs | hs <;> cases hs

/-! ### Where the refusals come from -/

theorem State.singleLoad_base {wide : Bool} {load : State → Word → Word × State} {p u w : Bool} {rd : Reg}
    {off : Word} (hw : writesBack p w = true) : s.singleLoad wide load p u w 15 rd off = .refused .baseR15 :=
  if_pos (by rw [baseRefused, hw]; rfl)

theorem State.singleLoad_narrow {load : State → Word → Word × State} {p u w : Bool} {rn : Reg} {off : Word}
    (hbase : writesBack p w = true → rn ≠ 15) : s.singleLoad false load p u w rn 15 off = .refused .narrowLoadR15 :=
  (if_neg (by simpa [baseRefused] using hbase)).trans (if_pos rfl)

theorem State.singleStore_base {width : Width} {p u w : Bool} {rd : Reg} {off : Word} (hw : writesBack p w = true) :
    s.singleStore width p u w 15 rd off = .refused .baseR15 :=
  if_pos (by rw [baseRefused, hw]; rfl)

theorem State.singleStore_source {width : Width} {p u w : Bool} {rn : Reg} {off : Word} (hw : writesBack p w = true)
    (hrn : rn ≠ 15) : s.singleStore width p u w rn rn off = .refused .storeBaseWriteback :=
  (if_neg (by simp [baseRefused, hrn])).trans (if_pos (by simp [hw]))

section
variable {i : Instr} {o : Outcome}

theorem gated_badHalfword (h : badHalfword i = true) : gated i o = .refused .halfwordPostWriteback := if_pos h

theorem gated_offsetR15 (hh : badHalfword i = false) (h : offsetReg i = some 15) :
    gated i o = .refused .offsetR15 := by
  simp [gated, hh, h]

theorem gated_passed (hh : badHalfword i = false) (h : offsetReg i ≠ some 15) : gated i o = o := by
  simp [gated, hh, h]

/-- An instruction with an offset register, a stored register or a loaded value is a single transfer. -/
theorem shape_of_offsetReg {r : Reg} (h : offsetReg i = some r) : shape i = .load ∨ shape i = .store := by
  cases i <;> cases h
  all_goals simp [shape]

theorem shape_of_storeSource {r : Reg} (h : storeSource i = some r) : shape i = .store := by
  cases i <;> cases h <;> rfl

theorem shape_of_loadOf {x : LoadKind × Word × Reg} (h : loadOf s i = some x) : shape i = .load := by
  cases i <;> cases h <;> rfl

theorem writesBack_of_backOf {p w : Bool} {rn r : Reg} {x v : Word}
    (h : (if writesBack p w = true then some (rn, x) else none) = some (r, v)) : writesBack p w = true ∧ rn = r := by
  split_ifs at h with hw
  cases h
  exact ⟨hw, rfl⟩

theorem exec_badHalfword (hr : Ready i s) (hs : shape i = .load ∨ shape i = .store) (h : badHalfword i = true) :
    exec i s = .refused .halfwordPostWriteback := by
  cases runsTransfer hr hs with
  | load _ _ _ _ _ _ _ _ _ _ _ _ hexec => exact hexec.trans (gated_badHalfword h)
  | store _ _ _ _ _ _ _ _ _ _ hexec => exact hexec.trans (gated_badHalfword h)
  | compact hhalf => rw [hhalf] at h; cases h

theorem exec_offsetR15 (hr : Ready i s) (hh : badHalfword i = false) (h : offsetReg i = some 15) :
    exec i s = .refused .offsetR15 := by
  cases runsTransfer hr (shape_of_offsetReg h) with
  | load _ _ _ _ _ _ _ _ _ _ _ _ hexec => exact hexec.trans (gated_offsetR15 hh h)
  | store _ _ _ _ _ _ _ _ _ _ hexec => exact hexec.trans (gated_offsetR15 hh h)
  | compact _ hoffset => rw [hoffset] at h; cases h

theorem exec_baseR15 {v : Word} (hr : Ready i s) (hs : shape i = .load ∨ shape i = .store)
    (hh : badHalfword i = false) (ho : offsetReg i ≠ some 15) (h : backOf s i = some (15, v)) :
    exec i s = .refused .baseR15 := by
  cases runsTransfer hr hs with
  | load _ _ _ _ _ _ _ _ _ hback _ _ hexec =>
    obtain ⟨hw, rfl⟩ := writesBack_of_backOf (hback.symm.trans h)
    exact hexec.trans ((gated_passed hh ho).trans (State.singleLoad_base hw))
  | store _ _ _ _ _ _ _ hback _ _ hexec =>
    obtain ⟨hw, rfl⟩ := writesBack_of_backOf (hback.symm.trans h)
    exact hexec.trans ((gated_passed hh ho).trans (State.singleStore_base hw))
  | compact _ _ hback => rw [hback] at h; cases h

theorem exec_storeBase {rn : Reg} {v : Word} (hr : Ready i s) (hh : badHalfword i = false)
    (ho : offsetReg i ≠ some 15) (h : backOf s i = some (rn, v)) (hrn : rn ≠ 15) (hsource : storeSource i = some rn) :
    exec i s = .refused .storeBaseWriteback := by
  cases runsTransfer hr (.inr (shape_of_storeSource hsource)) with
  | load _ _ _ _ _ _ _ _ _ _ _ hnone => rw [hnone] at hsource; cases hsource
  | store _ _ _ _ _ _ _ hback _ hsome hexec =>
    obtain ⟨hw, rfl⟩ := writesBack_of_backOf (hback.symm.trans h)
    cases hsome.symm.trans hsource
    exact hexec.trans ((gated_passed hh ho).trans (State.singleStore_source hw hrn))
  | compact _ _ hback => rw [hback] at h; cases h

theorem exec_narrowLoad {k : LoadKind} {a : Word} (hr : Ready i s) (ha : transferAllowed s i)
    (h : loadOf s i = some (k, a, 15)) (hk : k ≠ .word) : exec i s = .refused .narrowLoadR15 := by
  obtain ⟨ho, hh, hbase, -⟩ := ha
  cases runsTransfer hr (.inl (shape_of_loadOf h)) with
  | load _ _ _ _ _ _ _ _ _ hback hload _ hexec =>
    cases hload.symm.trans h
    rw [decide_eq_false hk] at hexec
    exact hexec.trans ((gated_passed hh ho).trans
      (State.singleLoad_narrow fun hw => hbase _ _ (hback.trans (if_pos hw))))
  | store _ _ _ _ _ _ _ _ hnone => rw [hnone] at h; cases h
  | compact _ _ _ hload => exact absurd h (hload k a)

end
end

/-- Settles O35: each gate refuses by its name, and the gates of a single transfer stand in the order of
the statement. -/
theorem refusedOperands : Obligations.RefusedOperands := by
  refine ⟨fun k c sf rn rd ty rm s => exec_dp_shiftAmount k c sf rn rd ty rm,
    fun k c rn rd ty rm s => exec_test_shiftAmount k c rn rd ty rm, fun k c rn o s => exec_test_destination k c rn o,
    ?mul, ?mla, ?long, ?swap, fun i s => exec_badHalfword, fun i s => exec_offsetR15, fun i s v => exec_baseR15,
    fun i s rn v => exec_storeBase, fun i s k a => exec_narrowLoad⟩
  case mul =>
    rintro c sf rd rn rs rm s ⟨-, hcond⟩ h
    unfold exec
    refine (State.when_true (hcond c rfl) _).trans ?_
    exact State.multiply_refused (h.imp_right (Or.imp_right .inl))
  case mla =>
    rintro c sf rd rn rs rm s ⟨-, hcond⟩ h
    unfold exec
    refine (State.when_true (hcond c rfl) _).trans ?_
    exact State.multiply_refused (by tauto)
  case long =>
    rintro c sf rdHi rdLo rs rm s i hi ⟨-, hcond⟩ h
    unfold exec
    rcases hi with rfl | rfl | rfl | rfl
    all_goals
      refine (State.when_true (hcond c rfl) _).trans ?_
      exact State.multiplyLong_refused h
  case swap =>
    rintro c rn rd rm s i hi ⟨-, hcond⟩ h
    unfold exec
    rcases hi with rfl | rfl
    all_goals
      refine (State.when_true (hcond c rfl) _).trans ?_
      exact State.swap_refused h

end Sys2Proof.Machine
end

section
/-! Data processing (family 40): sums and differences by their exact values, the state at the end of an instruction,
and what the sixteen opcodes do in their three forms. -/

namespace Sys2Proof.Machine

/-! ## Sums by their exact values (R172, R176 to R181) -/

section
variable (a b : Word) (c : Bool)

theorem addWithCarry_value_exact :
    (addWithCarry a b c).value = BitVec.ofInt 32 (unsigned a + unsigned b + c.toNat) := by
  rw [unsigned, unsigned]
  exact (BitVec.ofInt_natCast 32 (a.toNat + b.toNat + c.toNat)).symm

theorem addWithCarry_c_iff : (addWithCarry a b c).c = true ↔ 2 ^ 32 ≤ unsigned a + unsigned b + c.toNat := by
  rw [addWithCarry, decide_eq_true_iff, unsigned, unsigned]
  omega

/-- The signs of the operands and of the sum tell whether the signed sum fits. -/
theorem addWithCarry_v_iff : (addWithCarry a b c).v = true ↔
    a.toInt + b.toInt + c.toNat < -2 ^ 31 ∨ 2 ^ 31 ≤ a.toInt + b.toInt + c.toNat := by
  have hc := c.toNat_lt
  have ha := a.isLt
  have hb := b.isLt
  simp only [addWithCarry, Bool.and_eq_true, beq_iff_eq, bne_iff_ne, ne_eq, BitVec.msb_eq_decide, decide_eq_decide,
    BitVec.toNat_ofNat, BitVec.toInt_eq_toNat_cond]
  omega

theorem unsigned_not : unsigned (~~~b) = 2 ^ 32 - 1 - unsigned b := by
  have hb := b.isLt
  rw [unsigned, unsigned, BitVec.toNat_not]
  omega

theorem toInt_not_word : (~~~b).toInt = -1 - b.toInt := by
  have hb := b.isLt
  rw [BitVec.toInt_eq_toNat_cond, BitVec.toInt_eq_toNat_cond, BitVec.toNat_not]
  omega

end

/-- The sum an arithmetic opcode is computed as: a difference adds the complement (R176 to R181). -/
def ArithOp.addends (k : ArithOp) (a b : Word) (c : Bool) : Word × Word × Bool :=
  match k with
  | .sub => (a, ~~~b, true)
  | .rsb => (b, ~~~a, true)
  | .add => (a, b, false)
  | .adc => (a, b, c)
  | .sbc => (a, ~~~b, c)
  | .rsc => (b, ~~~a, c)

/-- What the complement adds to the exact difference. -/
def ArithOp.excess : ArithOp → Int
  | .add | .adc => 0
  | .sub | .rsb | .sbc | .rsc => 2 ^ 32

/-- What a logical opcode computes (R171). -/
def LogicOp.alu (k : LogicOp) : AluOp := fun a op p => logical (k.result a op.value) op.carry p

/-- What an arithmetic opcode computes (R172). -/
def ArithOp.alu (k : ArithOp) : AluOp := fun a op p =>
  let sum := k.addends a op.value p.c
  addWithCarry sum.1 sum.2.1 sum.2.2

/-- What an opcode that writes `Rd` computes. -/
def DpOp.alu : DpOp → AluOp
  | .logic k => k.alu
  | .arith k => k.alu

/-- What a test opcode computes: the result of AND, EOR, SUB or ADD, which it drops (R182 to R185). -/
def TestOp.alu : TestOp → AluOp
  | .tst => LogicOp.and.alu
  | .teq => LogicOp.eor.alu
  | .cmp => ArithOp.sub.alu
  | .cmn => ArithOp.add.alu

section
variable (k : ArithOp) (a b : Word) (c : Bool)

theorem ArithOp.addends_unsigned : unsigned (k.addends a b c).1 + unsigned (k.addends a b c).2.1 +
    (k.addends a b c).2.2.toNat = k.exact unsigned a b c + k.excess := by
  cases k <;> simp only [ArithOp.addends, ArithOp.exact, ArithOp.excess, unsigned_not, Bool.toNat_true, Bool.toNat_false]
    <;> omega

theorem ArithOp.addends_signed : (k.addends a b c).1.toInt + (k.addends a b c).2.1.toInt +
    (k.addends a b c).2.2.toNat = k.exact BitVec.toInt a b c := by
  cases k <;> simp only [ArithOp.addends, ArithOp.exact, toInt_not_word, Bool.toNat_true, Bool.toNat_false] <;> omega

theorem ArithOp.carries_iff : k.carries a b c ↔ 2 ^ 32 ≤ k.exact unsigned a b c + k.excess := by
  cases k <;> simp only [ArithOp.carries, ArithOp.excess] <;> omega

end

section
variable (k : ArithOp) (a : Word) (op : Shifted) (p : Cpsr)

theorem ArithOp.alu_value : (k.alu a op p).value = k.result a op.value p.c := by
  refine (addWithCarry_value_exact _ _ _).trans ?_
  rw [k.addends_unsigned, ArithOp.result]
  apply BitVec.eq_of_toNat_eq
  rw [BitVec.toNat_ofInt, BitVec.toNat_ofInt]
  cases k <;> simp only [ArithOp.excess] <;> omega

theorem ArithOp.alu_c_iff : (k.alu a op p).c = true ↔ k.carries a op.value p.c := by
  refine (addWithCarry_c_iff _ _ _).trans ?_
  rw [k.addends_unsigned, k.carries_iff]

theorem ArithOp.alu_v_iff : (k.alu a op p).v = true ↔ k.overflows a op.value p.c := by
  refine (addWithCarry_v_iff _ _ _).trans ?_
  rw [k.addends_signed, ArithOp.overflows]

end

/-- The value of the computation is the result the statements name (R191). -/
theorem DpOp.alu_value (k : DpOp) (s : State) (rn : Reg) (o : Operand2) :
    (k.alu (o.first s rn) (o.shifter s) s.core.cpsr).value = k.result s rn o := by
  cases k with
  | logic k => rfl
  | arith k => exact k.alu_value _ _ _

/-! ## The condition codes -/

/-- The condition codes of `t` are those of `x`. -/
def HasFlags (t : State) (x : AluResult) : Prop :=
  t.core.cpsr.n = x.n ∧ t.core.cpsr.z = x.z ∧ t.core.cpsr.c = x.c ∧ t.core.cpsr.v = x.v

theorem HasFlags.logical {s t : State} {r : Word} {carry : Bool} (h : HasFlags t (logical r carry s.core.cpsr)) :
    LogicalFlags s t r carry := by
  obtain ⟨hn, hz, hc, hv⟩ := h
  exact ⟨hn.trans (msb_eq_getLsbD r), by rw [hz]; exact beq_iff_eq, hc, hv⟩

theorem HasFlags.arith {t : State} {k : ArithOp} {a : Word} {op : Shifted} {p : Cpsr} (h : HasFlags t (k.alu a op p)) :
    ArithFlags t k a op.value p.c := by
  obtain ⟨hn, hz, hc, hv⟩ := h
  rw [ArithFlags, ← k.alu_value a op p, hn, hz, hc, hv]
  exact ⟨msb_eq_getLsbD _, beq_iff_eq, k.alu_c_iff a op p, k.alu_v_iff a op p⟩

/-! ## The end of an instruction (R33, R170) -/

section
variable {s t u : State}

/-- Work within a bound that grants registers and condition codes alone, and stores nothing. -/
theorem Within.onlyCore {ps : List PhysReg} {f : Bool} (h : Within { dests := ps, flags := f } s t)
    (hm : t.mem = s.mem) : OnlyCore ps s t :=
  ⟨⟨h.regs, h.control rfl, h.variant rfl, h.saved rfl⟩, State.peek_congr h.par hm, h.halted rfl, h.devices rfl⟩

/-- `t` is `s` after an instruction of the full variant that goes on to the next one: the condition codes of `r` if
`sf`, `n` internal cycles, of the registers `ps` alone. -/
structure Completes (sf : Bool) (ps : List PhysReg) (r : AluResult) (n : Nat) (s t : State) : Prop where
  pc : t.pc = s.pc + 4
  set : sf = true → HasFlags t r
  kept : sf = false → SameFlags s t
  frame : OnlyCore ps s t
  cost : t.report.cost = s.report.cost + n

/-- The condition codes and the advance after work that leaves the status. -/
theorem Completes.of_within {ps : List PhysReg} {n : Nat} (sf : Bool) (r : AluResult)
    (h : Within { dests := ps, flags := true } s u) (hmem : u.mem = s.mem) (hcpsr : u.core.cpsr = s.core.cpsr)
    (hvariant : s.core.cpsr.t = false) (hpc : u.pc = s.pc) (hcost : u.report.cost = s.report.cost + n) :
    Completes sf ps r n s (if sf then u.setFlags r else u).advance := by
  have hstep : u.pc + u.step = s.pc + 4 := by rw [hpc, State.step, hcpsr, hvariant]; rfl
  cases sf with
  | true =>
    exact ⟨(State.advance_pc _).trans hstep, fun _ => ⟨rfl, rfl, rfl, rfl⟩, nofun,
      ((h.trans (u.setFlags_within r rfl)).advance).onlyCore hmem, hcost⟩
  | false =>
    exact ⟨(State.advance_pc _).trans hstep, nofun, fun _ => .of_cpsr hcpsr, h.advance.onlyCore hmem, hcost⟩

/-- The end of an instruction that writes `Rd`, not `r15` (R170). -/
theorem State.dpWrite_completes {n : Nat} {rd : Reg} (sf : Bool) (r : AluResult) (hvariant : s.core.cpsr.t = false)
    (hrd : rd ≠ 15) : ∃ t, s.dpWrite n sf rd r = .next t ∧ t.reg rd = r.value ∧
      Completes sf [physReg s.core.cpsr.mode rd] r n s t := by
  refine ⟨_, if_neg hrd, ?_, .of_within sf r
    ((s.addCost_within n).setReg rfl r.value hrd List.mem_cons_self) rfl rfl hvariant
    ((s.addCost n).setReg_pc rd r.value hrd) rfl⟩
  have hwritten : ((s.addCost n).setReg rd r.value).reg rd = r.value :=
    (State.reg_setReg _ rd rd _ hrd).trans (if_pos rfl)
  rw [State.reg_advance _ _ hrd]
  cases sf with
  | true => exact (State.reg_congr rfl rfl rfl rd).trans hwritten
  | false => exact hwritten

/-- The end of a test instruction (R170). -/
theorem State.dpTest_completes {n : Nat} {rd : Reg} (r : AluResult) (hvariant : s.core.cpsr.t = false)
    (hrd : rd ≠ 15) : ∃ t, s.dpTest n rd r = .next t ∧ Completes true [] r n s t :=
  ⟨_, if_neg hrd, .of_within true r (s.addCost_within n) rfl rfl hvariant rfl rfl⟩

/-- The end of an instruction whose result goes to `pc` (R32, R173). -/
theorem State.dpWrite_branches {n : Nat} (r : AluResult) (hvariant : s.core.cpsr.t = false) :
    ∃ t, s.dpWrite n false 15 r = .next t ∧ t.pc = r.value &&& ~~~3 ∧ SameFlags s t ∧ OnlyCore [] s t ∧
      t.core.seq = true := by
  have hframe : Within {} s ((s.addCost n).writePc r.value) := (s.addCost_within n).writePc r.value
  refine ⟨_, rfl, ?_, hframe.flags rfl, hframe.onlyCore (State.writePc_mem _ _), by rw [State.writePc_core]⟩
  rw [State.writePc_pc]
  exact if_neg (by simp [hvariant])

/-! ## What the opcodes run -/

section
variable {c : Cond} {sf : Bool} {rn rd : Reg} {o : Operand2}

theorem ready_dp {k : DpOp} (hr : Ready (k.instr c sf rn rd o) s) :
    s.core.cpsr.t = false ∧ condHolds c s.core.cpsr = true := by
  obtain ⟨ht, hc⟩ := hr
  cases k with
  | logic k => cases k <;> cases o <;> exact ⟨ht, hc c rfl⟩
  | arith k => cases k <;> cases o <;> exact ⟨ht, hc c rfl⟩

theorem ready_test {k : TestOp} (hr : Ready (k.instr c rn rd o) s) :
    s.core.cpsr.t = false ∧ condHolds c s.core.cpsr = true := by
  obtain ⟨ht, hc⟩ := hr
  cases k <;> cases o <;> exact ⟨ht, hc c rfl⟩

/-! Each form under a true condition. -/

section
variable (alu : AluOp) {rot : BitVec 4} {imm8 : BitVec 8} {amt : BitVec 5} {ty : ShiftKind} {rs rm : Reg}
  (hc : condHolds c s.core.cpsr = true)
include hc

theorem State.dpImm_true : s.dpImm alu c sf rn rd rot imm8 =
    s.dpWrite 0 sf rd (alu (s.reg rn) (immOperand rot imm8 s.core.cpsr.c) s.core.cpsr) := State.when_true hc _

theorem State.dpReg_true : s.dpReg alu c sf rn rd amt ty rm =
    s.dpWrite 0 sf rd (alu (s.reg rn) (s.regOperand amt ty rm) s.core.cpsr) := State.when_true hc _

theorem State.dpRsr_true (hrs : rs ≠ 15) : s.dpRsr alu c sf rn rd rs ty rm =
    s.dpWrite s.par.internal.shiftByRegister sf rd (alu (s.regLate rn) (s.rsrOperand rs ty rm) s.core.cpsr) :=
  (State.when_true hc _).trans (if_neg hrs)

theorem State.testImm_true : s.testImm alu c rn rd rot imm8 =
    s.dpTest 0 rd (alu (s.reg rn) (immOperand rot imm8 s.core.cpsr.c) s.core.cpsr) := State.when_true hc _

theorem State.testReg_true : s.testReg alu c rn rd amt ty rm =
    s.dpTest 0 rd (alu (s.reg rn) (s.regOperand amt ty rm) s.core.cpsr) := State.when_true hc _

theorem State.testRsr_true (hrs : rs ≠ 15) : s.testRsr alu c rn rd rs ty rm =
    s.dpTest s.par.internal.shiftByRegister rd (alu (s.regLate rn) (s.rsrOperand rs ty rm) s.core.cpsr) :=
  (State.when_true hc _).trans (if_neg hrs)

end

/-- Every opcode that writes `Rd` runs the common procedure on its two operands, in each form (R170). -/
theorem exec_dp (k : DpOp) (hc : condHolds c s.core.cpsr = true) (ho : o.Allowed) :
    exec (k.instr c sf rn rd o) s =
      s.dpWrite (o.cycles s) sf rd (k.alu (o.first s rn) (o.shifter s) s.core.cpsr) := by
  cases o with
  | imm rot imm8 =>
    cases k with
    | logic k => cases k <;> exact State.dpImm_true _ hc
    | arith k => cases k <;> exact State.dpImm_true _ hc
  | reg amt ty rm =>
    cases k with
    | logic k => cases k <;> exact State.dpReg_true _ hc
    | arith k => cases k <;> exact State.dpReg_true _ hc
  | rsr rs ty rm =>
    cases k with
    | logic k => cases k <;> exact State.dpRsr_true _ hc ho
    | arith k => cases k <;> exact State.dpRsr_true _ hc ho

/-- The same of the test opcodes. -/
theorem exec_test (k : TestOp) (hc : condHolds c s.core.cpsr = true) (ho : o.Allowed) :
    exec (k.instr c rn rd o) s = s.dpTest (o.cycles s) rd (k.alu (o.first s rn) (o.shifter s) s.core.cpsr) := by
  cases o with
  | imm rot imm8 => cases k <;> exact State.testImm_true _ hc
  | reg amt ty rm => cases k <;> exact State.testReg_true _ hc
  | rsr rs ty rm => cases k <;> exact State.testRsr_true _ hc ho

/-- Every opcode that writes `Rd`, not `r15`, completes with its result. -/
theorem exec_dp_completes (k : DpOp) (hr : Ready (k.instr c sf rn rd o) s) (hrd : rd ≠ 15) (ho : o.Allowed) :
    ∃ t, exec (k.instr c sf rn rd o) s = .next t ∧ t.reg rd = k.result s rn o ∧
      Completes sf [physReg s.core.cpsr.mode rd] (k.alu (o.first s rn) (o.shifter s) s.core.cpsr) (o.cycles s) s t := by
  obtain ⟨hvariant, hc⟩ := ready_dp hr
  rw [exec_dp k hc ho, ← k.alu_value]
  exact State.dpWrite_completes sf _ hvariant hrd

end
end

/-- Settles O11: the common procedure with the logical recipe. -/
theorem logicalInstructions : Obligations.LogicalInstructions := by
  intro k c sf rn rd o s hr hrd ho
  obtain ⟨t, hexec, hreg, ht⟩ := exec_dp_completes (.logic k) hr hrd ho
  exact ⟨t, hexec, hreg, ht.pc, fun h => (ht.set h).logical, ht.kept, ht.frame, ht.cost⟩

/-- Settles O12: the common procedure on the sum each opcode is computed as. -/
theorem arithmeticInstructions : Obligations.ArithmeticInstructions := by
  intro k c sf rn rd o s hr hrd ho
  obtain ⟨t, hexec, hreg, ht⟩ := exec_dp_completes (.arith k) hr hrd ho
  exact ⟨t, hexec, hreg, ht.pc, fun h => (ht.set h).arith, ht.kept, ht.frame, ht.cost⟩

/-- Settles O13: each test has the condition codes of AND, EOR, SUB or ADD. -/
theorem testInstructions : Obligations.TestInstructions := by
  intro k c rn rd o s hr hrd ho
  obtain ⟨hvariant, hc⟩ := ready_test hr
  rw [exec_test k hc ho]
  obtain ⟨t, hexec, ht⟩ := State.dpTest_completes (n := o.cycles s)
    (k.alu (o.first s rn) (o.shifter s) s.core.cpsr) hvariant hrd
  refine ⟨t, hexec, ht.pc, ?_, ?_, ?_, ?_, ht.frame, ht.cost⟩
  · rintro rfl; exact (ht.set rfl).logical
  · rintro rfl; exact (ht.set rfl).logical
  · rintro rfl; exact (ht.set rfl).arith
  · rintro rfl; exact (ht.set rfl).arith

/-- Settles O14: the common procedure ends in a branch. -/
theorem resultToPc : Obligations.ResultToPc := by
  intro k c rn o s hr ho
  obtain ⟨hvariant, hc⟩ := ready_dp hr
  rw [exec_dp k hc ho, ← k.alu_value]
  exact State.dpWrite_branches _ hvariant

end Sys2Proof.Machine
end

section
/-! The block transfers and status accesses the spec refuses, and the spec's example words (family 40). -/

namespace Sys2Proof.Machine

section
variable {s : State} {c : Cond}

/-! ## Saved status (R42, R416) -/

theorem State.spsr_sys (h : s.core.cpsr.mode = .sys) : s.spsr = none := by rw [State.spsr, h]; rfl

theorem State.mode_ne_usr_of_sys (h : s.core.cpsr.mode = .sys) : s.core.cpsr.mode ≠ .usr := by simp [h]

/-- User mode has no saved status register. -/
theorem State.mode_ne_usr_of_spsr (h : s.spsr ≠ none) : s.core.cpsr.mode ≠ .usr := by
  intro hm
  exact h (by rw [State.spsr, hm]; rfl)

theorem State.exceptionReturn_noSpsr {v : Word} (h : s.spsr = none) : s.exceptionReturn v = .refused .noSpsr := by
  rw [State.exceptionReturn, h]

theorem State.exceptionReturn_illegal {v : Word} {p : Spsr} (h : s.spsr = some p) (hp : p.restore = none) :
    s.exceptionReturn v = .refused .illegalMode := by
  simp only [State.exceptionReturn, h, hp]

/-- Why a return from an exception is refused in a privileged mode: no saved status, or one of an illegal mode. -/
inductive ReturnRefused (s : State) : Refusal → Prop
  | noSpsr (h : s.core.cpsr.mode = .sys) : ReturnRefused s .noSpsr
  | illegal (p : Spsr) (h : s.spsr = some p) (hp : p.restore = none) : ReturnRefused s .illegalMode

section
variable {r : Refusal}

theorem ReturnRefused.privileged (h : ReturnRefused s r) : s.core.cpsr.mode ≠ .usr := by
  cases h with
  | noSpsr h => exact State.mode_ne_usr_of_sys h
  | illegal p h => exact State.mode_ne_usr_of_spsr (by simp [h])

/-- The return is refused after any work that leaves the status registers. -/
theorem ReturnRefused.exceptionReturn {u : State} (h : ReturnRefused s r) (hu : u.spsr = s.spsr) (v : Word) :
    u.exceptionReturn v = .refused r := by
  cases h with
  | noSpsr h => exact State.exceptionReturn_noSpsr (hu.trans (State.spsr_sys h))
  | illegal p h hp => exact State.exceptionReturn_illegal (hu.trans h) hp

/-- In a privileged mode the S bit with `Rd = r15` means a return from an exception (R173). -/
theorem State.dpWrite_returns {n : Nat} (x : AluResult) (hm : s.core.cpsr.mode ≠ .usr) :
    s.dpWrite n true 15 x = (s.addCost n).exceptionReturn x.value :=
  (if_pos rfl).trans ((if_pos rfl).trans (State.privileged_of_mode hm _ _))

/-- Data processing that would restore the status (R173). -/
theorem exec_dp_returnRefused {k : DpOp} {rn : Reg} {o : Operand2} (hr : Ready (k.instr c true rn 15 o) s)
    (ho : o.Allowed) (h : ReturnRefused s r) : exec (k.instr c true rn 15 o) s = .refused r := by
  obtain ⟨-, hc⟩ := ready_dp hr
  rw [exec_dp k hc ho, State.dpWrite_returns _ h.privileged]
  exact h.exceptionReturn (u := s.addCost _) rfl _

end

/-! ## Block transfers (R240, R243, R245) -/

section
variable {p u sf w : Bool} {rn : Reg} {list : BitVec 16}

theorem blockRefusal_base {userBank : Bool} (hrn : rn = 15) : blockRefusal rn list userBank w = some .baseR15 :=
  if_pos hrn

theorem blockRefusal_empty {userBank : Bool} (hrn : rn ≠ 15) (hlist : list = 0) :
    blockRefusal rn list userBank w = some .emptyList := (if_neg hrn).trans (if_pos hlist)

theorem blockRefusal_userBank (hrn : rn ≠ 15) (hlist : list ≠ 0) :
    blockRefusal rn list true true = some .userBankWriteback :=
  (if_neg hrn).trans (if_neg hlist)

theorem blockRefusal_passed (hrn : rn ≠ 15) (hlist : list ≠ 0) : blockRefusal rn list false w = none :=
  (if_neg hrn).trans (if_neg hlist)

section
variable (hc : condHolds c s.core.cpsr = true)
include hc

theorem execLdm_refused {r : Refusal} (h : blockRefusal rn list (sf && !list.getLsbD 15) w = some r) :
    execLdm c p u sf w rn list s = .refused r := by
  rw [execLdm, State.when_true hc, h]

theorem execStm_refused {r : Refusal} (h : blockRefusal rn list sf w = some r) :
    execStm c p u sf w rn list s = .refused r := by
  rw [execStm, State.when_true hc, h]

end

/-- The loads of a block leave the status registers. -/
theorem State.loadMany_spsr (s : State) (m : Mode) (regs : List Reg) (a : Word) (k : Nat) :
    (s.loadMany m regs a k).spsr = s.spsr := by
  induction regs generalizing s a k with
  | nil => rfl
  | cons i rest ih =>
    have hstep (v : Word) : ((s.busRead (alignWord a) .word (blockKind k)).2.setMode m i v).spsr = s.spsr := by
      simp only [State.spsr, State.setMode_core_spsrs, State.setMode_core_cpsr, State.busRead_core]
    exact (ih _ _ _).trans (hstep _)

/-- An `LDM` with `r15` in its list is refused where its last load is, the status registers as before (R241, R243). -/
theorem State.ldmBody_refused {m : Mode} {ret : State → Word → Outcome} {r : Refusal} (h15 : list.getLsbD 15 = true)
    (hret : ∀ b v, b.spsr = s.spsr → ret b v = .refused r) : s.ldmBody m p u w rn list ret = .refused r := by
  refine (if_pos h15).trans (hret _ _ ?_)
  have hload (b : State) (a : Word) (k : Nat) : (b.loadLast a k).2.spsr = b.spsr := by
    simp only [State.spsr, State.loadLast, State.busRead_core]
  refine (hload _ _ _).trans ((State.loadMany_spsr _ _ _ _ _).trans ?_)
  split <;> rfl

theorem execLdm_returnRefused {r : Refusal} (hc : condHolds c s.core.cpsr = true) (hrn : rn ≠ 15)
    (h15 : list.getLsbD 15 = true) (h : ReturnRefused s r) : execLdm c p u true w rn list s = .refused r := by
  have hlist : list ≠ 0 := by rintro rfl; simp at h15
  simp only [execLdm, State.when_true hc, h15, Bool.not_true, Bool.and_false, blockRefusal_passed hrn hlist,
    Bool.and_true, if_true]
  rw [State.privileged_of_mode h.privileged]
  exact State.ldmBody_refused h15 fun b v hb => h.exceptionReturn hb v

end

/-! ## Status moves (R261, R262) -/

section
variable {r : Bool} {mask : BitVec 4}

section
variable (hc : condHolds c s.core.cpsr = true)
include hc

theorem execMrs_noSpsr {rd : Reg} (hm : s.core.cpsr.mode = .sys) : execMrs c true rd s = .refused .noSpsr := by
  rw [execMrs, State.when_true hc, if_pos rfl, State.privileged_of_mode (State.mode_ne_usr_of_sys hm),
    State.spsr_sys hm]

theorem execMrs_spsr_r15 (h : s.spsr ≠ none) : execMrs c true 15 s = .refused .systemOperandR15 := by
  obtain ⟨x, hx⟩ := Option.ne_none_iff_exists'.1 h
  rw [execMrs, State.when_true hc, if_pos rfl, State.privileged_of_mode (State.mode_ne_usr_of_spsr h), hx]
  rfl

theorem execMrs_cpsr_r15 : execMrs c false 15 s = .refused .systemOperandR15 := State.when_true hc _

theorem execMsrReg_r15 : execMsrReg c r mask 15 s = .refused .systemOperandR15 := State.when_true hc _

/-- A write of the system-control unit from `r15`, not `WFI` (R265). -/
theorem execMcr_r15 {o1 o2 : BitVec 3} {crn crm : BitVec 4} (hm : s.core.cpsr.mode ≠ .usr)
    (hw : isWfi o1 crn 15 o2 crm = false) : execMcr c o1 crn 15 15 o2 crm s = .refused .systemOperandR15 := by
  rw [execMcr, State.when_true hc, State.cp15, if_pos rfl, State.privileged_of_mode hm, hw]
  rfl

end

theorem State.msr_noSpsr {operand : Word} (hm : s.core.cpsr.mode = .sys) :
    s.msr true mask operand = .refused .noSpsr := by
  rw [State.msr, if_pos rfl, State.privileged_of_mode (State.mode_ne_usr_of_sys hm), State.spsr_sys hm]

/-- A field mask with the control bit selects every bit of the mode field (R262). -/
theorem fieldMask_mode {mask : BitVec 4} (h : mask.getLsbD 0 = true) :
    (fieldMask mask &&& ~~~0x00000020#32).extractLsb' 0 5 = BitVec.allOnes 5 := by
  revert mask
  decide

theorem mergeStatus_mode {old operand m : Word} (h : m.extractLsb' 0 5 = BitVec.allOnes 5) :
    (mergeStatus old operand m).extractLsb' 0 5 = operand.extractLsb' 0 5 := by
  refine BitVec.eq_of_getLsbD_eq fun k hk => ?_
  have hm : (m.extractLsb' 0 5).getLsbD k = true := by rw [h, BitVec.getLsbD_allOnes, decide_eq_true hk]
  rw [BitVec.getLsbD_extractLsb', decide_eq_true hk, Bool.true_and, Nat.zero_add] at hm
  simp [mergeStatus, hk, hm]

theorem Mode.ofCode_none {b : BitVec 5} (h : ∀ m : Mode, m.code ≠ b) : Mode.ofCode b = none :=
  Option.eq_none_iff_forall_ne_some.2 fun m hm => h m (Mode.ofCode_eq_some.1 hm)

/-- A control write of an illegal mode is refused (R262, U12). -/
theorem State.msr_illegal {operand : Word} (hm : s.core.cpsr.mode ≠ .usr) (hmask : mask.getLsbD 0 = true)
    (h : ∀ m : Mode, m.code ≠ operand.extractLsb' 0 5) : s.msr false mask operand = .refused .illegalMode := by
  have hnone : Cpsr.ofWord (mergeStatus s.core.cpsr.toWord operand (fieldMask mask &&& ~~~0x00000020#32)) = none := by
    refine Option.map_eq_none_iff.2 (Mode.ofCode_none fun m => ?_)
    exact (h m).trans_eq (mergeStatus_mode (fieldMask_mode hmask)).symm
  rw [State.msr, if_neg Bool.false_ne_true, if_pos hmask, State.privileged_of_mode hm, State.writeCpsr, hnone]

section
variable (hc : condHolds c s.core.cpsr = true)
include hc

theorem execMsrReg_operand {rm : Reg} (hrm : rm ≠ 15) : execMsrReg c r mask rm s = s.msr r mask (s.reg rm) :=
  (State.when_true hc _).trans (if_neg hrm)

theorem execMsrImm_operand {rot : BitVec 4} {imm8 : BitVec 8} :
    execMsrImm c r mask rot imm8 s = s.msr r mask ((imm8.setWidth 32).rotateRight (2 * rot.toNat)) :=
  State.when_true hc _

end

/-- Both forms of `MSR` that have a meaning write their operand (R262). -/
theorem exec_msr {i : Instr} {op : Word} (hr : Ready i s)
    (hi : (∃ rm, rm ≠ 15 ∧ i = .msrReg c r mask rm ∧ op = s.reg rm) ∨
      ∃ rot imm8, i = .msrImm c r mask rot imm8 ∧ op = (imm8.setWidth 32).rotateRight (2 * rot.toNat)) :
    exec i s = s.msr r mask op := by
  obtain ⟨-, hc⟩ := hr
  rcases hi with ⟨rm, hrm, rfl, rfl⟩ | ⟨rot, imm8, rfl, rfl⟩
  · exact execMsrReg_operand (hc c rfl) hrm
  · exact execMsrImm_operand (hc c rfl)

end

end

/-- Settles O36: the gate of block transfers, the return from an exception without a status to restore, and the
operands of status moves. -/
theorem refusedBlocksAndStatus : Obligations.RefusedBlocksAndStatus := by
  refine ⟨?block, ?userBank, fun rb s _ => ⟨rfl, rfl, rfl, rfl⟩, ?dpReturn, ?ldmReturn, ?mrsSpsr,
    fun c s ⟨_, hcond⟩ => execMrs_cpsr_r15 (hcond c rfl),
    fun c r mask s ⟨_, hcond⟩ => execMsrReg_r15 (hcond c rfl), fun i c r mask op s hr hi => ?msr,
    fun c o1 crn o2 crm s ⟨_, hcond⟩ => execMcr_r15 (hcond c rfl)⟩
  case block =>
    rintro c p u sf w rn list s i (rfl | rfl) ⟨-, hcond⟩
    · exact ⟨fun hrn => execLdm_refused (hcond c rfl) (blockRefusal_base hrn),
        fun hrn hlist => execLdm_refused (hcond c rfl) (blockRefusal_empty hrn hlist)⟩
    · exact ⟨fun hrn => execStm_refused (hcond c rfl) (blockRefusal_base hrn),
        fun hrn hlist => execStm_refused (hcond c rfl) (blockRefusal_empty hrn hlist)⟩
  case userBank =>
    intro c p u rn list s hrn hlist
    have huser : blockRefusal rn list true true = some .userBankWriteback := blockRefusal_userBank hrn hlist
    refine ⟨?_, ?_⟩
    · rintro ⟨-, hcond⟩
      exact execStm_refused (hcond c rfl) huser
    · rintro ⟨-, hcond⟩ h15
      exact execLdm_refused (hcond c rfl) (by rw [h15]; exact huser)
  case dpReturn =>
    intro k c rn o s hr ho
    exact ⟨fun h => exec_dp_returnRefused hr ho (.noSpsr h),
      fun p h hp => exec_dp_returnRefused hr ho (.illegal p h hp)⟩
  case ldmReturn =>
    rintro c p u w rn list s ⟨-, hcond⟩ hrn h15
    exact ⟨fun h => execLdm_returnRefused (hcond c rfl) hrn h15 (.noSpsr h),
      fun x h hx => execLdm_returnRefused (hcond c rfl) hrn h15 (.illegal x h hx)⟩
  case mrsSpsr =>
    rintro c rd s ⟨-, hcond⟩
    refine ⟨execMrs_noSpsr (hcond c rfl), ?_⟩
    rintro rfl
    exact execMrs_spsr_r15 (hcond c rfl)
  case msr =>
    rw [exec_msr hr hi]
    refine ⟨?_, ?_⟩
    · rintro rfl; exact State.msr_noSpsr
    · rintro rfl; exact State.msr_illegal

/-- Settles O3: the table's decoder run on each word. -/
theorem sampleWords : Obligations.SampleWords := by
  unfold Obligations.SampleWords
  decide +kernel

end Sys2Proof.Machine
end

section
/-! The multiplies (family 41): the cycles by the multiplier, the exact product, and the state at the end. -/

namespace Sys2Proof.Machine

/-! ## The cycles of the multiplier (R207) -/

/-- A word read with or without a sign. -/
def readAs (signed : Bool) : Word → Int := if signed then BitVec.toInt else unsigned

section
variable (w : Word)

theorem ushiftRight_eq_zero_iff (j : Nat) : w >>> j = 0 ↔ unsigned w < 2 ^ j := by
  rw [← BitVec.toNat_inj, toNat_ushiftRight_word, unsigned]
  refine (Nat.div_eq_zero_iff_lt (Nat.two_pow_pos j)).trans ?_
  exact_mod_cast Iff.rfl

theorem sshiftRight_eq_ones_iff (j : Nat) : w.sshiftRight j = 0xFFFFFFFF ↔ -2 ^ j ≤ w.toInt ∧ w.toInt < 0 := by
  have hpos : (0 : Int) < 2 ^ j := by positivity
  rw [← BitVec.toInt_inj, toInt_sshiftRight_word]
  refine (Int.ediv_eq_iff_of_pos hpos).trans ?_
  rw [show (0xFFFFFFFF : Word).toInt = -1 from rfl]
  omega

theorem quietTop_iff (signed : Bool) {k : Nat} (hk : 0 < k) :
    quietTop signed w k = true ↔ -2 ^ (32 - k) ≤ readAs signed w ∧ readAs signed w < 2 ^ (32 - k) := by
  have hpow : (2 : Int) ^ (32 - k) ≤ 2 ^ 31 := pow_le_pow_right₀ (by decide) (by omega)
  have hpos : (0 : Int) < 2 ^ (32 - k) := by positivity
  have hw := w.isLt
  simp only [quietTop, Bool.or_eq_true, Bool.and_eq_true, beq_iff_eq, ushiftRight_eq_zero_iff, sshiftRight_eq_ones_iff]
  cases signed with
  | false =>
    simp only [readAs, Bool.false_eq_true, if_false, false_and, or_false, unsigned]
    omega
  | true =>
    simp only [readAs, if_true, true_and, unsigned, BitVec.toInt_eq_toNat_cond]
    split <;> omega

/-- The count of bytes is read off the range the multiplier lies in. -/
theorem multiplyCycles_eq (signed : Bool) : multiplyCycles signed w =
    if -2 ^ 8 ≤ readAs signed w ∧ readAs signed w < 2 ^ 8 then 1
    else if -2 ^ 16 ≤ readAs signed w ∧ readAs signed w < 2 ^ 16 then 2
    else if -2 ^ 24 ≤ readAs signed w ∧ readAs signed w < 2 ^ 24 then 3 else 4 := by
  simp only [multiplyCycles, quietTop_iff w signed (k := 24) (by decide), quietTop_iff w signed (k := 16) (by decide),
    quietTop_iff w signed (k := 8) (by decide)]

end

/-! ## The exact product (R200 to R206) -/

section
variable (a b : Word)

theorem longProduct_eq (signed : Bool) :
    longProduct signed a b = BitVec.ofInt 64 (readAs signed a * readAs signed b) := by
  rw [BitVec.ofInt_mul]
  cases signed with
  | true => rfl
  | false =>
    change a.setWidth 64 * b.setWidth 64 = BitVec.ofInt 64 (a.toNat : Int) * BitVec.ofInt 64 (b.toNat : Int)
    rw [BitVec.ofInt_natCast, BitVec.ofInt_natCast, BitVec.ofNat_toNat, BitVec.ofNat_toNat]

theorem append_eq_ofInt (hi lo : Word) :
    (hi ++ lo : BitVec 64) = BitVec.ofInt 64 (unsigned hi * 2 ^ 32 + unsigned lo) := by
  apply BitVec.eq_of_toNat_eq
  have hhi := hi.isLt
  have hlo := lo.isLt
  rw [toNat_append_eq_cat, cat, BitVec.toNat_ofInt, unsigned, unsigned]
  omega

theorem halves_eq_toNat (p : BitVec 64) :
    unsigned (p.extractLsb' 32 32) * 2 ^ 32 + unsigned (p.extractLsb' 0 32) = p.toNat := by
  have hp := p.isLt
  rw [unsigned, unsigned, BitVec.extractLsb'_toNat, BitVec.extractLsb'_toNat, Nat.shiftRight_eq_div_pow,
    Nat.shiftRight_eq_div_pow]
  omega

/-- What a long multiply computes is the exact value modulo 2^64. -/
theorem longSum_eq (signed accumulate : Bool) (hi lo : Word) :
    longProduct signed a b + (if accumulate then (hi ++ lo : BitVec 64) else 0) =
      BitVec.ofInt 64 (readAs signed a * readAs signed b +
        if accumulate then unsigned hi * 2 ^ 32 + unsigned lo else 0) := by
  rw [BitVec.ofInt_add, longProduct_eq]
  cases accumulate with
  | true => rw [if_pos rfl, if_pos rfl, append_eq_ofInt]
  | false => rfl

theorem shortSum_eq (accumulate : Bool) (n : Word) :
    a * b + (if accumulate then n else 0) =
      BitVec.ofNat 32 (a.toNat * b.toNat + if accumulate then n.toNat else 0) := by
  rw [BitVec.ofNat_add, BitVec.ofNat_mul, BitVec.ofNat_toNat, BitVec.ofNat_toNat, BitVec.setWidth_eq,
    BitVec.setWidth_eq]
  cases accumulate with
  | true => rw [if_pos rfl, if_pos rfl, BitVec.ofNat_toNat, BitVec.setWidth_eq]
  | false => rfl

theorem ofInt_toNat_long (x : Int) : ((BitVec.ofInt 64 x).toNat : Int) = x % 2 ^ 64 := by
  rw [BitVec.toNat_ofInt]
  omega

end

/-! ## The end of a multiply (R33, R200) -/

section
variable {s t u : State} {sf : Bool} {rd rn rs rm rdHi rdLo : Reg} {signed accumulate : Bool}

/-- What a long multiply sets its condition codes by (R200): N and Z of all 64 bits, C and V the free values
from number `k` on (U2). Its value is the upper half. -/
def longResult (k : Nat) (p : BitVec 64) : AluResult :=
  { value := p.extractLsb' 32 32
    n := p.msb
    z := p == 0
    c := Config.freeFlag k
    v := Config.freeFlag (k + 1) }

section
variable {ps : List PhysReg} {n : Nat} (h : Within { dests := ps, flags := true } s u) (hmem : u.mem = s.mem)
  (hcpsr : u.core.cpsr = s.core.cpsr) (hvariant : s.core.cpsr.t = false) (hpc : u.pc = s.pc)
  (hcost : u.report.cost = s.report.cost + n)
include h hmem hcpsr hvariant hpc hcost

/-- The end of an instruction that also moves the count of free values to `k`. -/
theorem Completes.of_draws (r : AluResult) (k : Nat) :
    Completes sf ps r n s (if sf then (u.setFlags r).setDraws k else u).advance := by
  cases sf with
  | true => exact .of_within true r (h.trans (u.setDraws_within k)) hmem hcpsr hvariant hpc hcost
  | false => exact .of_within false r h hmem hcpsr hvariant hpc hcost

/-- The end of a multiply: N and Z from the result, C a free value, V kept (R200). -/
theorem Completes.of_mul (hdraws : u.draws = s.draws) (r : Word) :
    Completes sf ps (logical r (Config.freeFlag s.draws) s.core.cpsr) n s
      (if sf then u.setMulFlags r else u).advance := by
  rw [← hdraws, ← hcpsr]
  exact .of_draws h hmem hcpsr hvariant hpc hcost (logical r _ u.core.cpsr) (u.draws + 1)

/-- The end of a long multiply (R200). -/
theorem Completes.of_mull (hdraws : u.draws = s.draws) (p : BitVec 64) :
    Completes sf ps (longResult s.draws p) n s (if sf then u.setMullFlags p else u).advance := by
  rw [← hdraws]
  exact .of_draws h hmem hcpsr hvariant hpc hcost (longResult u.draws p) (u.draws + 2)

end

theorem State.reg_setMulFlags (r : Word) (j : Reg) : (s.setMulFlags r).reg j = s.reg j := State.reg_congr rfl rfl rfl j

theorem State.reg_setMullFlags (p : BitVec 64) (j : Reg) : (s.setMullFlags p).reg j = s.reg j :=
  State.reg_congr rfl rfl rfl j

/-- Neither the condition codes nor the advance change a general register. -/
theorem State.reg_ite_advance {j : Reg} (hj : j ≠ 15) (h : t.reg j = u.reg j) :
    (if sf then t else u).advance.reg j = u.reg j := by
  rw [State.reg_advance _ _ hj]
  cases sf with
  | true => exact h
  | false => rfl

theorem State.multiply_completes (hvariant : s.core.cpsr.t = false) (hrd : rd ≠ 15) (hrs : rs ≠ 15) (hrm : rm ≠ 15)
    (hrn : accumulate = true → rn ≠ 15) {r : Word}
    (hr : s.reg rm * s.reg rs + (if accumulate then s.reg rn else 0) = r) :
    ∃ t, s.multiply sf rd rs rm rn accumulate = .next t ∧ t.reg rd = r ∧
      Completes sf [physReg s.core.cpsr.mode rd] (logical r (Config.freeFlag s.draws) s.core.cpsr)
        (multiplyCycles true (s.reg rs) + (if accumulate then s.par.internal.mla else s.par.internal.mul)) s t := by
  subst hr
  refine ⟨_, if_neg (by simpa [hrd, hrs, hrm] using hrn), ?_, .of_mul
    ((s.addCost_within _).setReg rfl _ hrd List.mem_cons_self) rfl rfl hvariant
    ((s.addCost _).setReg_pc rd _ hrd) rfl rfl _⟩
  exact (State.reg_ite_advance hrd (State.reg_setMulFlags _ rd)).trans
    ((State.reg_setReg _ rd rd _ hrd).trans (if_pos rfl))

theorem State.multiplyLong_completes (hvariant : s.core.cpsr.t = false) (hhi : rdHi ≠ 15) (hlo : rdLo ≠ 15)
    (hrs : rs ≠ 15) (hrm : rm ≠ 15) (hne : rdHi ≠ rdLo) {p : BitVec 64}
    (hp : longProduct signed (s.reg rm) (s.reg rs) + (if accumulate then s.reg rdHi ++ s.reg rdLo else 0) = p) :
    ∃ t, s.multiplyLong signed accumulate sf rdHi rdLo rs rm = .next t ∧ t.reg rdHi = p.extractLsb' 32 32 ∧
      t.reg rdLo = p.extractLsb' 0 32 ∧
      Completes sf [physReg s.core.cpsr.mode rdHi, physReg s.core.cpsr.mode rdLo] (longResult s.draws p)
        (multiplyCycles signed (s.reg rs) + (if accumulate then s.par.internal.mlal else s.par.internal.mull)) s t := by
  subst hp
  refine ⟨_, if_neg (by simp [hhi, hlo, hrs, hrm, hne]), ?_, ?_, .of_mull
    (((s.addCost_within _).setReg rfl _ hlo (List.mem_cons_of_mem _ List.mem_cons_self)).setReg rfl _ hhi
      List.mem_cons_self) rfl rfl hvariant
    ((State.setReg_pc _ rdHi _ hhi).trans ((s.addCost _).setReg_pc rdLo _ hlo)) rfl rfl _⟩
  · exact (State.reg_ite_advance hhi (State.reg_setMullFlags _ rdHi)).trans
      ((State.reg_setReg _ rdHi rdHi _ hhi).trans (if_pos rfl))
  · refine (State.reg_ite_advance hlo (State.reg_setMullFlags _ rdLo)).trans ?_
    refine ((State.reg_setReg _ rdHi rdLo _ hhi).trans (if_neg hne.symm)).trans ?_
    exact (State.reg_setReg _ rdLo rdLo _ hlo).trans (if_pos rfl)

theorem HasFlags.long {k : Nat} {p : BitVec 64} (h : HasFlags t (longResult k p)) :
    (t.core.cpsr.n = true ↔ 2 ^ 63 ≤ (p.toNat : Int)) ∧ (t.core.cpsr.z = true ↔ (p.toNat : Int) = 0) := by
  obtain ⟨hn, hz, -, -⟩ := h
  rw [hn, hz]
  refine ⟨?_, ?_⟩
  · rw [longResult, BitVec.msb_eq_decide, decide_eq_true_iff]
    omega
  · exact beq_iff_eq.trans (BitVec.toNat_inj.symm.trans Int.natCast_eq_zero.symm)

end

section
variable {c : Cond} {sf signed accumulate : Bool} {rd rn rs rm rdHi rdLo : Reg} {i : Instr} {s : State}

/-- A full-variant instruction that is ready runs its effect (R133). -/
theorem Ready.runs {effect : State → Outcome} (hr : Ready i s) (hfull : i.isCompact = false) (hcond : i.cond = some c)
    (hexec : exec i s = s.when c effect) : s.core.cpsr.t = false ∧ exec i s = effect s := by
  obtain ⟨ht, hc⟩ := hr
  exact ⟨ht.trans hfull, hexec.trans (State.when_true (hc c hcond) effect)⟩

theorem exec_multiply (hr : Ready i s) (hi : i = if accumulate then .mla c sf rd rn rs rm else .mul c sf rd rn rs rm) :
    s.core.cpsr.t = false ∧ exec i s = s.multiply sf rd rs rm rn accumulate := by
  cases accumulate
  all_goals
    simp only [if_true, Bool.false_eq_true, if_false] at hi
    subst hi
    exact hr.runs (effect := fun s => s.multiply sf rd rs rm rn _) rfl rfl rfl

theorem exec_multiplyLong (hr : Ready i s)
    (hi : i = if signed then (if accumulate then .smlal c sf rdHi rdLo rs rm else .smull c sf rdHi rdLo rs rm)
      else (if accumulate then .umlal c sf rdHi rdLo rs rm else .umull c sf rdHi rdLo rs rm)) :
    s.core.cpsr.t = false ∧ exec i s = s.multiplyLong signed accumulate sf rdHi rdLo rs rm := by
  cases signed <;> cases accumulate
  all_goals
    simp only [if_true, Bool.false_eq_true, if_false] at hi
    subst hi
    exact hr.runs (effect := fun s => s.multiplyLong _ _ sf rdHi rdLo rs rm) rfl rfl rfl

end

/-- Settles O16: the product modulo 2^32, with the condition codes of the logical recipe but for a free C. -/
theorem multiplies : Obligations.Multiplies := by
  intro accumulate c sf rd rn rs rm i s r q hi hr hrd hrs hrm hrn hprod hq
  obtain ⟨hvariant, hexec⟩ := exec_multiply hr hi
  obtain ⟨t, hnext, hreg, ht⟩ := State.multiply_completes (sf := sf) hvariant hrd hrs hrm hrn
    ((shortSum_eq _ _ _ _).trans hprod.symm)
  refine ⟨t, hexec.trans hnext, hreg, ht.pc, fun h => ?_, ht.kept, ht.frame, ?_⟩
  · obtain ⟨hn, hz, -, hv⟩ := (ht.set h).logical
    exact ⟨hn, hz, hv⟩
  · rw [ht.cost, multiplyCycles_eq, hq, ← Nat.add_assoc]
    rfl

/-- Settles O17: the sum of 64 bits is the exact one modulo 2^64, and the two registers hold its halves. -/
theorem longMultiplies : Obligations.LongMultiplies := by
  intro signed accumulate c sf rdHi rdLo rs rm i s f p hi hr hhi hlo hrs hrm hne hf hp
  obtain ⟨hvariant, hexec⟩ := exec_multiplyLong hr hi
  obtain ⟨t, hnext, hregHi, hregLo, ht⟩ :=
    State.multiplyLong_completes (sf := sf) hvariant hhi hlo hrs hrm hne (longSum_eq _ _ signed accumulate _ _)
  obtain rfl : f = readAs signed := hf
  obtain rfl := hp.trans (ofInt_toNat_long _).symm
  refine ⟨t, hexec.trans hnext, ?_, ht.pc, fun h => (ht.set h).long, ht.kept, ht.frame, ?_⟩
  · rw [hregHi, hregLo, halves_eq_toNat]
  · rw [ht.cost, multiplyCycles_eq, ← Nat.add_assoc]

end Sys2Proof.Machine
end

section
/-! The single loads of both variants (family 42): each is one read through the Bus, the base written back, and the
loaded value in its register or in `pc`. -/

namespace Sys2Proof.Machine

/-! ## What a read through the Bus answers, costs and leaves -/

section
variable (s : State) (a : Word) (w : Width) (k : AccessKind)

theorem ioRead_report (r : Region) (off : Nat) : (ioRead r off w s).2.report = s.report := by
  unfold ioRead
  split
  · exact (s.callback_unreported _).report
  · rfl

theorem State.readRegion_cost (r : Region) : (s.readRegion r a w).2.report.cost = s.report.cost := by
  unfold State.readRegion
  dsimp only
  split
  · split
    · rfl
    · rw [(State.callback_unreported _ _).report]; rfl
    · rw [ioRead_report]; rfl
    · rw [backupRead, (State.callback_unreported _ _).report]; rfl
  · rfl

/-- What a read does after it is charged costs nothing (R96). -/
theorem State.busRead_cost : (s.busRead a w k).2.report.cost = (s.charge a w k).report.cost := by
  unfold State.busRead
  dsimp only
  split
  · rfl
  · exact State.readRegion_cost _ a w _

/-- A read of the Bus's own storage, or of no region, reaches no device (R102). -/
theorem State.busRead_quiet_devices (h : s.quiet a = true) : SameDevices s (s.busRead a w k).2 := by
  rw [s.busRead_quiet a w k h]
  exact s.charge_devices a w k

theorem ioRead_half (r : Region) (off : Nat) : ∃ b0 b1, (ioRead r off .half s).1 = ofLanes b0 b1 0 0 := by
  unfold ioRead
  split
  · exact ⟨_, _, trim_half _⟩
  · exact ⟨_, _, rfl⟩

theorem State.readRegion_half (r : Region) : ∃ b0 b1, (s.readRegion r a .half).1 = ofLanes b0 b1 0 0 := by
  unfold State.readRegion
  dsimp only
  split
  · split
    · exact ⟨_, _, rfl⟩
    · exact ⟨_, _, rfl⟩
    · exact ioRead_half _ r _
    · exact ⟨_, _, trim_half _⟩
  · exact ⟨_, _, trim_half _⟩

/-- The value of a halfword read is zero above its width (R87). -/
theorem State.busRead_half : ∃ b0 b1, (s.busRead a .half k).1 = ofLanes b0 b1 0 0 := by
  unfold State.busRead
  dsimp only
  split
  · exact ⟨_, _, trim_half _⟩
  · exact State.readRegion_half _ a _

end

/-! ## The five ways to load (R79 to R81) -/

/-- A halfword rotated by one byte: its low byte on top, its high byte lowest (R80). -/
theorem rotateRight_ofLanes_half (b0 b1 : Byte) : (ofLanes b0 b1 0 0).rotateRight 8 = b0 ++ 0#16 ++ b1 := by
  refine BitVec.eq_of_getLsbD_eq fun j hj => ?_
  rw [getLsbD_rotateRight_word _ (by decide) hj]
  by_cases htop : j < 24
  · rw [Nat.mod_eq_of_lt (by omega)]
    grind [ofLanes]
  · have hback : (j + 8) % 32 = j - 24 := by omega
    rw [hback]
    grind [ofLanes]

/-- The load makes the one access of its kind, and delivers the value the kind makes of the answer. -/
def Delivers (k : LoadKind) (load : State → Word → Word × State) : Prop :=
  ∀ s a, load s a = (k.value s a, (s.busRead (k.access a).1 (k.access a).2 .n).2)

theorem loadWord_delivers : Delivers .word State.loadWord := by
  intro s a
  refine Prod.ext ?_ rfl
  change BitVec.rotateRight _ (8 * (a.extractLsb' 0 2).toNat) = BitVec.rotateRight _ (8 * (a.toNat % 4))
  rw [BitVec.extractLsb'_toNat, Nat.shiftRight_zero]
  rfl

theorem loadByte_delivers : Delivers .byte State.loadByte := fun _ _ => rfl

theorem loadHalf_delivers : Delivers .half State.loadHalf := by
  intro s a
  refine Prod.ext ?_ rfl
  obtain ⟨b0, b1, hv⟩ := s.busRead_half (alignHalf a) .n
  obtain ⟨h0, h1, -, -⟩ := lane_ofLanes b0 b1 0 0
  have low : (ofLanes b0 b1 0 0).extractLsb' 0 8 = b0 := h0
  have high : (ofLanes b0 b1 0 0).extractLsb' 8 8 = b1 := h1
  have hvalue : s.busValue (LoadKind.half.access a) = ofLanes b0 b1 0 0 := hv
  simp only [State.loadHalf, LoadKind.value, hv, hvalue, low, high, rotateRight_ofLanes_half]

theorem loadSignedByte_delivers : Delivers .signedByte State.loadSignedByte := fun _ _ => rfl

/-- An even address is aligned to halfwords (R78). -/
theorem alignHalf_of_even {a : Word} (h : a.getLsbD 0 = false) : alignHalf a = a := by
  rw [BitVec.getLsbD, Nat.testBit_zero, decide_eq_false_iff_not] at h
  exact Width.align_of_aligned (w := .half) (by change a.toNat % 2 = 0; omega)

theorem loadSignedHalf_delivers : Delivers .signedHalf State.loadSignedHalf := by
  intro s a
  unfold State.loadSignedHalf LoadKind.value LoadKind.access State.busValue
  cases h : a.getLsbD 0 with
  | false => simp only [alignHalf_of_even h, Bool.false_eq_true, if_false]
  | true => rfl

/-- The five ways to load, by their kinds. -/
def LoadKind.load : LoadKind → State → Word → Word × State
  | .word => State.loadWord
  | .byte => State.loadByte
  | .half => State.loadHalf
  | .signedByte => State.loadSignedByte
  | .signedHalf => State.loadSignedHalf

theorem LoadKind.delivers (k : LoadKind) : Delivers k k.load := by
  cases k with
  | word => exact loadWord_delivers
  | byte => exact loadByte_delivers
  | half => exact loadHalf_delivers
  | signedByte => exact loadSignedByte_delivers
  | signedHalf => exact loadSignedHalf_delivers

/-! ## One read of the core, and the base -/

/-- The state once a load has made its access, with its internal cycle and the written-back base (R210, R211). -/
def State.afterRead (s : State) (x : Word × Width) (back : Option (Reg × Word)) : State :=
  ((s.busRead x.1 x.2 .n).2.addCost s.par.internal.load).setBack back

theorem State.setReg_advance_devices (s : State) (i : Reg) (v : Word) : SameDevices s (s.setReg i v).advance := .refl s

theorem State.reg_writePc (s : State) (v : Word) {j : Reg} (h : j ≠ 15) : (s.writePc v).reg j = s.reg j := by
  simp only [State.reg, if_neg h, State.getMode, State.writePc_core, RegFile.get_set, if_neg (physReg_ne_pc h)]

section
variable (s : State) (x : Word × Width) (back : Option (Reg × Word))

theorem State.setBack_cpsr : (s.setBack back).core.cpsr = s.core.cpsr := by cases back <;> rfl
theorem State.setBack_seq : (s.setBack back).core.seq = s.core.seq := by cases back <;> rfl

theorem State.afterRead_mem : (s.afterRead x back).mem = s.mem := (State.setBack_mem _ back).trans (s.busRead_mem _ _ _)

theorem State.afterRead_par : (s.afterRead x back).par = s.par := (State.setBack_par _ back).trans (s.busRead_par _ _ _)

theorem State.afterRead_step : (s.afterRead x back).step = s.step := by
  have hcpsr : (s.afterRead x back).core.cpsr = s.core.cpsr :=
    (State.setBack_cpsr _ back).trans (congrArg Core.cpsr (s.busRead_core _ _ _))
  rw [State.step, hcpsr]
  rfl

theorem State.afterRead_seq : (s.afterRead x back).core.seq = s.core.seq :=
  (State.setBack_seq _ back).trans (congrArg Core.seq (s.busRead_core _ _ _))

theorem State.afterRead_cost :
    (s.afterRead x back).report.cost = (s.charge x.1 x.2 .n).report.cost + s.par.internal.load :=
  (congrArg Report.cost (State.setBack_report _ back)).trans (congrArg (· + _) (s.busRead_cost _ _ _))

theorem State.afterRead_devices (h : s.quiet x.1 = true) : SameDevices s (s.afterRead x back) :=
  (s.busRead_quiet_devices _ _ _ h).trans (State.setBack_devices _ back)

/-- The bound of a load: the registers it loads, its base, and what a read can change. -/
def State.loadMay (s : State) (loaded : List PhysReg) (back : Option (Reg × Word)) : May where
  dests := loaded ++ (back.map fun b => physReg s.core.cpsr.mode b.1).toList
  devices := true

variable {back} (hback : ∀ rn v, back = some (rn, v) → rn ≠ 15)
include hback

theorem State.afterRead_pc : (s.afterRead x back).pc = s.pc :=
  (State.setBack_pc hback _).trans (congrArg (·.regs.pc) (s.busRead_core _ _ _))

theorem State.reg_afterRead {rn : Reg} {v : Word} (hb : back = some (rn, v)) : (s.afterRead x back).reg rn = v := by
  subst hb
  exact (State.reg_setReg _ rn rn v (hback rn v rfl)).trans (if_pos rfl)

theorem State.afterRead_within (loaded : List PhysReg) : Within (s.loadMay loaded back) s (s.afterRead x back) := by
  have read : Within (s.loadMay loaded back) s ((s.busRead x.1 x.2 .n).2.addCost s.par.internal.load) :=
    (s.busRead_within _ _ _ rfl).addCost _
  cases back with
  | none => exact read
  | some b =>
    have hmode := congrArg (·.cpsr.mode) (s.busRead_core x.1 x.2 .n)
    exact read.setReg hmode b.2 (hback b.1 b.2 rfl) (List.mem_append_right loaded List.mem_cons_self)

end

/-! ## The single loads (R211 to R223, R341 to R357) -/

section
variable {s : State} {k : LoadKind} {load : State → Word → Word × State} (hl : Delivers k load)
include hl

theorem State.singleLoad_next {wide p u w : Bool} {rn rd : Reg} {off : Word}
    (hbase : writesBack p w = true → rn ≠ 15) (hwide : rd = 15 → wide = true) :
    s.singleLoad wide load p u w rn rd off =
      .next ((s.afterRead (k.access (transferAddr p u (s.reg rn) off))
        (if writesBack p w then some (rn, transferBase u (s.reg rn) off) else none)).finishReg rd
          (k.value s (transferAddr p u (s.reg rn) off))) := by
  unfold State.singleLoad baseRefused State.writeBack
  dsimp only
  rw [hl s]
  cases hw : writesBack p w with
  | true => simpa [hbase hw, State.afterRead, State.setBack] using hwide
  | false => simpa [State.afterRead, State.setBack] using hwide

theorem State.tLoad_next {rd : LReg} {a : Word} : s.tLoad load rd a =
    .next ((s.afterRead (k.access a) none).finishReg (lowReg rd) (k.value s a)) := by
  unfold State.tLoad State.finishReg
  rw [hl s, if_neg (lowReg_ne_fifteen rd)]
  rfl

end

/-- An unsigned offset counted in units of `n` bytes (R156, R157). -/
theorem scaled_eq (n : Nat) {k : Nat} (imm : BitVec k) : scaled n imm = imm.setWidth 32 * BitVec.ofNat 32 n := by
  rw [scaled, BitVec.ofNat_mul, BitVec.ofNat_toNat]

section
variable {s : State} {i : Instr} {k : LoadKind} {a : Word} {rd : Reg}

/-- A single load that has a meaning is one read of the core, then a write of its register or of `pc`. -/
theorem exec_single_load (hr : Ready i s) (hx : loadOf s i = some (k, a, rd)) (ha : transferAllowed s i)
    (hpc : rd = 15 → k = .word) :
    exec i s = .next ((s.afterRead (k.access a) (backOf s i)).finishReg rd (k.value s a)) := by
  obtain ⟨-, hcond⟩ := hr
  obtain ⟨hoff, hhalf, hback, -⟩ := ha
  unfold exec
  have full {load : State → Word → Word × State} {wide p u w : Bool} {rn : Reg} {off : Word}
      (hload : load = k.load) (hwide : wide = decide (k = .word)) (haddr : a = transferAddr p u (s.reg rn) off)
      (hb : backOf s i = if writesBack p w then some (rn, transferBase u (s.reg rn) off) else none) :
      s.singleLoad wide load p u w rn rd off =
        .next ((s.afterRead (k.access a) (backOf s i)).finishReg rd (k.value s a)) := by
    rw [hload, hwide, haddr, hb]
    exact State.singleLoad_next k.delivers (fun hw => hback rn _ (hb.trans (if_pos hw))) fun e => decide_eq_true (hpc e)
  have compact {load : State → Word → Word × State} {b : Word} {r : LReg} (hload : load = k.load) (hb : b = a)
      (hrd : lowReg r = rd) (hnone : backOf s i = none) :
      s.tLoad load r b = .next ((s.afterRead (k.access a) (backOf s i)).finishReg rd (k.value s a)) := by
    rw [hload, hb, ← hrd, hnone]
    exact State.tLoad_next k.delivers
  cases i with
  | ldrImm c | ldrtImm c | ldrbImm c | ldrbtImm c =>
    cases hx
    refine (State.when_true (hcond c rfl) _).trans ?_
    exact full rfl rfl rfl rfl
  | ldrReg c | ldrtReg c | ldrbReg c | ldrbtReg c =>
    cases hx
    refine (State.when_true (hcond c rfl) _).trans ((withOffsetReg_allowed hoff).trans ?_)
    exact full rfl rfl rfl rfl
  | ldrhImm c | ldrsbImm c | ldrshImm c =>
    cases hx
    refine (State.when_true (hcond c rfl) _).trans ((halfwordForm_allowed hhalf).trans ?_)
    exact full rfl rfl rfl rfl
  | ldrhReg c | ldrsbReg c | ldrshReg c =>
    cases hx
    refine (State.when_true (hcond c rfl) _).trans ((halfwordForm_allowed hhalf).trans
      ((withOffsetReg_allowed hoff).trans ?_))
    exact full rfl rfl rfl rfl
  | tLdrReg | tLdrbReg | tLdrhReg | tLdsbReg | tLdshReg =>
    cases hx
    exact compact rfl rfl rfl rfl
  | tLdrPc | tLdrImm | tLdrbImm | tLdrhImm | tLdrSp =>
    cases hx
    exact compact rfl (congrArg (_ + ·) (scaled_eq _ _)) rfl rfl
  | _ => cases hx

/-- Only the full variant loads `r15`. -/
theorem full_of_loadOf_r15 (h : loadOf s i = some (k, a, 15)) : i.isCompact = false := by
  cases i with
  | tLdrPc | tLdrReg | tLdrbReg | tLdsbReg | tLdrhReg | tLdshReg | tLdrImm | tLdrbImm | tLdrhImm | tLdrSp =>
    exact absurd h (lowReg_load_ne k a)
  | ldrImm | ldrReg | ldrbImm | ldrbReg | ldrtImm | ldrtReg | ldrbtImm | ldrbtReg | ldrhImm | ldrhReg | ldrsbImm
  | ldrsbReg | ldrshImm | ldrshReg => rfl
  | _ => cases h

end

/-- Settles O18: a single load is one read of the core, whose value, cost and reach are those of the Bus, the write-back
of its base, and the write of its register over it. -/
theorem singleLoads : Obligations.SingleLoads := by
  intro i s k a rd hr hx ha hrd
  have hexec := exec_single_load hr hx ha fun e => absurd e hrd
  obtain ⟨-, -, hback, -⟩ := ha
  have hread := s.afterRead_within (k.access a) hback [physReg s.core.cpsr.mode rd]
  rw [State.finishReg, if_neg hrd] at hexec
  obtain ⟨-, regs, flags, control, variant, saved, halted, -⟩ :=
    (hread.setReg (hread.mode rfl) (k.value s a) hrd List.mem_cons_self).advance
  refine ⟨_, hexec, ?_, fun rn v hb hne => ?_, ?_, flags rfl, ⟨regs, control rfl, variant rfl, saved rfl⟩,
    State.peek_congr (s.afterRead_par _ _) (s.afterRead_mem _ _), halted rfl, s.afterRead_seq _ _,
    fun h => (s.afterRead_devices _ _ h).trans (State.setReg_advance_devices _ _ _), s.afterRead_cost _ _⟩
  · rw [State.reg_advance _ _ hrd, State.reg_setReg _ _ _ _ hrd, if_pos rfl]
  · rw [State.reg_advance _ _ (hback rn v hb), State.reg_setReg _ _ _ _ hrd, if_neg hne, s.reg_afterRead _ hback hb]
  · exact (State.advance_pc _).trans (congrArg₂ (· + ·)
      ((State.setReg_pc _ _ _ hrd).trans (s.afterRead_pc _ hback)) (s.afterRead_step _ _))

/-- Settles O19: the loaded word goes to `pc` as a control transfer of the full variant, after the base. -/
theorem loadsToPc : Obligations.LoadsToPc := by
  intro i s a hr hx ha
  have hexec := exec_single_load hr hx ha fun _ => rfl
  obtain ⟨hvariant, -⟩ := hr
  obtain ⟨-, -, hback, -⟩ := ha
  have hread := s.afterRead_within (LoadKind.word.access a) hback []
  obtain ⟨hlawful, regs, flags, control, variant, saved, -, -⟩ := hread.writePc (LoadKind.word.value s a)
  refine ⟨_, hexec, ?_, fun rn v hb => ?_, flags rfl, ⟨regs, control rfl, variant rfl, saved rfl⟩, ?_, ?_⟩
  · exact (State.writePc_pc _ _).trans
      (if_neg (ne_true_of_eq_false ((hread.variant rfl).trans (hvariant.trans (full_of_loadOf_r15 hx)))))
  · exact (State.reg_writePc _ _ (hback rn v hb)).trans (s.reg_afterRead _ hback hb)
  · exact State.peek_congr hlawful.par ((State.writePc_mem _ _).trans (s.afterRead_mem _ _))
  · exact congrArg Core.seq (State.writePc_core _ _)

end Sys2Proof.Machine
end

section
/-! The swaps (family 42): a read and a write of the core at one address, then the register. -/

namespace Sys2Proof.Machine

section
variable {s : State} {k : LoadKind} {load : State → Word → Word × State} {width : Width} {rn rd rm : Reg}

theorem Delivers.reads (hl : Delivers k load) : Reads load := by
  intro s a
  rw [hl s a]
  exact ⟨_, _, rfl⟩

/-- Where an address lies depends on the region table alone. -/
theorem State.plain_congr {t : State} (h : t.par = s.par) (a : Word) : t.plain a = s.plain a := by
  simp only [State.plain, h]

theorem State.quiet_congr {t : State} (h : t.par = s.par) (a : Word) : t.quiet a = s.quiet a := by
  simp only [State.quiet, h]

theorem State.addCost_devices (s : State) (n : Nat) : SameDevices s (s.addCost n) := .refl s

/-- The state once a swap has read and written at an address, with its internal cycle (R224). -/
def State.afterReadWrite (s : State) (a : Word) (w : Width) (v : Word) : State :=
  ((s.busRead a w .n).2.busWrite .core a w v .n).addCost s.par.internal.swap

section
variable (s : State) (a : Word) (w : Width) (v : Word)

theorem State.afterReadWrite_core : ∃ b, (s.afterReadWrite a w v).core = { s.core with halted := b } := by
  obtain ⟨b, hwritten⟩ := ((s.busRead a w .n).2.busWrite_frame a w .n .core v).core
  rw [State.busRead_core] at hwritten
  exact ⟨b, (State.addCost_core _ _).trans hwritten⟩

theorem State.afterReadWrite_plain_halted (h : s.plain a = true) :
    (s.afterReadWrite a w v).core.halted = s.core.halted := by
  have hplain : (s.busRead a w .n).2.plain a = true := (State.plain_congr (s.busRead_par a w .n) a).trans h
  rw [State.afterReadWrite, State.addCost_core, State.busWrite_plain_core _ a w v .n .core hplain,
    State.busRead_core]

theorem State.afterReadWrite_devices (h : s.quiet a = true) : SameDevices s (s.afterReadWrite a w v) := by
  have hquiet : (s.busRead a w .n).2.quiet a = true := (State.quiet_congr (s.busRead_par a w .n) a).trans h
  have hwritten := State.busWrite_quiet_devices _ a w v .n .core hquiet
  exact ((s.busRead_quiet_devices a w .n h).trans hwritten).trans (State.addCost_devices _ _)

end

theorem State.swap_next (hl : Delivers k load) (hx : k.access (s.reg rn) = (width.align (s.reg rn), width))
    (hrn : rn ≠ 15) (hrd : rd ≠ 15) (hrm : rm ≠ 15) : s.swap load width rn rd rm =
      .next (((s.afterReadWrite (width.align (s.reg rn)) width (s.reg rm)).setReg rd (k.value s (s.reg rn))).setSeq
        false).advance := by
  unfold State.swap
  dsimp only
  rw [if_neg (by simp [hrn, hrd, hrm]), hl s, hx]
  rfl

/-- A swap that has a meaning reads and writes one address, whose old content ends in `Rd` (R224). -/
theorem State.swap_completes (hl : Delivers k load)
    (hx : k.access (s.reg rn) = (width.align (s.reg rn), width)) (hm : Memory.wf s.mem)
    (hvariant : s.core.cpsr.t = false) (hrn : rn ≠ 15) (hrd : rd ≠ 15) (hrm : rm ≠ 15) :
    ∃ t, s.swap load width rn rd rm = .next t ∧ t.reg rd = k.value s (s.reg rn) ∧
      (∀ a, t.peek a = s.peekAfter [(width.align (s.reg rn), width, s.reg rm)] a) ∧ t.pc = s.pc + 4 ∧
      SameFlags s t ∧ CoreFrame [physReg s.core.cpsr.mode rd] s t ∧
      (s.plain (width.align (s.reg rn)) = true → t.core.halted = s.core.halted) ∧
      (s.quiet (width.align (s.reg rn)) = true → SameDevices s t) := by
  have hnext := State.swap_next hl hx hrn hrd hrm
  have hputs := State.swap_puts hm hl.reads hnext
  obtain ⟨hlawful, regs, flags, control, variant, saved, -, -⟩ := State.swap_within hl.reads hnext
  obtain ⟨b, hcore⟩ := s.afterReadWrite_core (width.align (s.reg rn)) width (s.reg rm)
  have hhalted := s.afterReadWrite_plain_halted (width.align (s.reg rn)) width (s.reg rm)
  have hquiet := s.afterReadWrite_devices (width.align (s.reg rn)) width (s.reg rm)
  generalize s.afterReadWrite (width.align (s.reg rn)) width (s.reg rm) = u at *
  refine ⟨_, hnext, ?_, hputs.peek hlawful.par, ?_, flags rfl, ⟨regs, control rfl, variant rfl, saved rfl⟩,
    hhalted, hquiet⟩
  · rw [State.reg_advance _ _ hrd]
    exact (State.reg_setReg _ rd rd _ hrd).trans (if_pos rfl)
  · have hpc : u.pc = s.pc := congrArg (·.regs.pc) hcore
    have hstep : u.step = 4 := by rw [State.step, hcore, hvariant]; rfl
    exact (State.advance_pc _).trans (congrArg₂ (· + ·) ((State.setReg_pc _ rd _ hrd).trans hpc) hstep)

end

/-- Settles O21: a byte swap and a word swap are one procedure, which reads the old content before it stores. -/
theorem swaps : Obligations.Swaps := by
  intro byte c rn rd rm i s hi hm hr hrn hrd hrm
  cases byte with
  | true =>
    obtain rfl : i = .swpb c rn rd rm := hi
    obtain ⟨hvariant, hexec⟩ := hr.runs (effect := fun s => s.swap State.loadByte .byte rn rd rm) rfl rfl rfl
    rw [hexec]
    exact State.swap_completes loadByte_delivers rfl hm hvariant hrn hrd hrm
  | false =>
    obtain rfl : i = .swp c rn rd rm := hi
    obtain ⟨hvariant, hexec⟩ := hr.runs (effect := fun s => s.swap State.loadWord .word rn rd rm) rfl rfl rfl
    rw [hexec]
    exact State.swap_completes loadWord_delivers rfl hm hvariant hrn hrd hrm

end Sys2Proof.Machine
end

section
/-! The multiple loads of both variants (family 43): each register of the list gets the word of its place in the block,
the base is written back around that, and `r15` ends them as a branch. -/

namespace Sys2Proof.Machine

/-! ## The words of a block (R240) -/

theorem add_blockBytes_succ (a : Word) (k : Nat) : a + blockBytes (k + 1) = a + 4 + blockBytes k := by
  rw [blockBytes, Nat.mul_succ, Nat.add_comm, BitVec.ofNat_add, ← BitVec.add_assoc]
  rfl

theorem eachWord_mono {p : Word → Bool} {a : Word} {m n : Nat} (h : eachWord p a n) (hle : m ≤ n) : eachWord p a m :=
  fun k hk => h k (Nat.lt_of_lt_of_le hk hle)

/-- A block of words is its first word and the block above it. -/
theorem eachWord_succ {p : Word → Bool} {a : Word} {n : Nat} (h : eachWord p a (n + 1)) :
    p (alignWord a) = true ∧ eachWord p (a + 4) n := by
  refine ⟨?_, fun k hk => ?_⟩
  · have first := h 0 n.succ_pos
    rwa [Nat.mul_zero, BitVec.ofNat_eq_ofNat, BitVec.add_zero] at first
  · have above := h (k + 1) (Nat.succ_lt_succ hk)
    rwa [show a + BitVec.ofNat 32 (4 * (k + 1)) = _ from add_blockBytes_succ a k] at above

section
variable {s t : State} {a : Word}

theorem State.blockWord_zero : s.blockWord a 0 = s.busValue (alignWord a, .word) :=
  congrArg (fun b => s.busValue (alignWord b, .word)) (BitVec.add_zero a)

theorem State.blockWord_succ (k : Nat) : s.blockWord a (k + 1) = s.blockWord (a + 4) k :=
  congrArg (fun b => s.busValue (alignWord b, .word)) (add_blockBytes_succ a k)

/-- What storage answers depends on the region table and memory alone, not on the cost or the accesses before (R87). -/
theorem State.busRead_value_congr (hpar : t.par = s.par) (hmem : t.mem = s.mem) (w : Width) (k j : AccessKind)
    (hp : s.plain a = true) : (t.busRead a w k).1 = (s.busRead a w j).1 := by
  cases hr : lookup s.par.regions a with
  | none => rw [s.busRead_unmapped a w j hr, t.busRead_unmapped a w k (hpar ▸ hr), hpar]
  | some r =>
    simp only [State.busRead, State.charge_par, hpar, hr, State.readRegion]
    split
    · rcases (State.plain_iff hr).1 hp with hs | hs <;> simp only [hs, State.charge_mem, hmem]
    · rfl

theorem State.blockWord_congr (hpar : t.par = s.par) (hmem : t.mem = s.mem) {n k : Nat} (hp : eachWord s.plain a n)
    (hk : k < n) : t.blockWord a k = s.blockWord a k :=
  State.busRead_value_congr hpar hmem .word .n .n (hp k hk)

theorem State.getMode_advance (m : Mode) {j : Reg} (h : j ≠ 15) : s.advance.getMode m j = s.getMode m j :=
  (RegFile.get_set _ _ _ _).trans (if_neg (physReg_ne_pc h))

theorem State.getMode_writePc (m : Mode) (v : Word) {j : Reg} (h : j ≠ 15) :
    (s.writePc v).getMode m j = s.getMode m j := by
  rw [State.getMode, State.writePc_core]
  exact (RegFile.get_set _ _ _ _).trans (if_neg (physReg_ne_pc h))

end

/-! ## The registers of a list (R24, R240) -/

/-- A physical register has one number, whatever mode sees it (R24). -/
theorem number_of_physReg_eq {m n : Mode} : ∀ {i j : Reg}, physReg m i = physReg n j → i = j := by
  cases m <;> cases n <;> decide

theorem physReg_mem_map {m n : Mode} {i : Reg} {regs : List Reg} (h : physReg n i ∈ regs.map (physReg m)) :
    i ∈ regs := by
  obtain ⟨j, hj, e⟩ := List.mem_map.1 h
  exact number_of_physReg_eq e ▸ hj

theorem mem_listRegs {list : BitVec 16} {i : Reg} : i ∈ listRegs list ↔ list.getLsbD i.val = true := by
  simp [listRegs]

theorem listRegs_nodup (list : BitVec 16) : (listRegs list).Nodup := (List.nodup_finRange 16).filter _

theorem lowListRegs_nodup (list : BitVec 8) : (lowListRegs list).Nodup := (List.nodup_finRange 16).filter _

theorem lt_eight_of_mem_lowListRegs {list : BitVec 8} {i : Reg} (h : i ∈ lowListRegs list) : i.val < 8 := by
  obtain ⟨-, hbit⟩ := List.mem_filter.1 h
  exact BitVec.lt_of_getLsbD hbit

theorem lowListRegs_ne_nil {list : BitVec 8} (h : list ≠ 0) : lowListRegs list ≠ [] := by
  intro e
  refine h (BitVec.eq_of_getLsbD_eq fun k hk => ?_)
  have hclear := List.filter_eq_nil_iff.1 e ⟨k, Nat.lt_trans hk (by decide)⟩ (List.mem_finRange _)
  exact (Bool.eq_false_iff.2 hclear).trans BitVec.getLsbD_zero.symm

theorem fifteen_not_mem_lowListRegs {list : BitVec 8} : 15 ∉ lowListRegs list := fun h => mem_lowListRegs h rfl

theorem lowPart_of_not_mem {regs : List Reg} (h : 15 ∉ regs) : lowPart regs = regs :=
  List.filter_eq_self.2 fun _ hi => decide_eq_true fun e => h (e ▸ hi)

/-- `r15` is the last of a list that names it. -/
theorem listRegs_eq_append {list : BitVec 16} (h : list.getLsbD 15 = true) :
    listRegs list = lowPart (listRegs list) ++ [15] := by
  have registers : List.finRange 16 = (List.finRange 15).map Fin.castSucc ++ [15] := by decide
  have low : ∀ i ∈ (List.finRange 15).map Fin.castSucc, i ≠ 15 := by decide
  generalize (List.finRange 15).map Fin.castSucc = l at registers low
  have named : listRegs list = l.filter (fun i => list.getLsbD i.val) ++ [15] := by
    rw [listRegs, registers, List.filter_append]
    exact congrArg _ (List.filter_cons_of_pos h)
  rw [named, lowPart, List.filter_append, List.filter_eq_self.2 fun i hi =>
    decide_eq_true (low i (List.mem_of_mem_filter hi))]
  exact congrArg (· ++ [15]) (List.append_nil _).symm

/-! ## The words loaded (R241) -/

section
variable (s : State) (m : Mode) {low : List Reg} (hlow : ∀ i ∈ low, i ≠ 15) (a : Word) (j : Nat)

theorem State.loadMany_devices (hq : eachWord s.quiet a low.length) : SameDevices s (s.loadMany m low a j) := by
  induction low generalizing s a j with
  | nil => exact .refl s
  | cons i rest ih =>
    obtain ⟨hfirst, habove⟩ := eachWord_succ hq
    have read := s.busRead_quiet_devices (alignWord a) .word (blockKind j) hfirst
    refine read.trans (ih ((s.busRead (alignWord a) .word (blockKind j)).2.setMode m i _) _ _ fun k hk => ?_)
    exact (State.quiet_congr (s.busRead_par _ _ _) _).trans (habove k hk)

include hlow

theorem State.loadMany_pc : (s.loadMany m low a j).pc = s.pc := by
  induction low generalizing s a j with
  | nil => rfl
  | cons i rest ih =>
    obtain ⟨hi, hrest⟩ := List.forall_mem_cons.1 hlow
    refine (ih _ hrest _ _).trans ((State.setMode_pc _ m i _ hi).trans ?_)
    exact congrArg (·.regs.pc) (s.busRead_core _ _ _)

/-- The bound of the loads: the registers loaded, and what a read can change. -/
theorem State.loadMany_bound :
    Within { dests := low.map (physReg m), devices := true } s (s.loadMany m low a j) :=
  s.loadMany_within m low a j rfl fun i hi => ⟨hlow i hi, List.mem_map_of_mem hi⟩

/-- Each register of the list ends with the word of its place; no later load of the list names it (R241). -/
theorem State.loadMany_words (hdistinct : low.Nodup) (hp : eachWord s.plain a low.length) (k : Nat)
    (hk : k < low.length) : (s.loadMany m low a j).getMode m low[k] = s.blockWord a k := by
  induction low generalizing s a j k with
  | nil => exact absurd hk (Nat.not_lt_zero k)
  | cons i rest ih =>
    obtain ⟨hi, hrest⟩ := List.forall_mem_cons.1 hlow
    obtain ⟨hnew, hdistinct⟩ := List.nodup_cons.1 hdistinct
    obtain ⟨hfirst, habove⟩ := eachWord_succ hp
    have hpar := s.busRead_par (alignWord a) .word (blockKind j)
    have hmem := s.busRead_mem (alignWord a) .word (blockKind j)
    cases k with
    | zero =>
      have kept := (State.loadMany_bound ((s.busRead (alignWord a) .word (blockKind j)).2.setMode m i
        (s.busRead (alignWord a) .word (blockKind j)).1) m hrest (a + 4) (j + 1)).regs (physReg m i)
        (physReg_ne_pc hi) fun h => hnew (physReg_mem_map h)
      have written := (State.getMode_setMode (s.busRead (alignWord a) .word (blockKind j)).2 m i
        (s.busRead (alignWord a) .word (blockKind j)).1 m i).trans (if_pos rfl)
      exact kept.trans (written.trans
        ((State.busRead_value_congr rfl rfl .word _ .n hfirst).trans State.blockWord_zero.symm))
    | succ k =>
      have hk : k < rest.length := Nat.lt_of_succ_lt_succ hk
      have hplain : eachWord ((s.busRead (alignWord a) .word (blockKind j)).2.setMode m i
          (s.busRead (alignWord a) .word (blockKind j)).1).plain (a + 4) rest.length := fun n hn =>
        (State.plain_congr hpar _).trans (habove n hn)
      refine (ih _ hrest _ _ hdistinct hplain k hk).trans
        ((State.blockWord_congr ?_ ?_ habove hk).trans (State.blockWord_succ k).symm)
      · exact hpar
      · exact hmem

end

/-! ## A block loaded into its registers (R240, R241) -/

/-- `u` is `s` with the registers of a list in bank `m` loaded from the block at `start`, but for `r15`, and the base
written back where the list does not name it; nothing else has changed but what a read can change. -/
structure Loaded (m : Mode) (regs : List Reg) (start : Word) (back : Option (Reg × Word)) (s u : State) : Prop where
  within : Within (s.loadMay (regs.map (physReg m)) back) s u
  pc : u.pc = s.pc
  mem : u.mem = s.mem
  base : ∀ rn v, back = some (rn, v) → rn ∉ regs → u.reg rn = v
  devices : eachWord s.quiet start regs.length → SameDevices s u
  words : eachWord s.plain start regs.length →
    ∀ k (h : k < regs.length), regs[k] ≠ 15 → u.getMode m regs[k] = s.blockWord start k

theorem mem_of_mem_loadMay {s : State} {loaded : List PhysReg} {p : PhysReg} (h : p ∈ (s.loadMay loaded none).dests) :
    p ∈ loaded := (List.append_nil loaded).subst (motive := (p ∈ ·)) h

/-- A bound holds with more registers in it. -/
theorem Within.widen {n : May} {s t : State} (h : Within n s t) {ps : List PhysReg} (hd : ∀ p ∈ n.dests, p ∈ ps) :
    Within { n with dests := ps } s t :=
  { h with regs := fun p hp hne => h.regs p hp fun hm => hne (hd p hm) }

section
variable {s u : State} {m : Mode} {regs : List Reg} {start : Word} {back : Option (Reg × Word)}

theorem State.loadMany_loaded (s : State) (m : Mode) (hlow : ∀ i ∈ regs, i ≠ 15) (hdistinct : regs.Nodup)
    (start : Word) (j : Nat) : Loaded m regs start none s (s.loadMany m regs start j) where
  within := (s.loadMany_bound m hlow start j).widen (fun _ hp => List.mem_append_left _ hp)
  pc := s.loadMany_pc m hlow start j
  mem := s.loadMany_mem m regs start j
  base := nofun
  devices := s.loadMany_devices m start j
  words hp k hk _ := s.loadMany_words m hlow start j hdistinct hp k hk

theorem Loaded.addCost (h : Loaded m regs start back s u) (n : Nat) : Loaded m regs start back s (u.addCost n) :=
  { h with within := h.within.addCost n, devices := fun hq => (h.devices hq).trans (u.addCost_devices n) }

/-- The words read so far stay where the word of `r15` is read after them. -/
theorem Loaded.loadLast (h : Loaded m regs start back s u) (j : Nat) :
    Loaded m (regs ++ [15]) start back s (u.loadLast (start + blockBytes regs.length) j).2 := by
  have hcore := u.busRead_core (alignWord (start + blockBytes regs.length)) .word (blockKind j)
  have hlength : (regs ++ [15]).length = regs.length + 1 := List.length_append
  refine ⟨?_, (congrArg (·.regs.pc) hcore).trans h.pc, (u.busRead_mem _ _ _).trans h.mem, fun rn v hb hrn => ?_,
    fun hq => ?_, fun hp k hk hne => ?_⟩
  · refine Within.trans (h.within.widen fun p hp => ?_) (u.busRead_within _ _ _ rfl)
    rw [List.map_append]
    exact (List.mem_append.1 hp).elim (fun h => List.mem_append_left _ (List.mem_append_left _ h))
      (List.mem_append_right _)
  · have kept := h.base rn v hb fun hm => hrn (List.mem_append_left _ hm)
    exact (State.reg_congr (congrArg Core.regs hcore) (congrArg (·.cpsr.mode) hcore) (congrArg (·.cpsr.t) hcore)
      rn).trans kept
  · rw [hlength] at hq
    refine (h.devices (eachWord_mono hq (Nat.le_succ _))).trans (u.busRead_quiet_devices _ _ _ ?_)
    exact (State.quiet_congr h.within.par _).trans (hq regs.length (Nat.lt_succ_self _))
  · rw [hlength] at hp hk
    have hlow : k < regs.length := by
      refine Nat.lt_of_le_of_ne (Nat.le_of_lt_succ hk) ?_
      rintro rfl
      exact hne (List.getElem_concat_length rfl _)
    rw [List.getElem_append_left hlow] at hne ⊢
    exact (congrArg (·.regs.get (physReg m regs[k])) hcore).trans
      (h.words (eachWord_mono hp (Nat.le_succ _)) k hlow hne)

/-- The word that goes to `r15` is the last of the block (R241). -/
theorem Loaded.last_word (h : Loaded m regs start back s u) (j : Nat)
    (hp : eachWord s.plain start (regs.length + 1)) :
    (u.loadLast (start + blockBytes regs.length) j).1 = s.blockWord start regs.length :=
  State.busRead_value_congr h.within.par h.mem .word _ .n (hp _ (Nat.lt_succ_self _))

variable (hback : ∀ rn v, back = some (rn, v) → rn ≠ 15)
include hback

/-- The base written back before the loads: a list that names it has the last word. -/
theorem Loaded.of_setBack (h : Loaded m regs start none (s.setBack back) u) : Loaded m regs start back s u := by
  have hpar := s.setBack_par back
  have hmem := s.setBack_mem back
  have based : Within (s.loadMay (regs.map (physReg m)) back) s (s.setBack back) := by
    cases back with
    | none => exact .refl s
    | some b => exact s.setReg_within b.1 b.2 (hback b.1 b.2 rfl) (List.mem_append_right _ List.mem_cons_self)
  refine ⟨based.trans (h.within.widen fun p hp => ?_), h.pc.trans (State.setBack_pc hback s), h.mem.trans hmem,
    fun rn v hb hrn => ?_, fun hq => ?_, fun hp k hk hne => ?_⟩
  · exact List.mem_append_left _ (mem_of_mem_loadMay hp)
  · subst hb
    have hmode : u.core.cpsr.mode = s.core.cpsr.mode := h.within.mode rfl
    have kept := h.within.regs (physReg s.core.cpsr.mode rn) (physReg_ne_pc (hback rn v rfl))
      fun hm => hrn (physReg_mem_map (mem_of_mem_loadMay hm))
    rw [State.reg, if_neg (hback rn v rfl), hmode, State.getMode, kept]
    exact (State.getMode_setMode s _ rn v _ rn).trans (if_pos rfl)
  · exact (s.setBack_devices back).trans (h.devices fun k hk => (State.quiet_congr hpar _).trans (hq k hk))
  · exact (h.words (fun k hk => (State.plain_congr hpar _).trans (hp k hk)) k hk hne).trans
      (State.blockWord_congr hpar hmem hp hk)

/-- The base written back after the loads, where the list does not name it. -/
theorem Loaded.setBack (h : Loaded m regs start none s u) (hnew : ∀ rn v, back = some (rn, v) → rn ∉ regs) :
    Loaded m regs start back s (u.setBack back) := by
  cases back with
  | none => exact h
  | some b =>
    obtain ⟨rn, v⟩ := b
    have hrn := hback rn v rfl
    refine ⟨?_, (u.setReg_pc rn v hrn).trans h.pc, h.mem, fun rn' v' hb _ => ?_, h.devices, fun hp k hk hne => ?_⟩
    · refine Within.setReg (h.within.widen fun p hp => ?_) (h.within.mode rfl) v hrn
        (List.mem_append_right _ List.mem_cons_self)
      exact List.mem_append_left _ (mem_of_mem_loadMay hp)
    · cases hb
      exact (State.reg_setReg _ rn rn v hrn).trans (if_pos rfl)
    · refine (State.getMode_setMode u _ rn v m regs[k]).trans ((if_neg fun e => ?_).trans (h.words hp k hk hne))
      exact hnew rn v rfl (number_of_physReg_eq e ▸ List.getElem_mem hk)

end

/-! ## The ends of the multiple loads (R241, R243, R359, R361) -/

/-- A multiple load ends at the next instruction, or with the last word of the block going to `r15` by `ret`. -/
def EndsLoads (ret : State → Word → Outcome) (m : Mode) (regs : List Reg) (start : Word) (back : Option (Reg × Word))
    (s : State) (o : Outcome) : Prop :=
  ∃ u, Loaded m regs start back s u ∧ (15 ∉ regs → o = .next u.advance) ∧
    (15 ∈ regs → ∃ v, o = ret u v ∧ (eachWord s.plain start regs.length → v = s.blockWord start (regs.length - 1)))

/-- A branch within the variant, the end of every multiple load but a status restore (R241). -/
def branchTo (u : State) (v : Word) : Outcome := .next (u.writePc v)

section
variable {s u : State} {m : Mode} {regs : List Reg} {start : Word} {back : Option (Reg × Word)}
  {ret : State → Word → Outcome}

theorem EndsLoads.next (h : Loaded m regs start back s u) (h15 : 15 ∉ regs) :
    EndsLoads ret m regs start back s (.next u.advance) := ⟨u, h, fun _ => rfl, fun hm => absurd hm h15⟩

theorem EndsLoads.last {v : Word} (h : Loaded m (regs ++ [15]) start back s u)
    (hv : eachWord s.plain start (regs.length + 1) → v = s.blockWord start regs.length) :
    EndsLoads ret m (regs ++ [15]) start back s (ret u v) := by
  refine ⟨u, h, fun hm => absurd (List.mem_append_right _ List.mem_cons_self) hm, fun _ => ⟨v, rfl, ?_⟩⟩
  rw [List.length_append]
  exact hv

/-- What holds of the register named holds of the base. -/
theorem base_of_eq_some {p : Reg → Prop} {r : Reg} {wb : Word} (h : p r) :
    ∀ rn v, some (r, wb) = some (rn, v) → p rn := by
  rintro rn v ⟨⟩
  exact h

theorem blockRefusal_eq_none {rn : Reg} {list : BitVec 16} {userBank w : Bool} (hrn : rn ≠ 15) (hlist : list ≠ 0)
    (hbank : ¬(userBank = true ∧ w = true)) : blockRefusal rn list userBank w = none :=
  (if_neg hrn).trans ((if_neg hlist).trans (if_neg (mt Bool.and_eq_true_iff.1 hbank)))

/-- The common procedure of `LDM`, whatever the load of `r15` does (R241, R243). -/
theorem State.ldmBody_ends {p u w : Bool} {rn : Reg} {list : BitVec 16} (hrn : rn ≠ 15) :
    EndsLoads ret m (listRegs list) (blockStart p u (s.reg rn) (listRegs list).length)
      (if w then some (rn, blockBase u (s.reg rn) (listRegs list).length) else none) s
      (s.ldmBody m p u w rn list ret) := by
  unfold State.ldmBody
  dsimp only
  generalize blockStart p u (s.reg rn) (listRegs list).length = start
  generalize blockBase u (s.reg rn) (listRegs list).length = wb
  have hback : ∀ r v, (if w then some (rn, wb) else none) = some (r, v) → r ≠ 15 := fun r v hb => by
    cases w with
    | true => cases hb; exact hrn
    | false => cases hb
  have based : (if w then s.setReg rn wb else s) = s.setBack (if w then some (rn, wb) else none) := by cases w <;> rfl
  rw [based]
  generalize (if w then some (rn, wb) else none) = back at hback
  have hpar := s.setBack_par back
  have loaded := ((s.setBack back).loadMany_loaded m (fun i hi => (mem_lowPart hi).2)
    ((listRegs_nodup list).filter _) start 0).addCost (s.setBack back).par.internal.load
  split
  · next h15 =>
    have hregs := listRegs_eq_append h15
    generalize lowPart (listRegs list) = low at loaded hregs
    rw [hregs]
    refine .last ((loaded.loadLast low.length).of_setBack hback) fun hp => ?_
    have hword := loaded.last_word low.length fun k hk => (State.plain_congr hpar _).trans (hp k hk)
    exact hword.trans (State.blockWord_congr hpar (s.setBack_mem back) hp (Nat.lt_succ_self _))
  · next h15 =>
    have hnot : 15 ∉ listRegs list := mt mem_listRegs.1 h15
    rw [lowPart_of_not_mem hnot] at loaded ⊢
    exact .next (loaded.of_setBack hback) hnot

theorem execLdm_ends {c : Cond} {p u sf w : Bool} {rn : Reg} {list : BitVec 16} (hc : condHolds c s.core.cpsr = true)
    (ha : blockAllowed (.ldm c p u sf w rn list)) (hs : restoresStatus (.ldm c p u sf w rn list) = false) :
    EndsLoads branchTo (if sf && !list.getLsbD 15 then .usr else s.core.cpsr.mode) (listRegs list)
      (blockStart p u (s.reg rn) (listRegs list).length)
      (if w then some (rn, blockBase u (s.reg rn) (listRegs list).length) else none) s
      (execLdm c p u sf w rn list s) := by
  obtain ⟨hrn, hlist, hbank⟩ := ha
  have hs : (sf && list.getLsbD 15) = false := hs
  have hpass : blockRefusal rn list (sf && !list.getLsbD 15) w = none :=
    blockRefusal_eq_none hrn hlist fun h => hbank (by simpa [and_assoc] using h)
  have hmode : (if sf && !list.getLsbD 15 then Mode.usr else s.core.cpsr.mode) =
      if sf then .usr else s.core.cpsr.mode := by
    cases sf with
    | true => rw [Bool.true_and] at hs; rw [hs]; rfl
    | false => rfl
  rw [hmode, execLdm, State.when_true hc, hpass]
  exact (if_neg (ne_true_of_eq_false hs)).symm ▸ State.ldmBody_ends hrn

theorem execTPop_ends {r : Bool} {rlist : BitVec 8} (ha : r = true ∨ rlist ≠ 0) :
    EndsLoads branchTo s.core.cpsr.mode (lowListRegs rlist ++ if r then [15] else []) (s.reg 13)
      (some (13, s.reg 13 + blockBytes (lowListRegs rlist ++ if r then [15] else []).length)) s
      (execTPop r rlist s) := by
  have loaded := (s.loadMany_loaded s.core.cpsr.mode (fun i hi => mem_lowListRegs hi) (lowListRegs_nodup rlist)
    (s.reg 13) 0).addCost s.par.internal.load
  have h13 : 13 ∉ lowListRegs rlist := fun h => absurd (lt_eight_of_mem_lowListRegs h) (by decide)
  unfold execTPop
  dsimp only
  cases r with
  | true =>
    simp only [Bool.not_true, Bool.and_false, Bool.false_eq_true, if_false, if_true, List.length_append]
    refine .last ((loaded.loadLast (lowListRegs rlist).length).setBack (base_of_eq_some (by decide))
      (base_of_eq_some ?_)) (loaded.last_word _)
    exact fun h => (List.mem_append.1 h).elim h13 (by decide)
  | false =>
    have hlist := lowListRegs_ne_nil (ha.resolve_left Bool.false_ne_true)
    simp only [hlist, decide_false, Bool.false_and, Bool.false_eq_true, if_false, List.append_nil]
    exact .next (loaded.setBack (base_of_eq_some (by decide)) (base_of_eq_some h13)) fifteen_not_mem_lowListRegs

theorem execTLdmia_ends {rb : LReg} {rlist : BitVec 8} (ha : rlist ≠ 0) :
    EndsLoads branchTo s.core.cpsr.mode (lowListRegs rlist) (s.low rb)
      (some (lowReg rb, s.low rb + blockBytes (lowListRegs rlist).length)) s (execTLdmia rb rlist s) := by
  unfold execTLdmia
  dsimp only
  rw [if_neg (lowListRegs_ne_nil ha)]
  refine .next (Loaded.of_setBack (base_of_eq_some (lowReg_ne_fifteen rb)) ?_) fifteen_not_mem_lowListRegs
  exact (State.loadMany_loaded _ _ (fun i hi => mem_lowListRegs hi) (lowListRegs_nodup rlist) _ 0).addCost _

end

section
variable {s : State} {i : Instr} {m : Mode} {regs : List Reg} {start : Word}

/-- A multiple load that has a meaning and restores no status loads its block, and branches if `r15` is in its list. -/
theorem exec_multiple_load (hr : Ready i s) (hx : blockLoad s i = some (m, regs, start)) (ha : blockAllowed i)
    (hs : restoresStatus i = false) : EndsLoads branchTo m regs start (backOf s i) s (exec i s) := by
  obtain ⟨-, hcond⟩ := hr
  unfold exec
  cases i with
  | ldm c =>
    cases hx
    exact execLdm_ends (hcond c rfl) ha hs
  | tPop =>
    cases hx
    exact execTPop_ends ha
  | tLdmia =>
    cases hx
    exact execTLdmia_ends ha
  | _ => cases hx

/-- Only a load of `r15` restores the status (R243). -/
theorem restoresStatus_of_blockLoad (hx : blockLoad s i = some (m, regs, start)) (h15 : 15 ∉ regs) :
    restoresStatus i = false := by
  cases i with
  | ldm c p u sf w rn list =>
    cases hx
    have hbit : list.getLsbD 15 = false := Bool.eq_false_iff.2 fun h => h15 (mem_listRegs.2 h)
    exact (congrArg (sf && ·) hbit).trans (Bool.and_false sf)
  | tPop | tLdmia => rfl
  | _ => cases hx

/-- A base a block transfer writes back is never `r15` (U6). -/
theorem back_ne_fifteen_of_blockAllowed (ha : blockAllowed i) : ∀ rn v, backOf s i = some (rn, v) → rn ≠ 15 := by
  intro rn v hb
  cases i with
  | ldm c p u sf w rn' list | stm c p u sf w rn' list =>
    obtain ⟨hrn, -⟩ := ha
    cases w with
    | true => cases hb; exact hrn
    | false => cases hb
  | tPush | tPop => cases hb; decide
  | tStmia | tLdmia => cases hb; exact lowReg_ne_fifteen _
  | _ => exact ha.elim

end

/-- Settles O22: the block loaded into its registers, then the next instruction. -/
theorem multipleLoads : Obligations.MultipleLoads := by
  intro i s m regs start hr hx ha h15
  obtain ⟨u, loaded, hnext, -⟩ := exec_multiple_load hr hx ha (restoresStatus_of_blockLoad hx h15)
  obtain ⟨hlawful, frame, flags, control, variant, saved, halted, -⟩ := loaded.within.advance
  refine ⟨u.advance, hnext h15, ?_, flags rfl, ⟨frame, control rfl, variant rfl, saved rfl⟩,
    State.peek_congr hlawful.par loaded.mem, halted rfl, fun rn v hb hrn => ?_, loaded.devices, fun hp k hk => ?_⟩
  · have hstep : u.step = s.step := by rw [State.step, loaded.within.variant rfl]; rfl
    exact (State.advance_pc u).trans (congrArg₂ (· + ·) loaded.pc hstep)
  · rw [State.reg_advance _ _ (back_ne_fifteen_of_blockAllowed ha rn v hb), loaded.base rn v hb hrn]
  · have hne : regs[k] ≠ 15 := fun e => h15 (e ▸ List.getElem_mem hk)
    rw [State.getMode_advance m hne, loaded.words hp k hk hne]

/-- Settles O23: the block loaded into its registers, then a branch to its last word. -/
theorem multipleLoadsToPc : Obligations.MultipleLoadsToPc := by
  intro i s m regs start hr hx ha h15 hs
  obtain ⟨u, loaded, -, hbranch⟩ := exec_multiple_load hr hx ha hs
  obtain ⟨v, hexec, hv⟩ := hbranch h15
  obtain ⟨hlawful, frame, flags, control, variant, saved, -, -⟩ := loaded.within.writePc v
  refine ⟨u.writePc v, hexec, flags rfl, ⟨frame, control rfl, variant rfl, saved rfl⟩,
    State.peek_congr hlawful.par ((State.writePc_mem _ _).trans loaded.mem), fun rn v' hb hrn => ?_,
    fun hp => ⟨fun k hk hne => ?_, ?_⟩⟩
  · rw [State.reg_writePc _ _ (back_ne_fifteen_of_blockAllowed ha rn v' hb), loaded.base rn v' hb hrn]
  · rw [State.getMode_writePc m v hne, loaded.words hp k hk hne]
  · rw [State.writePc_pc, State.alignPc, loaded.within.variant rfl, hv hp]
    rfl

end Sys2Proof.Machine
end

section
/-! The multiple stores of both variants (family 43): the words of the block written in order, then the base written
back; which values they are. -/

namespace Sys2Proof.Machine

/-! ## The words stored (R240, R242) -/

section
variable (s : State) (vs : List Word) (a : Word) (j : Nat)

theorem State.storeMany_frame : WriteFrame s (s.storeMany vs a j) := by
  induction vs generalizing s a j with
  | nil => exact .refl s
  | cons v rest ih => exact (s.busWrite_frame (alignWord a) .word (blockKind j) .core v).trans (ih _ _ _)

/-- Words that all go to storage reach no register, so they leave the core (R448). -/
theorem State.storeMany_plain_core (hp : ∀ x ∈ storedWords a vs, s.plain x.1 = true) :
    (s.storeMany vs a j).core = s.core := by
  induction vs generalizing s a j with
  | nil => rfl
  | cons v rest ih =>
    obtain ⟨hfirst, habove⟩ := List.forall_mem_cons.1 hp
    have hpar := (s.busWrite_frame (alignWord a) .word (blockKind j) .core v).par
    exact (ih _ _ _ fun x hx => (State.plain_congr hpar _).trans (habove x hx)).trans
      (s.busWrite_plain_core (alignWord a) .word v (blockKind j) .core hfirst)

/-- Words that all go to the Bus's own storage reach no device (R102). -/
theorem State.storeMany_quiet_devices (hq : ∀ x ∈ storedWords a vs, s.quiet x.1 = true) :
    SameDevices s (s.storeMany vs a j) := by
  induction vs generalizing s a j with
  | nil => exact .refl s
  | cons v rest ih =>
    obtain ⟨hfirst, habove⟩ := List.forall_mem_cons.1 hq
    have hpar := (s.busWrite_frame (alignWord a) .word (blockKind j) .core v).par
    exact (s.busWrite_quiet_devices (alignWord a) .word v (blockKind j) .core hfirst).trans
      (ih _ _ _ fun x hx => (State.quiet_congr hpar _).trans (habove x hx))

end

/-- The state after a multiple store: the words in order, the written-back base, a non-sequential fetch next, `pc` at
the next instruction (R242, R567). -/
def State.afterStores (s : State) (vs : List Word) (a : Word) (back : Option (Reg × Word)) : State :=
  (((s.storeMany vs a 0).setBack back).setSeq false).advance

section
variable (s : State) (vs : List Word) (a : Word) (back : Option (Reg × Word))

theorem State.afterStores_halted (hp : ∀ x ∈ storedWords a vs, s.plain x.1 = true) :
    (s.afterStores vs a back).core.halted = s.core.halted :=
  (State.setBack_halted _ back).trans (congrArg Core.halted (s.storeMany_plain_core vs a 0 hp))

theorem State.afterStores_devices (hq : ∀ x ∈ storedWords a vs, s.quiet x.1 = true) :
    SameDevices s (s.afterStores vs a back) :=
  (s.storeMany_quiet_devices vs a 0 hq).trans (State.setBack_devices _ back)

variable {back} (hback : ∀ rn v, back = some (rn, v) → rn ≠ 15)
include hback

theorem State.afterStores_within : Within (s.storeMay back) s (s.afterStores vs a back) := by
  have written : Within (s.storeMay back) s (s.storeMany vs a 0) := s.storeMany_within vs a 0 rfl rfl
  refine .advance (.setSeq ?_ _)
  cases back with
  | none => exact written
  | some b => exact written.setReg (written.mode rfl) b.2 (hback b.1 b.2 rfl) List.mem_cons_self

theorem State.afterStores_pc : (s.afterStores vs a back).pc = s.pc + s.step := by
  obtain ⟨b, hcore⟩ := (s.storeMany_frame vs a 0).core
  have hpc : ((s.storeMany vs a 0).setBack back).pc = s.pc :=
    (State.setBack_pc hback _).trans (congrArg (·.regs.pc) hcore)
  have hstep : ((s.storeMany vs a 0).setBack back).step = s.step := by
    rw [State.step, State.setBack_cpsr, hcore]
    rfl
  exact (State.advance_pc _).trans (congrArg₂ (· + ·) hpc hstep)

theorem State.reg_afterStores {rn : Reg} {v : Word} (hb : back = some (rn, v)) :
    (s.afterStores vs a back).reg rn = v := by
  subst hb
  have hrn := hback rn v rfl
  exact (State.reg_advance _ rn hrn).trans ((State.reg_setReg _ rn rn v hrn).trans (if_pos rfl))

end

/-! ## The multiple stores (R242, R358, R360) -/

section
variable {s : State} {i : Instr}

/-- A multiple store that has a meaning writes its words in order, and its base. -/
theorem exec_multiple_store (hr : Ready i s) (hshape : shape i = .stores) (ha : blockAllowed i) :
    ∃ vs a, stored s i = storedWords a vs ∧ exec i s = .next (s.afterStores vs a (backOf s i)) := by
  obtain ⟨-, hcond⟩ := hr
  unfold exec
  cases i with
  | stm c p u sf w rn list =>
    obtain ⟨hrn, hlist, hbank⟩ := ha
    refine ⟨_, _, rfl, ?_⟩
    refine (State.when_true (hcond c rfl) _).trans ?_
    rw [blockRefusal_eq_none hrn hlist hbank]
    cases w <;> rfl
  | tPush r rlist =>
    refine ⟨_, _, rfl, if_neg fun e => ?_⟩
    obtain ⟨hlow, hlink⟩ := List.append_eq_nil_iff.1 e
    rcases ha with rfl | ha
    · exact List.cons_ne_nil _ _ hlink
    · exact lowListRegs_ne_nil ha hlow
  | tStmia => exact ⟨_, _, rfl, if_neg (lowListRegs_ne_nil ha)⟩
  | _ => cases hshape

end

/-! ## The values stored (R242, R244) -/

section
variable (s : State) (m : Mode) (back : Option (Reg × Word))

theorem State.storeValues_length (regs : List Reg) (j : Nat) : (s.storeValues m back regs j).length = regs.length := by
  induction regs generalizing j with
  | nil => rfl
  | cons i rest ih => exact congrArg Nat.succ (ih (j + 1))

/-- From place `k` on, the values are those of the registers from place `k` on. -/
theorem State.storeValues_drop (regs : List Reg) (j k : Nat) :
    (s.storeValues m back regs j).drop k = s.storeValues m back (regs.drop k) (j + k) := by
  induction k generalizing regs j with
  | zero => rfl
  | succ k ih =>
    cases regs with
    | nil => rfl
    | cons i rest => exact (ih rest (j + 1)).trans (by rw [Nat.add_right_comm, Nat.add_assoc]; rfl)

/-- The value put out for the register at place `k` (R242, R244). -/
theorem State.storeValues_head {v : Word} {vs : List Word} {i : Reg} {rest : List Reg} {k : Nat}
    (h : v :: vs = s.storeValues m back (i :: rest) k) :
    (∀ wb, 0 < k → i ≠ 15 → back = some (i, wb) → v = wb) ∧
    ((k = 0 ∨ ∀ wb, back ≠ some (i, wb)) → i ≠ 15 → v = s.getMode m i) ∧ (i = 15 → v = s.pc + 12) := by
  obtain ⟨rfl, -⟩ := List.cons.inj h
  refine ⟨fun wb hk hi hb => ?_, fun hold hi => ?_, fun hi => if_pos hi⟩
  · subst hb
    rw [if_neg hi]
    exact if_pos (by simp [Nat.ne_of_gt hk])
  · rw [if_neg hi]
    cases back with
    | none => rfl
    | some b =>
      obtain ⟨rn, wb⟩ := b
      refine if_neg ?_
      rcases hold with rfl | hother
      · simp
      · simpa using fun e : i = rn => absurd (e ▸ rfl) (hother wb)

end

/-- Settles O24: a multiple store writes the words its meaning computes, in order, then its base; each value is the
first of the values from its place on. -/
theorem multipleStores : Obligations.MultipleStores := by
  refine ⟨fun i s hm hr hshape ha => ?_, fun s m back regs k hk _ => ?_⟩
  · obtain ⟨vs, a, hstored, hexec⟩ := exec_multiple_store hr hshape ha
    have hback := back_ne_fifteen_of_blockAllowed (s := s) ha
    obtain ⟨hlawful, frame, flags, control, variant, saved, -, -⟩ := s.afterStores_within vs a hback
    have hputs := exec_puts hm hr hexec
    rw [hstored] at hputs ⊢
    exact ⟨_, hexec, hputs.peek hlawful.par, fun _ _ => s.reg_afterStores vs a hback, s.afterStores_pc vs a hback,
      flags rfl, ⟨frame, control rfl, variant rfl, saved rfl⟩, rfl, s.afterStores_halted vs a _,
      s.afterStores_devices vs a _⟩
  · have hk' : k < (s.storeValues m back regs 0).length := (s.storeValues_length m back regs 0).symm ▸ hk
    have hdrop := s.storeValues_drop m back regs 0 k
    rw [Nat.zero_add, List.drop_eq_getElem_cons hk, List.drop_eq_getElem_cons hk'] at hdrop
    exact ⟨hk', s.storeValues_head m back hdrop⟩

end Sys2Proof.Machine
end

section
/-! Branches of the full variant (family 44): where a displacement leads, and what an exchange leaves. -/

namespace Sys2Proof.Machine

/-! ## Displacements (R148, R250) -/

/-- An immediate shifted left in the words of the machine is its exact multiple, modulo 2^32. -/
theorem signExtend_shiftLeft_eq_ofInt {n : Nat} (x : BitVec n) (k : Nat) :
    x.signExtend 32 <<< k = BitVec.ofInt 32 (x.toInt * 2 ^ k) := by
  have hpow : BitVec.twoPow 32 k = BitVec.ofInt 32 (2 ^ k) := by
    rw [show (2 : Int) ^ k = ((2 ^ k : Nat) : Int) from (Nat.cast_pow 2 k).symm, BitVec.ofInt_natCast]
    exact BitVec.eq_of_toNat_eq (by rw [BitVec.toNat_twoPow, BitVec.toNat_ofNat])
  rw [BitVec.shiftLeft_eq_mul_twoPow, hpow, BitVec.signExtend, BitVec.ofInt_mul]

/-- Sums of multiples of an access width are multiples of it, also where they wrap. -/
theorem Width.toNat_add_mod (w : Width) {a b : Word} (ha : a.toNat % w.bytes = 0) (hb : b.toNat % w.bytes = 0) :
    (a + b).toNat % w.bytes = 0 := by
  rw [BitVec.toNat_add]
  rcases w.bytes_cases with h | h | h <;> rw [h] at ha hb ⊢ <;> omega

/-- What is shifted left by the logarithm of an access width is a multiple of it. -/
theorem Width.toNat_shiftLeft_mod (w : Width) {k : Nat} (hk : w.bytes = 2 ^ k) (v : Word) :
    (v <<< k).toNat % w.bytes = 0 := by
  have hword : w.bytes ∣ 2 ^ 32 := by cases w <;> decide
  rw [BitVec.toNat_shiftLeft, Nat.mod_mod_of_dvd _ hword, hk, Nat.shiftLeft_eq, Nat.mul_mod_left]

section
variable (s : State)

theorem State.alignPc_eq_align (v : Word) : s.alignPc v = s.width.align v := by
  unfold State.alignPc State.width
  split <;> rfl

/-- A branch from an aligned `pc` by whole instructions needs no alignment (R250). -/
theorem State.alignPc_displaced (ha : s.core.aligned = true) {k : Nat} (hk : s.width.bytes = 2 ^ k) {ahead : Word}
    (hahead : ahead.toNat % s.width.bytes = 0) (v : Word) :
    s.alignPc (s.pc + ahead + v <<< k) = s.pc + ahead + v <<< k := by
  have base := s.width.toNat_add_mod (s.pc_mod ha) hahead
  rw [State.alignPc_eq_align]
  exact Width.align_of_aligned (s.width.toNat_add_mod base (s.width.toNat_shiftLeft_mod hk v))

/-- The target of `B` and `BL` from an aligned `pc` (R148, R250). -/
theorem State.alignPc_branchTarget (ha : s.core.aligned = true) (hvariant : s.core.cpsr.t = false)
    (imm24 : BitVec 24) :
    s.alignPc (s.branchTarget imm24) = s.pc + 8 + BitVec.ofInt 32 (imm24.toInt * 4) := by
  have hwidth : s.width = .word := if_neg (ne_true_of_eq_false hvariant)
  have target := s.alignPc_displaced ha (k := 2) (ahead := 8) (by rw [hwidth]; rfl) (by rw [hwidth]; rfl)
    (imm24.signExtend 32)
  exact target.trans (congrArg (s.pc + 8 + ·) (signExtend_shiftLeft_eq_ofInt imm24 2))

/-! ## What an exchange does (R252) -/

theorem State.exchange_variant (v : Word) : (s.exchange v).core.cpsr.t = v.getLsbD 0 :=
  congrArg (·.cpsr.t) (State.writePc_core _ v)

theorem State.exchange_pc (v : Word) :
    (s.exchange v).pc = if v.getLsbD 0 then v &&& ~~~1 else v &&& ~~~3 := State.writePc_pc _ v

theorem State.exchange_mem (v : Word) : (s.exchange v).mem = s.mem := State.writePc_mem _ v

/-- An exchange changes the variant and `pc` alone. -/
theorem State.exchange_frame (v : Word) : SameFlags s (s.exchange v) ∧ SameControl s (s.exchange v) ∧
    RegsExcept [] s (s.exchange v) ∧ (s.exchange v).core.spsrs = s.core.spsrs ∧
    (∀ a, (s.exchange v).peek a = s.peek a) ∧ SameDevices s (s.exchange v) := by
  obtain ⟨hlawful, regs, flags, control, -, saved, -, devices⟩ := s.exchange_within (m := { variant := true }) v rfl
  exact ⟨flags rfl, control rfl, regs, saved rfl, State.peek_congr hlawful.par (s.exchange_mem v), devices rfl⟩

end

/-- Settles O25: a displacement keeps the alignment of `pc`, a link is a write of one register before the branch, and
an exchange writes the variant and `pc`. -/
theorem branches : Obligations.Branches := by
  refine ⟨fun c imm24 s hr ha => ?_, fun c imm24 s hr ha => ?_, fun c rm s hr => ?_⟩
  · obtain ⟨hvariant, hexec⟩ := hr.runs (effect := fun s => .next (s.writePc (s.branchTarget imm24))) rfl rfl rfl
    have hframe : Within {} s (s.writePc (s.branchTarget imm24)) := s.writePc_within _
    exact ⟨_, hexec, (s.writePc_pc _).trans (s.alignPc_branchTarget ha hvariant imm24), hframe.flags rfl,
      hframe.onlyCore (s.writePc_mem _)⟩
  · obtain ⟨hvariant, hexec⟩ := hr.runs
      (effect := fun s => .next ((s.setReg 14 (s.pc + 4)).writePc (s.branchTarget imm24))) rfl rfl rfl
    have hlink : Within { dests := [physReg s.core.cpsr.mode 14] } s (s.setReg 14 (s.pc + 4)) :=
      s.setReg_within 14 _ (by decide) List.mem_cons_self
    have hframe := hlink.writePc (s.branchTarget imm24)
    refine ⟨_, hexec, (State.writePc_pc _ _).trans (s.alignPc_branchTarget ha hvariant imm24), ?_, hframe.flags rfl,
      hframe.onlyCore (State.writePc_mem _ _)⟩
    rw [State.reg_writePc _ _ (by decide)]
    exact (s.reg_setReg 14 14 _ (by decide)).trans (if_pos rfl)
  · obtain ⟨-, hexec⟩ := hr.runs (effect := fun s => .next (s.exchange (s.reg rm))) rfl rfl rfl
    exact ⟨_, hexec, s.exchange_variant _, s.exchange_pc _, s.exchange_frame _⟩

end Sys2Proof.Machine
end

section
/-! Exceptions and status moves (family 45): the entry of the exceptions an instruction raises, `MRS` and `MSR`, and the
system-control unit in a privileged mode. -/

namespace Sys2Proof.Machine

/-! ## Exceptions an instruction raises (R260, R264 to R270) -/

/-- What an access costs depends on the region table, `WAITCNT` and the accesses before it alone (R95, R96). -/
theorem State.charge_cost_congr {s t : State} (hpar : t.par = s.par) (hwait : t.waitcnt = s.waitcnt)
    (hlast : t.lastRegion = s.lastRegion) (hcost : t.report.cost = s.report.cost) (a : Word) (w : Width)
    (k : AccessKind) : (t.charge a w k).lastRegion = (s.charge a w k).lastRegion ∧
      (t.charge a w k).report.cost = (s.charge a w k).report.cost := by
  have hkind (r : Region) : t.charged r k = s.charged r k := by simp only [State.charged, hlast]
  simp only [State.charge, hpar, hwait, hkind]
  split <;> exact ⟨rfl, congrArg (· + _) hcost⟩

/-- A refill makes two accesses at the new `pc`, whatever the core did before it (R566). -/
theorem State.refill_cost {s t : State} (hpar : t.par = s.par) (hwait : t.waitcnt = s.waitcnt)
    (hlast : t.lastRegion = s.lastRegion) (hcost : t.report.cost = s.report.cost) :
    t.refill.report.cost = ((s.charge t.pc t.width .n).charge (t.pc + t.step) t.width .s).report.cost := by
  obtain ⟨hlast', hcost'⟩ := State.charge_cost_congr hpar hwait hlast hcost t.pc t.width .n
  refine (State.charge_cost_congr ?_ ?_ hlast' hcost' _ _ _).2
  · rw [State.charge_par, State.charge_par, hpar]
  · rw [State.charge_waitcnt, State.charge_waitcnt, hwait]

section
variable {s : State}

theorem State.step_full (hvariant : s.core.cpsr.t = false) : s.step = 4 := by rw [State.step, hvariant]; rfl

theorem State.step_compact (hvariant : s.core.cpsr.t = true) : s.step = 2 := by rw [State.step, hvariant]; rfl

variable (s)

theorem State.enterException_seq (k : ExceptionKind) (ret : Word) : (s.enterException k ret).core.seq = true := by
  rw [s.enterException_core]

/-- An entry costs the two accesses of the refill at its vector (R410, R413, R566). -/
theorem State.enterException_cost (k : ExceptionKind) (ret : Word) :
    (s.enterException k ret).report.cost =
      ((s.charge k.vector .word .n).charge (k.vector + 4) .word .s).report.cost := by
  unfold State.enterException
  dsimp only
  refine (State.setRaised_report_cost _).trans ((State.refill_cost (s := s) ?_ ?_ ?_ ?_).trans ?_)
  case refine_5 => rw [State.setPc_pc]; rfl
  all_goals rfl

end

/-! What the register moves, `WFI` and the undefined rows do under a true condition. -/

section
variable {s : State} {c : Cond} {o1 o2 : BitVec 3} {crn crm cp : BitVec 4} {rd : Reg}

theorem exec_mcr (hr : Ready (.mcr c o1 crn rd cp o2 crm) s) : s.core.cpsr.t = false ∧
    exec (.mcr c o1 crn rd cp o2 crm) s = s.cp15 cp (fun s => .next s.advance) (fun s =>
      if isWfi o1 crn cp o2 crm then .next (s.setHalted true).advance
      else if rd = 15 then .refused .systemOperandR15 else .next s.advance) :=
  hr.runs (effect := fun s => s.cp15 cp _ _) rfl rfl rfl

theorem exec_mrc (hr : Ready (.mrc c o1 crn rd cp o2 crm) s) : s.core.cpsr.t = false ∧
    exec (.mrc c o1 crn rd cp o2 crm) s = s.cp15 cp (fun s => .next (s.mrcWrite rd s.par.cp15Open).advance)
      (fun s => .next (s.mrcWrite rd s.par.cp15Open).advance) :=
  hr.runs (effect := fun s => s.cp15 cp _ _) rfl rfl rfl

theorem exec_wfi (hr : Ready (.wfi c rd) s) : s.core.cpsr.t = false ∧
    exec (.wfi c rd) s = s.cp15 15 (fun s => .next s.advance) (fun s => .next (s.setHalted true).advance) :=
  hr.runs (effect := fun s => s.cp15 15 _ _) rfl rfl rfl

/-- An undefined row of the full variant (R264, R267, R268, R270). -/
theorem exec_undefined {i : Instr} (hr : Ready i s) (hfull : i.isCompact = false) (hcond : i.cond = some c)
    (hexec : exec i s = s.when c fun s => .next s.takeUndefined) : exec i s = .next s.takeUndefined := by
  obtain ⟨-, hrun⟩ := hr.runs hfull hcond hexec
  exact hrun

/-- No coprocessor but the system-control unit answers (R265, R266). -/
theorem State.cp15_foreign (hcp : cp ≠ 15) (ignored effect : State → Outcome) :
    s.cp15 cp ignored effect = .next s.takeUndefined := if_neg hcp

end

/-- Settles O27: both are the entry of the software interrupt, whose cost is its refill. -/
theorem softwareInterrupts : Obligations.SoftwareInterrupts := by
  refine ⟨fun c comment s hr => ?_, fun comment s hvariant => ?_⟩
  · obtain ⟨hvariant, hexec⟩ := hr.runs (effect := fun s => .next s.takeSoftware) rfl rfl rfl
    have entered := s.takeSoftware_entered
    rw [State.step_full hvariant] at entered
    exact ⟨_, hexec, entered, s.enterException_seq _ _, s.enterException_cost _ _⟩
  · have entered := s.takeSoftware_entered
    rw [State.step_compact hvariant] at entered
    exact ⟨_, rfl, entered, s.enterException_seq _ _, s.enterException_cost _ _⟩

/-- Settles O28: no field of these instructions is read but the coprocessor's number. -/
theorem undefinedInstructions : Obligations.UndefinedInstructions := by
  intro i s hr hi
  suffices hexec : exec i s = .next s.takeUndefined from ⟨_, hexec, s.takeUndefined_entered⟩
  rcases hi with ⟨c, hi, lo, rfl⟩ | ⟨c, b, rfl⟩ | ⟨x, rfl⟩ | ⟨x, rfl⟩ | ⟨c, o1, crn, crd, cp, o2, crm, rfl⟩ |
    ⟨c, p, u, n, w, rn, crd, cp, imm8, rfl⟩ | ⟨c, p, u, n, w, rn, crd, cp, imm8, rfl⟩ |
    ⟨c, o1, crn, rd, cp, o2, crm, hcp, rfl⟩ | ⟨c, o1, crn, rd, cp, o2, crm, hcp, rfl⟩
  · exact exec_undefined hr rfl rfl rfl
  · exact exec_undefined hr rfl rfl rfl
  · rfl
  · rfl
  · exact exec_undefined hr rfl rfl rfl
  · exact exec_undefined hr rfl rfl rfl
  · exact exec_undefined hr rfl rfl rfl
  · obtain ⟨-, hexec⟩ := exec_mcr hr
    exact hexec.trans (State.cp15_foreign hcp _ _)
  · obtain ⟨-, hexec⟩ := exec_mrc hr
    exact hexec.trans (State.cp15_foreign hcp _ _)

/-! ## The end of a status move (R33) -/

section
variable {s u : State}

/-- The next instruction of the full variant. -/
theorem State.advance_pc_full (hpc : u.pc = s.pc) (hvariant : u.core.cpsr.t = false) : u.advance.pc = s.pc + 4 := by
  rw [State.advance_pc, hpc, State.step_full hvariant]

/-- `t` is `s` after an instruction of the full variant that sets no condition code and goes on to the next one: `n`
internal cycles, of the registers `ps` alone. -/
structure Proceeds (ps : List PhysReg) (n : Nat) (s t : State) : Prop where
  pc : t.pc = s.pc + 4
  flags : SameFlags s t
  frame : OnlyCore ps s t
  cost : t.report.cost = s.report.cost + n

theorem Proceeds.of_within {ps : List PhysReg} {n : Nat} (h : Within { dests := ps } s u) (hmem : u.mem = s.mem)
    (hvariant : s.core.cpsr.t = false) (hpc : u.pc = s.pc) (hcost : u.report.cost = s.report.cost + n) :
    Proceeds ps n s u.advance :=
  ⟨State.advance_pc_full hpc ((h.variant rfl).trans hvariant), h.advance.flags rfl, h.advance.onlyCore hmem, hcost⟩

/-! ## `MRS` (R261) -/

/-- The end of an `MRS` that has a meaning, after work that changes neither a register nor the status. -/
theorem State.mrsWrite_proceeds {rd : Reg} {v : Word} (h : Within {} s u) (hmem : u.mem = s.mem)
    (hvariant : s.core.cpsr.t = false) (hpc : u.pc = s.pc) (hcost : u.report.cost = s.report.cost) (hrd : rd ≠ 15) :
    ∃ t, u.mrsWrite rd v = .next t ∧ t.reg rd = v ∧ Proceeds [physReg s.core.cpsr.mode rd] 0 s t := by
  refine ⟨_, if_neg hrd, ?_, .of_within ((h.widen fun _ => nofun).setReg (h.mode rfl) v hrd List.mem_cons_self)
    hmem hvariant ((u.setReg_pc rd v hrd).trans hpc) hcost⟩
  exact (State.reg_advance _ _ hrd).trans ((State.reg_setReg _ rd rd v hrd).trans (if_pos rfl))

theorem execMrs_cpsr {c : Cond} {rd : Reg} (hc : condHolds c s.core.cpsr = true) :
    execMrs c false rd s = s.mrsWrite rd s.core.cpsr.toWord := State.when_true hc _

theorem execMrs_spsr {c : Cond} {rd : Reg} {x : Spsr} (hc : condHolds c s.core.cpsr = true) (h : s.spsr = some x) :
    execMrs c true rd s = s.mrsWrite rd x.toWord := by
  rw [execMrs, State.when_true hc, if_pos rfl, State.privileged_of_mode (State.mode_ne_usr_of_spsr (by simp [h])), h]

end

/-- Settles O29: the word moved is that of the status, which a saved status holds field by field. -/
theorem statusReads : Obligations.StatusReads := by
  rintro c r rd s n z cc v i f t m ⟨hvariant, hcond⟩ hrd hcpsr hspsr
  have hexec : exec (.mrs c r rd) s = s.mrsWrite rd (Spsr.toWord ⟨n, z, cc, v, i, f, t, m⟩) := by
    cases r with
    | false => rw [← hcpsr rfl]; exact execMrs_cpsr (hcond c rfl)
    | true => exact execMrs_spsr (hcond c rfl) (hspsr rfl)
  obtain ⟨u, hnext, hreg, proceeds⟩ :=
    State.mrsWrite_proceeds (v := Spsr.toWord ⟨n, z, cc, v, i, f, t, m⟩) (.refl s) rfl hvariant rfl rfl hrd
  exact ⟨u, hexec.trans hnext, proceeds.pc, proceeds.flags, proceeds.frame, hreg⟩

/-! ## The fields of a status word (R262) -/

/-- Which fields of a status word a mask selects, each field whole: the condition codes, the masks and the mode, `T`. -/
structure Selects (mask : Word) (flags control variant : Bool) : Prop where
  flags : ∀ k < 4, mask.getLsbD (28 + k) = flags
  masks : ∀ k < 2, mask.getLsbD (6 + k) = control
  variant : mask.getLsbD 5 = variant
  mode : ∀ k < 5, mask.getLsbD k = control

theorem fieldMask_selects (mask : BitVec 4) :
    Selects (fieldMask mask) (mask.getLsbD 3) (mask.getLsbD 0) (mask.getLsbD 0) := by
  refine ⟨?_, ?_, ?_, ?_⟩ <;> revert mask <;> decide

/-- All fields but `T`, which no move to `cpsr` writes (U16). -/
theorem selects_but_variant : Selects (~~~0x00000020#32) true true false := ⟨by decide, by decide, by decide, by decide⟩

/-- The condition codes, all that User mode writes (R263). -/
theorem selects_flags : Selects 0xF0000000 true false false := ⟨by decide, by decide, by decide, by decide⟩

section
variable {mask m : Word} {flags control variant f g v : Bool}

/-- A field both masks select. -/
theorem Selects.and (h : Selects mask flags control variant) (k : Selects m f g v) :
    Selects (mask &&& m) (f && flags) (g && control) (v && variant) where
  flags j hj := by rw [BitVec.getLsbD_and, h.flags j hj, k.flags j hj, Bool.and_comm]
  masks j hj := by rw [BitVec.getLsbD_and, h.masks j hj, k.masks j hj, Bool.and_comm]
  variant := by rw [BitVec.getLsbD_and, h.variant, k.variant, Bool.and_comm]
  mode j hj := by rw [BitVec.getLsbD_and, h.mode j hj, k.mode j hj, Bool.and_comm]

/-- Bit by bit, a merge takes what the mask selects from the operand. -/
theorem mergeStatus_bit {old op : Word} {k : Nat} {b : Bool} (h : mask.getLsbD k = b) :
    (mergeStatus old op mask).getLsbD k = if b then op.getLsbD k else old.getLsbD k := by
  subst h
  cases hk : mask.getLsbD k with
  | false => exact mergeStatus_getLsbD hk
  | true =>
    rw [mergeStatus, BitVec.getLsbD_or, BitVec.getLsbD_and, BitVec.getLsbD_and, BitVec.getLsbD_not, hk]
    simp

/-- A saved status with some of its fields taken from a word (R262). -/
def Spsr.written (x : Spsr) (flags control variant : Bool) (op : Word) : Spsr where
  n := if flags then op.getLsbD 31 else x.n
  z := if flags then op.getLsbD 30 else x.z
  c := if flags then op.getLsbD 29 else x.c
  v := if flags then op.getLsbD 28 else x.v
  i := if control then op.getLsbD 7 else x.i
  f := if control then op.getLsbD 6 else x.f
  t := if variant then op.getLsbD 5 else x.t
  m := if control then op.extractLsb' 0 5 else x.m

/-- A merge writes the fields its mask selects and keeps the others (R262). -/
theorem Spsr.ofWord_mergeStatus (h : Selects mask flags control variant) (x : Spsr) (op : Word) :
    Spsr.ofWord (mergeStatus x.toWord op mask) = x.written flags control variant op := by
  have mode : (mergeStatus x.toWord op mask).extractLsb' 0 5 =
      if control then op.extractLsb' 0 5 else x.toWord.extractLsb' 0 5 := by
    refine BitVec.eq_of_getLsbD_eq fun k hk => ?_
    rw [BitVec.getLsbD_extractLsb', Nat.zero_add, mergeStatus_bit (h.mode k hk)]
    cases control <;> simp
  have old := Spsr.ofWord_toWord x
  rw [Spsr.ofWord] at old ⊢
  rw [mode, mergeStatus_bit (h.flags 3 (by decide)), mergeStatus_bit (h.flags 2 (by decide)),
    mergeStatus_bit (h.flags 1 (by decide)), mergeStatus_bit (h.flags 0 (by decide)),
    mergeStatus_bit (h.masks 1 (by decide)), mergeStatus_bit (h.masks 0 (by decide)), mergeStatus_bit h.variant]
  exact congrArg (Spsr.written · flags control variant op) old

theorem Spsr.restore_of_code {x : Spsr} {m : Mode} (h : m.code = x.m) :
    x.restore = some { n := x.n, z := x.z, c := x.c, v := x.v, i := x.i, f := x.f, t := x.t, mode := m } := by
  rw [Spsr.restore, Mode.ofCode_eq_some.2 h]
  rfl

/-- The status with some of its fields taken from a word, the mode as given; `T` stays (R262, U16). -/
def Cpsr.written (p : Cpsr) (flags control : Bool) (op : Word) (m : Mode) : Cpsr where
  n := if flags then op.getLsbD 31 else p.n
  z := if flags then op.getLsbD 30 else p.z
  c := if flags then op.getLsbD 29 else p.c
  v := if flags then op.getLsbD 28 else p.v
  i := if control then op.getLsbD 7 else p.i
  f := if control then op.getLsbD 6 else p.f
  t := p.t
  mode := m

/-- A write of `cpsr` whose mode code is legal (R262). -/
theorem State.writeCpsr_next (s : State) (h : Selects mask flags control variant) {op : Word} {m : Mode}
    (hm : m.code = if control then op.extractLsb' 0 5 else s.core.cpsr.mode.code) :
    s.writeCpsr op mask = .next (s.setCpsr (s.core.cpsr.written flags control op m)).advance := by
  have merged : Cpsr.ofWord (mergeStatus s.core.cpsr.toWord op (mask &&& ~~~0x00000020#32)) =
      some (s.core.cpsr.written flags control op m) :=
    (congrArg Spsr.restore (Spsr.ofWord_mergeStatus (h.and selects_but_variant) s.core.cpsr.save op)).trans
      (Spsr.restore_of_code hm)
  rw [State.writeCpsr, merged]

end

/-! ## `MSR` (R262) -/

section
variable {s : State} {mask : BitVec 4} {op : Word}

theorem exec_msr_full {i : Instr} {c : Cond} {r : Bool} (hr : Ready i s)
    (hi : (∃ rm, rm ≠ 15 ∧ i = .msrReg c r mask rm ∧ op = s.reg rm) ∨
      ∃ rot imm8, i = .msrImm c r mask rot imm8 ∧ op = (imm8.setWidth 32).rotateRight (2 * rot.toNat)) :
    s.core.cpsr.t = false ∧ exec i s = s.msr r mask op := by
  refine ⟨?_, exec_msr hr hi⟩
  obtain ⟨hvariant, -⟩ := hr
  rcases hi with ⟨rm, -, rfl, -⟩ | ⟨rot, imm8, rfl, -⟩ <;> exact hvariant

/-- To `cpsr`, where the control field is privileged. -/
theorem State.msr_cpsr (h : mask.getLsbD 0 = true → s.core.cpsr.mode ≠ .usr) :
    s.msr false mask op = s.writeCpsr op (fieldMask mask) := by
  rw [State.msr, if_neg Bool.false_ne_true]
  split
  · next hmask => exact State.privileged_of_mode (h hmask) _ _
  · rfl

/-- To the saved status of a mode that has one. -/
theorem State.msr_spsr {x : Spsr} (h : s.spsr = some x) : s.msr true mask op =
    .next (s.setSpsrs (s.core.spsrs.set s.core.cpsr.mode
      (x.written (mask.getLsbD 3) (mask.getLsbD 0) (mask.getLsbD 0) op))).advance := by
  rw [State.msr, if_pos rfl, State.privileged_of_mode (State.mode_ne_usr_of_spsr (by simp [h])), h,
    ← Spsr.ofWord_mergeStatus (fieldMask_selects mask)]

end

/-- Settles O30: a field mask selects the fields whole, and a merge writes the selected ones. -/
theorem statusWrites : Obligations.StatusWrites := by
  intro i c r mask op s hr hi
  obtain ⟨hvariant, hexec⟩ := exec_msr_full hr hi
  refine ⟨?_, ?_⟩
  · rintro rfl m hm
    have hmode : mask.getLsbD 0 = true → s.core.cpsr.mode ≠ .usr := fun hmask => by
      rw [if_pos hmask] at hm
      obtain ⟨hprivileged, -⟩ := hm
      exact hprivileged
    have hcode : m.code = if mask.getLsbD 0 then op.extractLsb' 0 5 else s.core.cpsr.mode.code := by
      split at hm
      · obtain ⟨-, hlegal⟩ := hm
        exact hlegal.trans (if_pos ‹_›).symm
      · exact (congrArg Mode.code hm).trans (if_neg ‹_›).symm
    have hwritten := s.writeCpsr_next (fieldMask_selects mask) hcode
    have hwithin : Within { flags := true, control := true } s _ := State.writeCpsr_within hwritten nofun nofun
    exact ⟨_, hexec.trans ((State.msr_cpsr hmode).trans hwritten), State.advance_pc_full rfl hvariant, hwithin.regs,
      hwithin.saved rfl, State.peek_congr rfl rfl, hwithin.devices rfl, rfl⟩
  · rintro rfl x hx
    have hwritten := State.msr_spsr (mask := mask) (op := op) hx
    have hwithin : Within { saved := true } s _ := (s.setSpsrs_within (s.core.spsrs.set s.core.cpsr.mode
      (x.written (mask.getLsbD 3) (mask.getLsbD 0) (mask.getLsbD 0) op)) rfl).advance
    exact ⟨_, hexec.trans hwritten, State.advance_pc_full rfl hvariant, hwithin.regs, rfl,
      State.peek_congr rfl rfl, hwithin.devices rfl, rfl⟩

/-! ## The system-control unit (R265, R266, R269) -/

section
variable {s : State}

theorem State.cp15_of_mode (hm : s.core.cpsr.mode ≠ .usr) (ignored effect : State → Outcome) :
    s.cp15 15 ignored effect = effect (s.addCost s.par.internal.cp15) :=
  (if_pos rfl).trans (State.privileged_of_mode hm _ _)

theorem State.addCost_proceeds (n : Nat) (hvariant : s.core.cpsr.t = false) :
    Proceeds [] n s (s.addCost n).advance := .of_within (s.addCost_within n) rfl hvariant rfl rfl

/-- That `pc` changes goes without saying. -/
theorem OnlyCore.of_pc {t : State} {m : Mode} (h : OnlyCore [physReg m 15] s t) : OnlyCore [] s t :=
  { h with regs := fun p hp _ => h.regs p hp fun hmem => hp ((List.mem_singleton.1 hmem).trans (physReg_fifteen m)) }

/-- The end of an `MRC` (R266, R272): the word to a register, or its upper bits to the condition codes. -/
theorem State.mrcWrite_completes {t : State} {rd : Reg} {v : Word} {n : Nat} (hvariant : s.core.cpsr.t = false)
    (ht : ((s.addCost n).mrcWrite rd v).advance = t) :
    t.pc = s.pc + 4 ∧ OnlyCore [physReg s.core.cpsr.mode rd] s t ∧ (rd ≠ 15 → SameFlags s t ∧ t.reg rd = v) ∧
      (rd = 15 → t.core.cpsr.n = v.getLsbD 31 ∧ t.core.cpsr.z = v.getLsbD 30 ∧ t.core.cpsr.c = v.getLsbD 29 ∧
        t.core.cpsr.v = v.getLsbD 28) ∧
      t.report.cost = s.report.cost + n := by
  subst ht
  have hframe : Within { dests := [physReg s.core.cpsr.mode rd], flags := true } s ((s.addCost n).mrcWrite rd v) :=
    (s.addCost_within n).trans ((s.addCost n).mrcWrite_within rd v List.mem_cons_self fun _ => rfl)
  by_cases hrd : rd = 15
  · subst hrd
    exact ⟨State.advance_pc_full rfl hvariant, hframe.advance.onlyCore rfl, fun h => absurd rfl h,
      fun _ => ⟨rfl, rfl, rfl, rfl⟩, rfl⟩
  · have hwrite : (s.addCost n).mrcWrite rd v = (s.addCost n).setReg rd v := if_neg hrd
    rw [hwrite] at hframe ⊢
    refine ⟨State.advance_pc_full ((s.addCost n).setReg_pc rd v hrd) hvariant, hframe.advance.onlyCore rfl,
      fun _ => ⟨.of_cpsr rfl, ?_⟩, fun h => absurd h hrd, rfl⟩
    exact (State.reg_advance _ _ hrd).trans ((State.reg_setReg _ rd rd v hrd).trans (if_pos rfl))

end

/-- Settles O31: in a privileged mode each runs its effect after the charge of the unit's cycle. -/
theorem systemControl : Obligations.SystemControl := by
  refine ⟨fun c o1 crn rd o2 crm s hr hm hwfi hrd => ?_, fun c o1 crn rd o2 crm s hr hm => ?_, fun c rd s hr hm => ?_⟩
  · obtain ⟨hvariant, hexec⟩ := exec_mcr hr
    have moved := State.addCost_proceeds s.par.internal.cp15 hvariant
    refine ⟨_, hexec.trans ((State.cp15_of_mode hm _ _).trans ?_), moved.pc, moved.flags, moved.frame, moved.cost⟩
    exact (if_neg (ne_true_of_eq_false hwfi)).trans (if_neg hrd)
  · obtain ⟨hvariant, hexec⟩ := exec_mrc hr
    obtain ⟨hpc, hframe, hreg, hflags, hcost⟩ := State.mrcWrite_completes (rd := rd) (v := s.par.cp15Open)
      (n := s.par.internal.cp15) hvariant rfl
    refine ⟨_, hexec.trans (State.cp15_of_mode hm _ _), hpc, fun hrd => ?_, fun hrd => ?_, hcost⟩
    · obtain ⟨hsame, hvalue⟩ := hreg hrd
      exact ⟨hvalue, hsame, hframe⟩
    · obtain ⟨hn, hz, hc, hv⟩ := hflags hrd
      subst hrd
      exact ⟨hn, hz, hc, hv, hframe.of_pc⟩
  · obtain ⟨hvariant, hexec⟩ := exec_wfi hr
    have hframe : Within { halted := true } s ((s.addCost s.par.internal.cp15).setHalted true).advance :=
      ((s.addCost_within _).trans (State.setHalted_within _ true rfl)).advance
    exact ⟨_, hexec.trans (State.cp15_of_mode hm _ _), rfl, State.advance_pc_full rfl hvariant, hframe.flags rfl,
      ⟨hframe.regs, hframe.control rfl, hframe.variant rfl, hframe.saved rfl⟩, State.peek_congr rfl rfl,
      hframe.devices rfl, rfl⟩

end Sys2Proof.Machine
end

section
/-! Privileged operations in User mode (family 45): each under the two policies. -/

namespace Sys2Proof.Machine

/-! ## `PRIV_POLICY = trap` (R263, R407, R444) -/

section
variable {s : State} {i : Instr} {c : Cond}

section
variable (hm : s.core.cpsr.mode = .usr) (hp : s.par.privPolicy = .trap)
include hm hp

theorem State.cp15_traps (ignored effect : State → Outcome) : s.cp15 15 ignored effect = .next s.takeUndefined :=
  (if_pos rfl).trans (State.privileged_of_trap hm hp _ _)

/-- A return from an exception by data processing (R173). -/
theorem State.dpWrite_traps {sf : Bool} {rd : Reg} (hpriv : (sf && rd == 15) = true) (n : Nat) (r : AluResult) :
    s.dpWrite n sf rd r = .next s.takeUndefined := by
  obtain ⟨rfl, hrd⟩ := Bool.and_eq_true_iff.1 hpriv
  rw [beq_iff_eq.1 hrd]
  exact (if_pos rfl).trans ((if_pos rfl).trans (State.privileged_of_trap hm hp _ _))

section
variable {alu : AluOp} {sf : Bool} {rn rd rm : Reg} {rot : BitVec 4} {imm8 : BitVec 8} {amt : BitVec 5}
  {ty : ShiftKind} (hc : condHolds c s.core.cpsr = true) (hpriv : (sf && rd == 15) = true)
include hc hpriv

theorem State.dpImm_traps : s.dpImm alu c sf rn rd rot imm8 = .next s.takeUndefined :=
  (State.dpImm_true alu hc).trans (State.dpWrite_traps hm hp hpriv _ _)

theorem State.dpReg_traps : s.dpReg alu c sf rn rd amt ty rm = .next s.takeUndefined :=
  (State.dpReg_true alu hc).trans (State.dpWrite_traps hm hp hpriv _ _)

end

/-- Data processing in any form, named by its opcode (R170). -/
theorem exec_dp_traps (k : DpOp) {sf : Bool} {rn rd : Reg} {o : Operand2} (hr : Ready (k.instr c sf rn rd o) s)
    (ho : o.Allowed) (hpriv : (sf && rd == 15) = true) :
    s.core.cpsr.t = false ∧ exec (k.instr c sf rn rd o) s = .next s.takeUndefined := by
  obtain ⟨hvariant, hc⟩ := ready_dp hr
  exact ⟨hvariant, (exec_dp k hc ho).trans (State.dpWrite_traps hm hp hpriv _ _)⟩

/-- A move to `spsr` or to the control field of `cpsr` (R262). -/
theorem State.msr_traps {r : Bool} {mask : BitVec 4} (hpriv : (r || mask.getLsbD 0) = true) (op : Word) :
    s.msr r mask op = .next s.takeUndefined := by
  cases r with
  | true => exact (if_pos rfl).trans (State.privileged_of_trap hm hp _ _)
  | false =>
    exact (if_neg Bool.false_ne_true).trans ((if_pos hpriv).trans (State.privileged_of_trap hm hp _ _))

variable (hc : condHolds c s.core.cpsr = true)
include hc

theorem execMrs_traps (rd : Reg) : execMrs c true rd s = .next s.takeUndefined :=
  (State.when_true hc _).trans ((if_pos rfl).trans (State.privileged_of_trap hm hp _ _))

/-- A return from an exception by `LDM` (R243). -/
theorem execLdm_traps {p u sf w : Bool} {rn : Reg} {list : BitVec 16} (ha : blockAllowed (.ldm c p u sf w rn list))
    (hpriv : (sf && list.getLsbD 15) = true) : execLdm c p u sf w rn list s = .next s.takeUndefined := by
  obtain ⟨hrn, hlist, -⟩ := ha
  obtain ⟨rfl, h15⟩ := Bool.and_eq_true_iff.1 hpriv
  rw [execLdm, State.when_true hc, h15, Bool.not_true, Bool.and_false, blockRefusal_passed hrn hlist]
  exact (if_pos rfl).trans (State.privileged_of_trap hm hp _ _)

end

/-- Every privileged operation that has a meaning traps in User mode (R444). -/
theorem exec_privileged_traps (hr : Ready i s) (hpriv : isPrivileged i = true) (hm : s.core.cpsr.mode = .usr)
    (hp : s.par.privPolicy = .trap) (hdp : ∀ k c sf rn rd o, i = DpOp.instr k c sf rn rd o → o.Allowed)
    (hblock : shape i = .loads → blockAllowed i) (hmsr : ∀ c r mask rm, i = .msrReg c r mask rm → rm ≠ 15) :
    s.core.cpsr.t = false ∧ exec i s = .next s.takeUndefined := by
  obtain ⟨hvariant, hcond⟩ := id hr
  have shifted (k : DpOp) {c : Cond} {sf : Bool} {rn rd rs rm : Reg} {ty : ShiftKind}
      (hi : i = k.instr c sf rn rd (.rsr rs ty rm)) (h : (sf && rd == 15) = true) :
      s.core.cpsr.t = false ∧ exec i s = .next s.takeUndefined := by
    have ho := hdp k c sf rn rd _ hi
    subst hi
    exact exec_dp_traps hm hp k hr ho h
  cases i with
  | andImm | eorImm | subImm | rsbImm | addImm | adcImm | sbcImm | rscImm | orrImm | movImm | bicImm | mvnImm =>
    exact ⟨hvariant, State.dpImm_traps hm hp (hcond _ rfl) hpriv⟩
  | andReg | eorReg | subReg | rsbReg | addReg | adcReg | sbcReg | rscReg | orrReg | movReg | bicReg | mvnReg =>
    exact ⟨hvariant, State.dpReg_traps hm hp (hcond _ rfl) hpriv⟩
  | andRsr => exact shifted (.logic .and) rfl hpriv
  | eorRsr => exact shifted (.logic .eor) rfl hpriv
  | orrRsr => exact shifted (.logic .orr) rfl hpriv
  | movRsr => exact shifted (.logic .mov) rfl hpriv
  | bicRsr => exact shifted (.logic .bic) rfl hpriv
  | mvnRsr => exact shifted (.logic .mvn) rfl hpriv
  | subRsr => exact shifted (.arith .sub) rfl hpriv
  | rsbRsr => exact shifted (.arith .rsb) rfl hpriv
  | addRsr => exact shifted (.arith .add) rfl hpriv
  | adcRsr => exact shifted (.arith .adc) rfl hpriv
  | sbcRsr => exact shifted (.arith .sbc) rfl hpriv
  | rscRsr => exact shifted (.arith .rsc) rfl hpriv
  | ldm => exact ⟨hvariant, execLdm_traps hm hp (hcond _ rfl) (hblock rfl) hpriv⟩
  | mrs c r =>
    obtain rfl : r = true := hpriv
    exact ⟨hvariant, execMrs_traps hm hp (hcond _ rfl) _⟩
  | msrReg =>
    exact (exec_msr_full hr (.inl ⟨_, hmsr _ _ _ _ rfl, rfl, rfl⟩)).imp_right fun hexec =>
      hexec.trans (State.msr_traps hm hp hpriv _)
  | msrImm =>
    exact (exec_msr_full hr (.inr ⟨_, _, rfl, rfl⟩)).imp_right fun hexec =>
      hexec.trans (State.msr_traps hm hp hpriv _)
  | mcr c o1 crn rd cp =>
    obtain rfl : cp = 15 := beq_iff_eq.1 hpriv
    exact (exec_mcr hr).imp_right fun hexec => hexec.trans (State.cp15_traps hm hp _ _)
  | mrc c o1 crn rd cp =>
    obtain rfl : cp = 15 := beq_iff_eq.1 hpriv
    exact (exec_mrc hr).imp_right fun hexec => hexec.trans (State.cp15_traps hm hp _ _)
  | wfi => exact (exec_wfi hr).imp_right fun hexec => hexec.trans (State.cp15_traps hm hp _ _)
  | _ => cases hpriv

end

/-- Settles O32: whatever the operation, the trap is its whole effect. -/
theorem privilegedTraps : Obligations.PrivilegedTraps := by
  intro i s hr hpriv hm hp hdp hblock hmsr
  obtain ⟨hvariant, hexec⟩ := exec_privileged_traps hr hpriv hm hp hdp hblock hmsr
  have entered := s.takeUndefined_entered
  rw [State.step_full hvariant] at entered
  exact ⟨_, hexec, entered⟩

/-! ## `PRIV_POLICY = ignore` (R263, R444) -/

/-- A list that names `r15` is not empty. -/
theorem ne_zero_of_fifteen {list : BitVec 16} (h15 : list.getLsbD 15 = true) : list ≠ 0 := by
  rintro rfl
  exact absurd h15 (by decide)

section
variable {s : State} (hm : s.core.cpsr.mode = .usr) (hp : s.par.privPolicy = .ignore)
include hm hp

/-- Without its privileged part a return from an exception by data processing is a branch. -/
theorem State.dpWrite_ignored (n : Nat) (r : AluResult) : s.dpWrite n true 15 r = s.dpWrite n false 15 r :=
  (if_pos rfl).trans ((if_pos rfl).trans (State.privileged_of_ignore hm hp _ _))

/-- Without its privileged part a return from an exception by `LDM` is the load without the S bit. -/
theorem exec_ldm_ignored {c : Cond} {p u w : Bool} {rn : Reg} {list : BitVec 16}
    (hr : Ready (.ldm c p u true w rn list) s) (h15 : list.getLsbD 15 = true) (hrn : rn ≠ 15) :
    exec (.ldm c p u true w rn list) s = exec (.ldm c p u false w rn list) s := by
  obtain ⟨-, hcond⟩ := hr
  have hc := hcond c rfl
  have ignored : execLdm c p u true w rn list s = execLdm c p u false w rn list s := by
    rw [execLdm, execLdm, State.when_true hc, State.when_true hc, h15, Bool.not_true, Bool.and_false, Bool.and_false,
      blockRefusal_passed hrn (ne_zero_of_fifteen h15)]
    exact (if_pos rfl).trans (State.privileged_of_ignore hm hp _ _)
  exact ignored

theorem State.msr_spsr_ignored (mask : BitVec 4) (op : Word) : s.msr true mask op = .next s.advance :=
  (if_pos rfl).trans (State.privileged_of_ignore hm hp _ _)

/-- The condition codes of a move with the control field are written, the rest is not. -/
theorem State.msr_control_ignored {mask : BitVec 4} (hmask : mask.getLsbD 0 = true) (op : Word) :
    s.msr false mask op =
      .next (s.setCpsr (s.core.cpsr.written (mask.getLsbD 3) false op s.core.cpsr.mode)).advance :=
  (if_neg Bool.false_ne_true).trans ((if_pos hmask).trans ((State.privileged_of_ignore hm hp _ _).trans
    (s.writeCpsr_next ((fieldMask_selects mask).and selects_flags) rfl)))

theorem exec_mrs_ignored {c : Cond} {rd : Reg} (hr : Ready (.mrs c true rd) s) : s.core.cpsr.t = false ∧
    exec (.mrs c true rd) s = (s.setDraws (s.draws + 1)).mrsWrite rd (Config.freeWord s.draws) := by
  obtain ⟨hvariant, hcond⟩ := hr
  have ignored : execMrs c true rd s = (s.setDraws (s.draws + 1)).mrsWrite rd (Config.freeWord s.draws) :=
    (State.when_true (hcond c rfl) _).trans ((if_pos rfl).trans (State.privileged_of_ignore hm hp _ _))
  exact ⟨hvariant, ignored⟩

theorem State.cp15_ignored (ignored effect : State → Outcome) :
    s.cp15 15 ignored effect = ignored (s.addCost s.par.internal.cp15) :=
  (if_pos rfl).trans (State.privileged_of_ignore hm hp _ _)

end

/-- Settles O33: what is left of each operation is one that is not privileged, or the advance alone. -/
theorem privilegedIgnored : Obligations.PrivilegedIgnored := by
  intro s hm hp
  refine ⟨fun k c rn o hr ho => ?dp, fun c p u w rn list start hr h15 hrn hstart hplain => ?ldm,
    fun i c r mask op hr hi hpriv => ?msr, fun c rd hr hrd => ?mrs, fun c o1 crn rd o2 crm hr => ?mcr,
    fun c rd hr => ?wfi, fun c o1 crn rd o2 crm hr => ?mrc⟩
  case dp =>
    obtain ⟨hvariant, hc⟩ := ready_dp hr
    rw [exec_dp k hc ho, State.dpWrite_ignored hm hp, ← k.alu_value]
    obtain ⟨t, hnext, hpc, hflags, hframe, -⟩ := State.dpWrite_branches (n := o.cycles s) _ hvariant
    exact ⟨t, hnext, hpc, hflags, hframe⟩
  case ldm =>
    subst hstart
    have ignored := exec_ldm_ignored hm hp hr h15 hrn
    obtain ⟨t, hexec, hflags, hframe, hbytes, hbase, hloaded⟩ := multipleLoadsToPc (.ldm c p u false w rn list) s
      s.core.cpsr.mode (listRegs list) _ hr rfl ⟨hrn, ne_zero_of_fifteen h15, nofun⟩ (mem_listRegs.2 h15) rfl
    obtain ⟨hwords, hpc⟩ := hloaded hplain
    obtain ⟨hvariant, -⟩ := hr
    rw [show s.core.cpsr.t = false from hvariant] at hpc
    obtain ⟨-, -, hmode⟩ := hframe.control
    rw [hm] at hwords hframe hmode
    refine ⟨t, ignored.trans hexec, hpc, hflags, hwords, ?_, ?_, hbytes⟩
    · rintro rfl hnew
      have hreg := hbase rn _ rfl hnew
      rwa [State.reg, if_neg hrn, hmode] at hreg
    · cases w <;> exact hframe
  case msr =>
    obtain ⟨hvariant, hexec⟩ := exec_msr_full hr hi
    cases r with
    | true =>
      have moved := State.advance_within (m := {}) s
      exact ⟨_, hexec.trans (State.msr_spsr_ignored hm hp mask op), State.advance_pc_full rfl hvariant,
        moved.onlyCore rfl, rfl, rfl, rfl, rfl⟩
    | false =>
      have hmask : mask.getLsbD 0 = true := hpriv.resolve_left Bool.false_ne_true
      have hwithin : Within { flags := true } s
          (s.setCpsr (s.core.cpsr.written (mask.getLsbD 3) false op s.core.cpsr.mode)).advance :=
        .advance (.of_cpsr _ nofun (fun _ => ⟨rfl, rfl, rfl⟩) rfl)
      exact ⟨_, hexec.trans (State.msr_control_ignored hm hp hmask op), State.advance_pc_full rfl hvariant,
        hwithin.onlyCore rfl, rfl, rfl, rfl, rfl⟩
  case mrs =>
    obtain ⟨hvariant, hexec⟩ := exec_mrs_ignored hm hp hr
    obtain ⟨t, hnext, -, moved⟩ := State.mrsWrite_proceeds (v := Config.freeWord s.draws)
      (s.setDraws_within (s.draws + 1)) rfl hvariant rfl rfl hrd
    have hframe := moved.frame
    rw [hm] at hframe
    exact ⟨t, hexec.trans hnext, moved.pc, moved.flags, hframe⟩
  case mcr =>
    obtain ⟨hvariant, hexec⟩ := exec_mcr hr
    have moved := State.addCost_proceeds s.par.internal.cp15 hvariant
    exact ⟨_, hexec.trans (State.cp15_ignored hm hp _ _), moved.pc, moved.flags, moved.frame⟩
  case wfi =>
    obtain ⟨hvariant, hexec⟩ := exec_wfi hr
    have moved := State.addCost_proceeds s.par.internal.cp15 hvariant
    exact ⟨_, hexec.trans (State.cp15_ignored hm hp _ _), moved.pc, moved.flags, moved.frame⟩
  case mrc =>
    obtain ⟨hvariant, hexec⟩ := exec_mrc hr
    obtain ⟨hpc, hframe, hreg, hflags, -⟩ := State.mrcWrite_completes (rd := rd) (v := s.par.cp15Open)
      (n := s.par.internal.cp15) hvariant rfl
    rw [hm] at hframe
    exact ⟨_, hexec.trans (State.cp15_ignored hm hp _ _), hpc, hframe, hreg, hflags⟩

end Sys2Proof.Machine
end

section
/-! The compact variant's arithmetic, logic and moves (family 46): the three ways they end, and what each instruction of
the statements' tables ends with. -/

namespace Sys2Proof.Machine

/-! ## The end of a compact instruction (R33, R280, R315) -/

/-- How a compact instruction that sets the condition codes ends: after `n` internal cycles the register it writes, if
any, and the codes. -/
def State.tResult (s : State) (n : Nat) (rd : Option LReg) (r : AluResult) : Outcome :=
  match rd with
  | some d => (s.addCost n).tWrite d r
  | none => (s.addCost n).tTest r

section
variable {s u : State}

/-- The next instruction of the compact variant. -/
theorem State.advance_pc_compact (hpc : u.pc = s.pc) (hvariant : u.core.cpsr.t = true) : u.advance.pc = s.pc + 2 := by
  rw [State.advance_pc, hpc, State.step_compact hvariant]

/-- `t` is `s` after an instruction of the compact variant that goes on to the next one: the condition codes of `r`, `n`
internal cycles, of the registers `ps` alone. -/
structure CompactCompletes (ps : List PhysReg) (r : AluResult) (n : Nat) (s t : State) : Prop where
  pc : t.pc = s.pc + 2
  flags : HasFlags t r
  frame : OnlyCore ps s t
  report : t.report = (s.addCost n).report

/-- The count of free values is no part of the frame. -/
theorem OnlyCore.of_setDraws {ps : List PhysReg} {n : Nat} (h : OnlyCore ps (s.setDraws n) u) : OnlyCore ps s u :=
  ⟨⟨h.regs, h.control, h.variant, h.saved⟩, h.bytes, h.halted, h.devices⟩

theorem State.tResult_completes (hvariant : s.core.cpsr.t = true) (n : Nat) (rd : Option LReg) (r : AluResult) :
    ∃ t, s.tResult n rd r = .next t ∧ (∀ d, rd = some d → t.reg (lowReg d) = r.value) ∧
      CompactCompletes (rd.map fun d => physReg s.core.cpsr.mode (lowReg d)).toList r n s t := by
  have hcost {m : May} : Within m s (s.addCost n) := s.addCost_within n
  cases rd with
  | none =>
    have hframe := hcost.trans ((s.addCost n).tTest_within (r := r) rfl)
    exact ⟨_, rfl, nofun, State.advance_pc_compact rfl hvariant, ⟨rfl, rfl, rfl, rfl⟩, hframe.onlyCore rfl, rfl⟩
  | some d =>
    have hframe := hcost.trans ((s.addCost n).tWrite_within (rd := d) (r := r) rfl)
    refine ⟨_, rfl, ?_, State.advance_pc_compact ((s.addCost n).setReg_low_pc d r.value) hvariant,
      ⟨rfl, rfl, rfl, rfl⟩, hframe.onlyCore rfl, rfl⟩
    rintro _ ⟨⟩
    have hwritten : ((s.addCost n).setReg (lowReg d) r.value).reg (lowReg d) = r.value :=
      (State.reg_setReg _ _ _ _ (lowReg_ne_fifteen d)).trans (if_pos rfl)
    rw [State.reg_advance _ _ (lowReg_ne_fifteen d)]
    exact (State.reg_congr rfl rfl rfl _).trans hwritten

end

/-! ## What the instructions end with

Each row of a table names the operands its meaning reads, so that the two agree by definition. -/

section
variable {i : Instr} {s : State}

theorem exec_compactArith {k : ArithOp} {a b : Word} {rd : LReg} (h : compactArith s i = some (k, a, b, rd)) :
    exec i s = s.tResult 0 (some rd) (k.alu a ⟨b, s.core.cpsr.c⟩ s.core.cpsr) := by
  unfold compactArith at h
  split at h <;> cases h <;> rfl

theorem exec_compactCompare {k : ArithOp} {a b : Word} (h : compactCompare s i = some (k, a, b)) :
    exec i s = s.tResult 0 none (k.alu a ⟨b, s.core.cpsr.c⟩ s.core.cpsr) := by
  unfold compactCompare at h
  split at h <;> cases h <;> rfl

theorem exec_compactLogic {x : Shifted} {rd : Option LReg} {n : Nat} (h : compactLogic s i = some (x, rd, n)) :
    exec i s = s.tResult n rd (logical x.value x.carry s.core.cpsr) := by
  unfold compactLogic at h
  split at h <;> cases h <;> rfl

/-- A multiply ends with the logical recipe but for a free C, which counts as taken (R305). -/
theorem exec_tMul (rs rd : LReg) : exec (.tMul rs rd) s = (s.setDraws (s.draws + 1)).tResult
    (multiplyCycles true (s.low rd) + s.par.internal.mul) (some rd)
    (logical (s.low rd * s.low rs) (Config.freeFlag s.draws) s.core.cpsr) := rfl

theorem scaled_four {k : Nat} (imm : BitVec k) : scaled 4 imm = imm.setWidth 32 * 4 := scaled_eq 4 imm

theorem exec_compactMove {rd : Reg} {v : Word} (h : compactMove s i = some (rd, v)) : exec i s = s.tMove rd v := by
  unfold compactMove at h
  split at h <;> cases h
  case h_1 | h_2 => rfl
  all_goals
    rw [← scaled_four]
    rfl

end

/-- Settles O37: the sum or difference of each row of the tables is the one the full variant computes. -/
theorem compactArithmetic : Obligations.CompactArithmetic := by
  refine ⟨fun i s k a b rd hvariant h => ?_, fun i s k a b hvariant h => ?_⟩
  · obtain ⟨t, hnext, hreg, ht⟩ := State.tResult_completes hvariant 0 (some rd) (k.alu a ⟨b, s.core.cpsr.c⟩ s.core.cpsr)
    exact ⟨t, (exec_compactArith h).trans hnext, (hreg rd rfl).trans (k.alu_value _ _ _), ht.pc, ht.flags.arith,
      ht.frame, ht.report⟩
  · obtain ⟨t, hnext, -, ht⟩ := State.tResult_completes hvariant 0 none (k.alu a ⟨b, s.core.cpsr.c⟩ s.core.cpsr)
    exact ⟨t, (exec_compactCompare h).trans hnext, ht.pc, ht.flags.arith, ht.frame, ht.report⟩

/-- Settles O38: each row of the table `compactLogic` ends with the logical recipe, and so does `T.MUL`, after it took a
free value for C. -/
theorem compactLogicInstructions : Obligations.CompactLogic := by
  refine ⟨fun i s x rd n hvariant h => ?_, ?_⟩
  · obtain ⟨t, hnext, hreg, ht⟩ := State.tResult_completes hvariant n rd (logical x.value x.carry s.core.cpsr)
    exact ⟨t, (exec_compactLogic h).trans hnext, hreg, ht.pc, ht.flags.logical, ht.frame,
      congrArg Report.cost ht.report⟩
  · rintro rs rd s _ _ hvariant rfl rfl
    have hproduct : s.low rd * s.low rs = BitVec.ofNat 32 ((s.low rd).toNat * (s.low rs).toNat) :=
      BitVec.eq_of_toNat_eq (by rw [BitVec.toNat_mul, BitVec.toNat_ofNat])
    obtain ⟨t, hnext, hreg, ht⟩ := State.tResult_completes (s := s.setDraws (s.draws + 1)) hvariant
      (multiplyCycles true (s.low rd) + s.par.internal.mul) (some rd)
      (logical (s.low rd * s.low rs) (Config.freeFlag s.draws) s.core.cpsr)
    obtain ⟨hn, hz, -, hv⟩ := ht.flags.logical (s := s)
    rw [hproduct] at hn hz
    refine ⟨t, (exec_tMul rs rd).trans hnext, (hreg rd rfl).trans hproduct, ht.pc, hn, hz, hv, ht.frame.of_setDraws, ?_⟩
    refine (congrArg Report.cost ht.report).trans ?_
    rw [Nat.add_comm (multiplyCycles _ _), multiplyCycles_eq]
    exact (Nat.add_assoc _ _ _).symm

/-- Settles O39: the end is a register and the next instruction, or a control transfer under the variant as it is. -/
theorem compactMoves : Obligations.CompactMoves := by
  intro i s rd v hvariant h
  have hframe : Within { dests := [physReg s.core.cpsr.mode rd] } s (s.finishReg rd v) :=
    s.finishReg_within rd v List.mem_cons_self
  refine ⟨s.finishReg rd v, exec_compactMove h, hframe.flags rfl, fun hrd => ?_, ?_⟩
  · have hnext : s.finishReg rd v = (s.setReg rd v).advance := if_neg hrd
    rw [hnext] at hframe ⊢
    refine ⟨?_, State.advance_pc_compact (s.setReg_pc rd v hrd) hvariant, hframe.onlyCore rfl, rfl⟩
    exact (State.reg_advance _ _ hrd).trans ((s.reg_setReg rd rd v hrd).trans (if_pos rfl))
  · rintro rfl
    have hbranch : Within {} s (s.writePc v) := s.writePc_within v
    exact ⟨(s.writePc_pc v).trans (if_pos hvariant), hbranch.onlyCore (s.writePc_mem v),
      congrArg Core.seq (s.writePc_core v)⟩

end Sys2Proof.Machine
end

section
/-! Branches of the compact variant (family 48). -/

namespace Sys2Proof.Machine

/-- An unsigned immediate shifted left in the words of the machine is its exact multiple, modulo 2^32. -/
theorem setWidth_shiftLeft_eq_ofNat {n : Nat} (x : BitVec n) (k : Nat) :
    x.setWidth 32 <<< k = BitVec.ofNat 32 (x.toNat * 2 ^ k) := by
  refine BitVec.eq_of_toNat_eq ?_
  rw [BitVec.toNat_shiftLeft, BitVec.toNat_setWidth, BitVec.toNat_ofNat, Nat.shiftLeft_eq, Nat.mod_mul_mod]

section
variable (s : State)

/-- The target of `T.B` and `T.B<cond>` from an aligned `pc` (R380, R382). -/
theorem State.alignPc_compactTarget (ha : s.core.aligned = true) (hvariant : s.core.cpsr.t = true) {n : Nat}
    (imm : BitVec n) :
    s.alignPc (s.pc + 4 + (imm.signExtend 32 <<< 1)) = s.pc + 4 + BitVec.ofInt 32 (imm.toInt * 2) := by
  have hwidth : s.width = .half := if_pos hvariant
  have target := s.alignPc_displaced ha (k := 1) (ahead := 4) (by rw [hwidth]; rfl) (by rw [hwidth]; rfl)
    (imm.signExtend 32)
  exact target.trans (congrArg (s.pc + 4 + ·) (signExtend_shiftLeft_eq_ofInt imm 1))

/-- A control transfer within the variant changes `pc` alone (R32). -/
theorem State.writePc_onlyCore (v : Word) : SameFlags s (s.writePc v) ∧ OnlyCore [] s (s.writePc v) := by
  have hframe : Within {} s (s.writePc v) := s.writePc_within v
  exact ⟨hframe.flags rfl, hframe.onlyCore (s.writePc_mem v)⟩

/-- The bound of a link: `r14` of the mode the instruction runs in. -/
theorem State.setLink_within (v : Word) : Within { dests := [physReg s.core.cpsr.mode 14] } s (s.setReg 14 v) :=
  s.setReg_within 14 v (by decide) List.mem_cons_self

theorem State.reg_setLink (v : Word) : (s.setReg 14 v).reg 14 = v :=
  (s.reg_setReg 14 14 v (by decide)).trans (if_pos rfl)

end

/-- Settles O26: a displacement keeps the alignment of `pc`, each half of `T.BL` is a write of `r14` before its end, and
an exchange writes the variant and `pc`. -/
theorem compactBranches : Obligations.CompactBranches := by
  refine ⟨fun c imm8 s hvariant ha => ?_, fun imm11 s hvariant ha => ?_, fun imm11 s hvariant => ?_,
    fun imm11 s hvariant => ?_, fun rs sbz s _ => ?_⟩
  · cases hc : condHolds c s.core.cpsr with
    | true =>
      obtain ⟨flags, frame⟩ := s.writePc_onlyCore (s.pc + 4 + (imm8.signExtend 32 <<< 1))
      exact ⟨_, if_pos hc, flags, frame, (s.writePc_pc _).trans (s.alignPc_compactTarget ha hvariant imm8)⟩
    | false =>
      have hframe : Within {} s s.advance := s.advance_within
      exact ⟨_, if_neg (ne_true_of_eq_false hc), hframe.flags rfl, hframe.onlyCore rfl,
        State.advance_pc_compact rfl hvariant⟩
  · obtain ⟨flags, frame⟩ := s.writePc_onlyCore (s.pc + 4 + (imm11.signExtend 32 <<< 1))
    exact ⟨_, rfl, flags, frame, (s.writePc_pc _).trans (s.alignPc_compactTarget ha hvariant imm11)⟩
  · have hframe := (s.setLink_within (s.pc + 4 + (imm11.signExtend 32 <<< 12))).advance
    refine ⟨_, rfl, hframe.flags rfl, hframe.onlyCore rfl, ?_,
      State.advance_pc_compact (s.setReg_lr_pc _) hvariant⟩
    rw [State.reg_advance _ _ (by decide), State.reg_setLink]
    exact congrArg (s.pc + 4 + ·) (signExtend_shiftLeft_eq_ofInt imm11 12)
  · have hframe := (s.setLink_within ((s.pc + 2) ||| 1)).writePc (s.reg 14 + (imm11.setWidth 32 <<< 1))
    refine ⟨_, rfl, hframe.flags rfl, hframe.onlyCore (State.writePc_mem _ _), ?_, ?_⟩
    · rw [State.reg_writePc _ _ (by decide), State.reg_setLink]
    · rw [State.writePc_pc, setWidth_shiftLeft_eq_ofNat]
      exact if_pos hvariant
  · exact ⟨_, rfl, s.exchange_variant _, s.exchange_pc _, s.exchange_frame _⟩

end Sys2Proof.Machine
end


section
/-! A full-variant instruction under a false condition (family 70). -/

namespace Sys2Proof.Machine

/-- The outcome is that of some work behind the gate of a condition (R133). -/
def Gated (c : Cond) (s : State) (o : Outcome) : Prop := ∃ effect, o = s.when c effect

section
variable {c : Cond} {s : State}

theorem Gated.of_false {o : Outcome} (h : Gated c s o) (hc : condHolds c s.core.cpsr = false) :
    o = .next s.advance := by
  obtain ⟨effect, rfl⟩ := h
  exact State.when_false hc effect

variable (alu : AluOp) {sf : Bool} {rn rd rs rm : Reg} {rot : BitVec 4} {imm8 : BitVec 8} {amt : BitVec 5}
  {ty : ShiftKind}

theorem State.dpImm_gated : Gated c s (s.dpImm alu c sf rn rd rot imm8) := ⟨_, rfl⟩
theorem State.dpReg_gated : Gated c s (s.dpReg alu c sf rn rd amt ty rm) := ⟨_, rfl⟩
theorem State.dpRsr_gated : Gated c s (s.dpRsr alu c sf rn rd rs ty rm) := ⟨_, rfl⟩
theorem State.testImm_gated : Gated c s (s.testImm alu c rn rd rot imm8) := ⟨_, rfl⟩
theorem State.testReg_gated : Gated c s (s.testReg alu c rn rd amt ty rm) := ⟨_, rfl⟩
theorem State.testRsr_gated : Gated c s (s.testRsr alu c rn rd rs ty rm) := ⟨_, rfl⟩

/-- Every full-variant instruction stands behind the gate of its condition (R133). -/
theorem exec_gated {i : Instr} (h : i.cond = some c) : Gated c s (exec i s) := by
  unfold exec
  cases i with
  | andImm | eorImm | subImm | rsbImm | addImm | adcImm | sbcImm | rscImm | orrImm | movImm | bicImm | mvnImm =>
    cases h; exact State.dpImm_gated _
  | andReg | eorReg | subReg | rsbReg | addReg | adcReg | sbcReg | rscReg | orrReg | movReg | bicReg | mvnReg =>
    cases h; exact State.dpReg_gated _
  | andRsr | eorRsr | subRsr | rsbRsr | addRsr | adcRsr | sbcRsr | rscRsr | orrRsr | movRsr | bicRsr | mvnRsr =>
    cases h; exact State.dpRsr_gated _
  | tstImm | teqImm | cmpImm | cmnImm => cases h; exact State.testImm_gated _
  | tstReg | teqReg | cmpReg | cmnReg => cases h; exact State.testReg_gated _
  | tstRsr | teqRsr | cmpRsr | cmnRsr => cases h; exact State.testRsr_gated _
  | _ => cases h <;> exact ⟨_, rfl⟩

end

/-- Settles O7: the gate of the condition answers the next instruction, whatever the work behind it. -/
theorem falseCondition : Obligations.FalseCondition := by
  intro i c s hi hvariant hc
  have hframe : Within {} s s.advance := s.advance_within
  exact ⟨s.advance, (exec_gated hi).of_false hc, by rw [State.advance_pc, State.step_full hvariant],
    hframe.flags rfl, hframe.onlyCore rfl, rfl, rfl, rfl⟩

end Sys2Proof.Machine
end

section
/-! The interrupt flags and the registers of a timer on the default platform (families 60 and 65). -/

namespace Sys2Proof.Machine

/-! ## Acknowledging interrupts (R423) -/

/-- A write of the lower byte alone presents the register's other byte as it was. -/
theorem mergeHalf_low (old : Half) (v : Word) :
    mergeHalf old (v.extractLsb' 0 16) true false = halfByte old true ++ v.extractLsb' 0 8 :=
  congrArg (halfByte old true ++ ·) (halfByte_extractLsb' v)

/-- A write of the upper byte alone. -/
theorem mergeHalf_high (old : Half) (b : Byte) : mergeHalf old (b ++ 0#8) false true = b ++ halfByte old false :=
  congrArg (· ++ halfByte old false) BitVec.extractLsb'_append_eq_left

/-- Settles O47: each access is a write of the halfword register `IF` whose uncovered byte is presented as zero. -/
theorem interruptAcknowledge : Obligations.InterruptAcknowledge := by
  intro s req v k hd
  refine ⟨?_, ?_, ?_, ?_⟩
  · rw [State.busWrite_io (off := 0x202) hd rfl (by decide) rfl, ioWrite_half req v (h := .interruptFlags) rfl rfl,
      IoHalf.write, mergeHalf_both]
    simp
  · rw [State.busWrite_io (off := 0x202) hd rfl (by decide) rfl, ioWrite_low req v (h := .interruptFlags) rfl rfl rfl,
      IoHalf.write, mergeHalf_low]
    simp [halfByte]
  · rw [State.busWrite_io (off := 0x202 + 1) hd rfl (by decide) rfl,
      ioWrite_high req v (h := .interruptFlags) rfl rfl rfl, IoHalf.write, mergeHalf_high]
    simp [halfByte]
  · rw [State.busWrite_io (off := 0x200) hd rfl (by decide) rfl,
      ioWrite_word req v (h := .interruptEnable) (h' := .interruptFlags) rfl rfl rfl]
    simp [IoHalf.write, mergeHalf_both]

/-! ## The registers of a timer (R481, R482) -/

theorem ioHalf_timer : ∀ t : Fin 4, ioHalf (0x100 + 4 * t.val) = some (.timerCntL t) ∧
    ioHalf (0x100 + 4 * t.val + 2) = some (.timerCntH t) := by decide

theorem isCollaborator_timer : ∀ t : Fin 4, isCollaborator (0x100 + 4 * t.val) = false ∧
    isCollaborator (0x100 + 4 * t.val + 2) = false := by decide

/-- The addresses of a timer's registers. -/
theorem timerAddress_toNat : ∀ t : Fin 4,
    (0x04000100 + BitVec.ofNat 32 (4 * t.val)).toNat = 0x04000000 + (0x100 + 4 * t.val) ∧
    (0x04000100 + BitVec.ofNat 32 (4 * t.val) + 2).toNat = 0x04000000 + (0x100 + 4 * t.val + 2) := by decide

theorem timerOffset_even (t : Fin 4) : (0x100 + 4 * t.val) % Width.half.bytes = 0 ∧
    (0x100 + 4 * t.val + 2) % Width.half.bytes = 0 := by
  change (0x100 + 4 * t.val) % 2 = 0 ∧ (0x100 + 4 * t.val + 2) % 2 = 0
  omega

/-- A halfword read of a register that shows the value `x` at both its bytes. -/
theorem State.busRead_halfRegister {s : State} {a : Word} {off : Nat} {h : IoHalf} {x : Half} (k : AccessKind)
    (hd : s.par.regions = defaultRegions) (ha : a.toNat = 0x04000000 + off) (hoff : off < 0x400)
    (hal : off % Width.half.bytes = 0) (hc : isCollaborator off = false) (hh : ioHalf off = some h)
    (hx : ∀ b, h.readByte b s = some (halfByte x b)) : (s.busRead a .half k).1 = 0#16 ++ x := by
  have even : off % 2 = 0 := hal
  have odd : (off + 1) % 2 = 1 := by omega
  have low : s.ioByte (off + 0) = halfByte x false := by
    simp [State.ioByte, even, hh, hx]
  have high : s.ioByte (off + 1) = halfByte x true := by
    simp [State.ioByte, odd, hh, hx]
  rw [State.busRead_registers hd ha hoff hal k hc, Width.join, low, high, ofLanes_halfByte]

/-- The control register as a word, field by field (R482). -/
theorem Timer.control_word (x : Timer) : 0#16 ++ x.control =
    0#24 ++ BitVec.ofBool x.enable ++ BitVec.ofBool x.irqEn ++ 0#3 ++ BitVec.ofBool x.cascade ++ x.prescale := by
  have fields : ∀ (e i c : Bool) (p : BitVec 2),
      0#16 ++ (0#8 ++ BitVec.ofBool e ++ BitVec.ofBool i ++ 0#3 ++ BitVec.ofBool c ++ p) =
        0#24 ++ BitVec.ofBool e ++ BitVec.ofBool i ++ 0#3 ++ BitVec.ofBool c ++ p := by decide
  exact fields _ _ _ _

section
variable {s : State} (hd : s.par.regions = defaultRegions) (t : Fin 4) (req : Requester) (v : Word) (k : AccessKind)
include hd

/-- A write of `TMtCNT_L` (R481). -/
theorem State.busWrite_timerReload : (s.busWrite req (0x04000100 + BitVec.ofNat 32 (4 * t.val)) .half v k).timers =
    s.timers.set t { s.timers[t] with reload := v.extractLsb' 0 16 } := by
  rw [State.busWrite_io hd (timerAddress_toNat t).1 (by omega) (timerOffset_even t).1,
    ioWrite_half req v (isCollaborator_timer t).1 (ioHalf_timer t).1]
  simp [IoHalf.write, mergeHalf_both]

/-- A write of `TMtCNT_H` (R482). -/
theorem State.busWrite_timerControl :
    (s.busWrite req (0x04000100 + BitVec.ofNat 32 (4 * t.val) + 2) .half v k).timers =
      s.timers.set t (s.timers[t].writeControl (v.extractLsb' 0 16)) := by
  rw [State.busWrite_io hd (timerAddress_toNat t).2 (by omega) (timerOffset_even t).2,
    ioWrite_half req v (isCollaborator_timer t).2 (ioHalf_timer t).2]
  simp [IoHalf.write, mergeHalf_both]

end

section
variable {x : Timer} {v : Half}

/-- The enable edge reloads the counter and clears the divider (R486). -/
theorem Timer.writeControl_edge (hx : x.enable = false) (hv : v.getLsbD 7 = true) :
    (x.writeControl v).counter = x.reload ∧ (x.writeControl v).div = 0 := by
  simp only [Timer.writeControl, hx, hv, Bool.not_false, Bool.and_self, Bool.true_or, if_true, and_self]

/-- Without an enable edge the counter stays (R486). -/
theorem Timer.writeControl_counter (h : x.enable = true ∨ v.getLsbD 7 = false) :
    (x.writeControl v).counter = x.counter := by
  rcases h with h | h <;>
    simp only [Timer.writeControl, h, Bool.not_true, Bool.and_false, Bool.false_and, Bool.false_eq_true, if_false]

/-- A change of prescale clears the divider of a timer that stays enabled (R482). -/
theorem Timer.writeControl_div (hx : x.enable = true) (hv : v.getLsbD 7 = true) :
    (x.writeControl v).div = if v.extractLsb' 0 2 = x.prescale then x.div else 0 := by
  simp only [Timer.writeControl, hx, hv, Bool.not_true, Bool.and_false, Bool.false_or, Bool.true_and, bne_iff_ne, ne_eq,
    ite_not]

end

/-- Settles O49: each access is one of the halfword register at its offset; the counter and the divider by the old and
the new enable bit. -/
theorem timerRegisters : Obligations.TimerRegisters := by
  rintro s l h t req v k lo hi hd rfl rfl rfl rfl
  have hprescale : (v.extractLsb' 0 16).extractLsb' 0 2 = v.extractLsb' 0 2 :=
    BitVec.extractLsb'_extractLsb'_of_le (by decide)
  have bit (i : Nat) (hi : i < 16) : (v.extractLsb' 0 16).getLsbD i = v.getLsbD i := by
    rw [BitVec.getLsbD_extractLsb', decide_eq_true hi, Bool.true_and, Nat.zero_add]
  have enable : (v.extractLsb' 0 16).getLsbD 7 = v.getLsbD 7 := bit 7 (by decide)
  rw [State.busWrite_timerReload hd, State.busWrite_timerControl hd, getElem_set_self_row, getElem_set_self_row,
      ← enable,
    ← hprescale]
  refine ⟨?_, ?_, rfl, rfl, bit 2 (by decide), bit 6 (by decide), rfl, rfl, Timer.writeControl_edge,
    Timer.writeControl_counter, Timer.writeControl_div, fun u hu => ?_⟩
  · exact State.busRead_halfRegister k hd (timerAddress_toNat t).1 (by omega) (timerOffset_even t).1
      (isCollaborator_timer t).1 (ioHalf_timer t).1 fun _ => rfl
  · rw [← Timer.control_word]
    exact State.busRead_halfRegister k hd (timerAddress_toNat t).2 (by omega) (timerOffset_even t).2
      (isCollaborator_timer t).2 (ioHalf_timer t).2 fun _ => rfl
  · rw [getElem_set_row, getElem_set_row, if_neg (Ne.symm hu)]
    exact ⟨rfl, if_neg (Ne.symm hu)⟩

end Sys2Proof.Machine
end

section
/-! The main loop (families 60 and 65): what each branch of a checkpoint answers under a cost function, and what a
transfer and the entry of an interrupt leave. -/

namespace Sys2Proof.Machine

/-! ## The branches of a step (R467) -/

section
variable (cost : CostFunction) {s : State}

/-- A requested armed channel transfers. -/
theorem stepWith_of_dma {ch : Fin 4} (hd : s.atCheckpoint.dmaReady = some ch) : stepWith cost s =
    .next ((s.atCheckpoint.dmaTransfer ch).settleDmaBy
      (cost.transfer s.atCheckpoint (s.atCheckpoint.dmaTransfer ch))) := by
  change checkpoint cost s.atCheckpoint = _
  rw [checkpoint, hd]

/-- A deliverable interrupt is entered. -/
theorem stepWith_of_interrupt (hd : s.atCheckpoint.dmaReady = none) (hi : s.atCheckpoint.deliverable = true) :
    stepWith cost s = .next (s.atCheckpoint.wake.takeInterrupt.settleBy
      (cost.step s.atCheckpoint s.atCheckpoint.wake.takeInterrupt)) := by
  change checkpoint cost s.atCheckpoint = _
  rw [checkpoint, hd, hi]
  rfl

/-- A halted core lets time pass. -/
theorem stepWith_of_halted (hd : s.atCheckpoint.dmaReady = none) (hi : s.atCheckpoint.deliverable = false)
    (hh : s.atCheckpoint.core.halted = true) :
    stepWith cost s = .next (s.atCheckpoint.setTime s.atCheckpoint.haltedTime) := by
  change checkpoint cost s.atCheckpoint = _
  rw [checkpoint, hd, hi, hh]
  rfl

end

theorem State.deliverable_iff (s : State) : s.deliverable = true ↔
    s.irq.enable &&& s.irq.pending ≠ 0 ∧ s.irq.master = true ∧ s.core.cpsr.i = false := by
  simp [State.deliverable, and_assoc]

/-- The channel that is ready is the lowest that is armed and requested (R512). -/
theorem State.dmaReady_of_lowest {s : State} {ch : Fin 4} (ha : s.dma[ch].armed = true) (hr : s.dma[ch].req = true)
    (hlow : ∀ c : Fin 4, c < ch → ¬ (s.dma[c].armed = true ∧ s.dma[c].req = true)) : s.dmaReady = some ch := by
  have first : ∀ (p : Fin 4 → Bool) (ch : Fin 4), p ch = true → (∀ c, c < ch → p c = false) →
      [0, 1, 2, 3].find? p = some ch := by decide
  exact first (fun c => s.dma[c].armed && s.dma[c].req) ch (by simp only [ha, hr, Bool.and_self]) fun c hc => by
    simpa [imp_iff_not_or] using hlow c hc

theorem State.dmaReady_of_none {s : State} (h : ∀ c : Fin 4, ¬ (s.dma[c].armed = true ∧ s.dma[c].req = true)) :
    s.dmaReady = none :=
  List.find?_eq_none.2 fun c _ => by simpa using h c

/-! ## What a transfer leaves of the cores (R448, R467) -/

section
variable (s : State)

/-- A DMA channel halts no core (R448). -/
theorem IoHalf.write_dma_core (r : IoHalf) (v : Half) (low high : Bool) :
    (r.write .dma v low high s).core = s.core := by
  cases r with
  | masterLow => simp only [IoHalf.write]; split <;> rfl
  | postHalt =>
    have never : (high && !v.getLsbD 15 && (Requester.dma == .core)) = false := Bool.and_false _
    simp only [IoHalf.write, never, Bool.false_eq_true, if_false]
    split <;> rfl
  | _ => rfl

theorem ioWriteHalf_dma_core (off : Nat) (v : Half) (low high : Bool) :
    (ioWriteHalf .dma off v low high s).core = s.core := by
  unfold ioWriteHalf
  split
  · rfl
  · exact IoHalf.write_dma_core s _ v low high

theorem ioWrite_dma_core (off : Nat) (w : Width) (v : Word) : (ioWrite .dma off w v s).core = s.core := by
  unfold ioWrite
  split
  · exact (s.callback_sheltered _).core
  · split
    · split <;> exact ioWriteHalf_dma_core ..
    · exact ioWriteHalf_dma_core ..
    · exact (ioWriteHalf_dma_core ..).trans (ioWriteHalf_dma_core ..)

theorem State.put_core (t : Option (Nat × Width × Word)) : (s.put t).core = s.core := by cases t <;> rfl

theorem State.writeRegion_dma_core (r : Region) (a : Word) (w : Width) (v : Word) :
    (s.writeRegion .dma r a w v).core = s.core := by
  unfold State.writeRegion
  dsimp only
  split
  · split
    · exact s.put_core _
    · exact (videoWrite_sheltered _ _).core.trans (State.put_core _ _)
    · split
      · exact ioWrite_dma_core _ _ _ _
      · rfl
    · split
      · exact (State.callback_sheltered _ _).core
      · rfl
  · rfl

theorem State.busWrite_dma_core (a : Word) (w : Width) (v : Word) (k : AccessKind) :
    (s.busWrite .dma a w v k).core = s.core := by
  unfold State.busWrite
  dsimp only
  split
  · exact s.charge_core a w k
  · exact (State.writeRegion_dma_core _ _ _ _ _).trans (s.charge_core a w k)

theorem State.dmaUnits_core (ch : Fin 4) (w : Width) (a b : BitVec 2) (n : Nat) (k : AccessKind) :
    (s.dmaUnits ch w a b n k).core = s.core := by
  induction n generalizing s k with
  | zero => rfl
  | succ n ih => exact (ih _ _).trans ((State.busWrite_dma_core _ _ _ _ _).trans (s.busRead_core _ _ _))

/-- A transfer leaves the core as it was, its halt flag too (R474). -/
theorem State.dmaTransfer_core (ch : Fin 4) : (s.dmaTransfer ch).core = s.core :=
  (State.dmaCompletion_sheltered _ ch).core.trans (State.dmaUnits_core (s.addCost _) ch _ _ _ _ _)

/-! ## The channel after a transfer (R507, R510, R511) -/

/-- What completion makes of a channel (R510, R511). -/
def DmaChannel.completed (ch : Fin 4) (x : DmaChannel) : DmaChannel :=
  if x.repeats && x.trigger != 0 then x.reload ch else { x with cntH := x.cntH &&& 0x7FFF }

theorem State.dmaCompletion_dma (ch : Fin 4) : (s.dmaCompletion ch).dma = s.dma.set ch (s.dma[ch].completed ch) := by
  unfold State.dmaCompletion
  split <;> rfl

/-- Completion asks for no transfer. -/
theorem DmaChannel.completed_req (ch : Fin 4) (x : DmaChannel) : (x.completed ch).req = x.req := by
  unfold DmaChannel.completed
  split <;> rfl

/-- After a transfer the channel's request is gone (R507). -/
theorem State.dmaTransfer_req (ch : Fin 4) : (s.dmaTransfer ch).dma[ch].req = false := by
  unfold State.dmaTransfer
  dsimp only
  rw [State.dmaCompletion_dma, getElem_set_self_row, DmaChannel.completed_req, State.setDma_dma, getElem_set_self_row]

end

/-! ## The entry of an interrupt (R413, R447) -/

section
variable (s : State)

/-- A core that is not halted stands as it is. -/
theorem State.setHalted_of_not_halted {s : State} (h : s.core.halted = false) :
    (s.setHalted false).setSeq s.core.seq = s := by
  change { s with core := { s.core with halted := false, seq := s.core.seq } } = s
  rw [← h]

/-- After a wake the core runs; beside that a wake can only change how the next fetch is proposed (R447, R567). -/
theorem State.wake_eq : ∃ b, s.wake = (s.setHalted false).setSeq b := by
  unfold State.wake
  split
  · exact ⟨false, rfl⟩
  · next h => exact ⟨s.core.seq, (State.setHalted_of_not_halted (Bool.eq_false_iff.2 h)).symm⟩

/-- Of two states that differ in the cost so far, the same access costs the same (R95, R96). -/
theorem State.charge_cost_add {s t : State} {n : Nat} (hpar : t.par = s.par) (hwait : t.waitcnt = s.waitcnt)
    (hlast : t.lastRegion = s.lastRegion) (hcost : t.report.cost = n + s.report.cost) (a : Word) (w : Width)
    (k : AccessKind) : (t.charge a w k).lastRegion = (s.charge a w k).lastRegion ∧
      (t.charge a w k).report.cost = n + (s.charge a w k).report.cost := by
  have hkind (r : Region) : t.charged r k = s.charged r k := by simp only [State.charged, hlast]
  have hsum (c : Nat) : t.report.cost + c = n + (s.report.cost + c) := by rw [hcost, Nat.add_assoc]
  simp only [State.charge, hpar, hwait, hkind]
  split <;> exact ⟨rfl, hsum _⟩

/-- The entry of an interrupt costs its internal cycle and the two accesses at its vector (R413, R563, R566). -/
theorem State.takeInterrupt_cost {s u : State} (hpar : u.par = s.par) (hwait : u.waitcnt = s.waitcnt)
    (hlast : u.lastRegion = s.lastRegion) (hcost : u.report.cost = s.report.cost) :
    u.takeInterrupt.report.cost =
      s.par.internal.interrupt + ((s.charge 0x18 .word .n).charge 0x1C .word .s).report.cost := by
  have hsum : (u.addCost u.par.internal.interrupt).report.cost = s.par.internal.interrupt + s.report.cost := by
    rw [State.addCost_report_cost, hpar, hcost, Nat.add_comm]
  obtain ⟨hlast', hcost'⟩ := State.charge_cost_add (t := u.addCost u.par.internal.interrupt) hpar hwait hlast hsum
    0x18 .word .n
  refine (State.enterException_cost _ .interrupt _).trans (State.charge_cost_add ?_ ?_ hlast' hcost' _ _ _).2
  · rw [State.charge_par, State.charge_par, State.addCost_par, hpar]
  · rw [State.charge_waitcnt, State.charge_waitcnt, State.addCost_waitcnt, hwait]

/-- An entry starts with a sequential fetch at its vector (R413). -/
theorem State.takeInterrupt_seq (s : State) : s.takeInterrupt.core.seq = true := State.enterException_seq _ _ _

/-- The end of a step moves a time alone. -/
theorem Entered.settleBy {k : ExceptionKind} {ret : Word} {s t : State} (h : Entered k ret s t) (n : Nat) :
    Entered k ret s (t.settleBy n) :=
  ⟨h.mode, h.variant, h.masked, h.fast, h.flags, h.saved, h.link, h.vector, h.regs, h.bytes, h.halted, h.devices,
    h.raised⟩

/-- How the next fetch is proposed is no part of what an entry starts from. -/
theorem Entered.of_setSeq {k : ExceptionKind} {ret : Word} {s t : State} {b : Bool} (h : Entered k ret (s.setSeq b) t) :
    Entered k ret s t :=
  ⟨h.mode, h.variant, h.masked, h.fast, h.flags, h.saved, h.link, h.vector, h.regs, h.bytes, h.halted, h.devices,
    h.raised⟩

/-- A woken core enters the interrupt from where it stood, not halted (R413, R447). -/
theorem State.wake_takeInterrupt_entered :
    Entered .interrupt (s.pc + 4) (s.setHalted false) s.wake.takeInterrupt := by
  obtain ⟨b, hwake⟩ := s.wake_eq
  rw [hwake]
  exact Entered.of_setSeq (State.enterException_entered _ _ _).of_addCost

/-- The cores' shares of the end of a transfer (R467). -/
theorem State.settleDmaBy_core (n : Nat) :
    (s.settleDmaBy n).core = { s.core with time := max s.core.time (s.sched.now + n) } := rfl

end

/-! ## The cores at a checkpoint -/

theorem State.select_par (s : State) : s.select.par = s.par := by
  rcases s.select_cases with ⟨h, -⟩ | ⟨o, -, -, h⟩ <;> rw [h]

theorem State.atCheckpoint_par (s : State) : s.atCheckpoint.par = s.par :=
  s.atCheckpoint_advanced.par.trans s.select_par

/-- Settles O55: each clause is one branch of the checkpoint; an entry costs its internal cycle and its refill. -/
theorem checkpointOrder : Obligations.Checkpoint := by
  rintro s u rfl
  refine ⟨fun ch ha hr hlow => ?_, fun hnone => ⟨fun hpend hmaster hi => ?_, fun hquiet hh => ?_⟩⟩
  · have hframe := s.atCheckpoint.dmaTransfer_frame ch
    refine ⟨_, stepWith_of_dma tableCost (State.dmaReady_of_lowest ha hr hlow), rfl, State.dmaTransfer_req _ ch, ?_, ?_⟩
    · rw [State.settleDmaBy_core, State.dmaTransfer_core, hframe.now]
      rfl
    · rw [← hframe.now, ← hframe.other]
      rfl
  · have hready := State.dmaReady_of_none hnone
    refine ⟨_, stepWith_of_interrupt tableCost hready ((State.deliverable_iff _).2 ⟨hpend, hmaster, hi⟩),
      (State.wake_takeInterrupt_entered _).settleBy _, s.atCheckpoint.wake.takeInterrupt_seq, ?_⟩
    have hlawful := s.atCheckpoint.wake_lawful.trans (State.takeInterrupt_lawful _)
    have hclk : s.atCheckpoint.wake.takeInterrupt.clk = s.atCheckpoint.clk := by
      rw [State.clk, hlawful.index, hlawful.par]
      rfl
    have hcost : s.atCheckpoint.wake.takeInterrupt.report.cost = s.par.internal.interrupt +
        (((s.atCheckpoint.setCpsr { s.atCheckpoint.core.cpsr with t := false }).charge 0x18 .word .n).charge
          0x1C .word .s).report.cost := by
      obtain ⟨b, hwake⟩ := s.atCheckpoint.wake_eq
      rw [hwake, ← s.atCheckpoint_par]
      exact State.takeInterrupt_cost
        (s := s.atCheckpoint.setCpsr { s.atCheckpoint.core.cpsr with t := false }) rfl rfl rfl rfl
    exact congrArg₂ (· + ·) hlawful.time (congrArg₂ (· * ·) hcost hclk)
  · have hdeliver : s.atCheckpoint.deliverable = false := by
      refine Bool.eq_false_iff.2 fun h => ?_
      obtain ⟨hpend, hmaster, hi⟩ := (State.deliverable_iff _).1 h
      rcases hquiet with h | h | h
      · exact hpend h
      · exact ne_true_of_eq_false h hmaster
      · exact ne_true_of_eq_false hi h
    refine ⟨_, stepWith_of_halted tableCost (State.dmaReady_of_none hnone) hdeliver hh, rfl, Nat.le_max_left _ _,
      fun ho => ?_, fun o ho hoh => ?_, fun o ho hoh => ?_⟩
    all_goals
      rw [State.setTime_core_time, State.haltedTime, ho]
    · exact congrArg _ (if_pos hoh)
    · exact congrArg _ (if_neg (ne_true_of_eq_false hoh))

end Sys2Proof.Machine
end

section
/-! The order of the cores (family 65): which core runs, that machine time never goes back, and what the cost function
of a step reaches. -/

namespace Sys2Proof.Machine

/-! ## The core chosen (R472) -/

section
variable {s : State} {o : Core} (ho : s.other = some o)
include ho

/-- The other core runs where it is earlier, or as early and of the lower index. -/
theorem State.select_of_earlier (h : o.time < s.core.time ∨ o.time = s.core.time ∧ o.index < s.core.index) :
    s.select = { s with core := o, other := some s.core } := by
  rw [State.select, ho]
  exact if_pos h

theorem State.select_of_later (h : ¬ (o.time < s.core.time ∨ o.time = s.core.time ∧ o.index < s.core.index)) :
    s.select = s := by
  rw [State.select, ho]
  exact if_neg h

end

/-! ## Time never goes back (R460, R472) -/

/-- The machine's time is at least `now`, the devices stand at it, and the core is not behind it. -/
def Timely (now : Nat) (s : State) : Prop :=
  now ≤ s.sched.now ∧ s.sched.devNow = s.sched.now ∧ s.sched.now ≤ s.core.time

section
variable {s t : State} {now : Nat}

/-- The core chosen is not behind the machine's time. -/
theorem State.now_le_select (h : s.onTime = true) :
    s.select.sched = s.sched ∧ s.sched.now ≤ s.select.core.time := by
  obtain ⟨-, hnow, hother⟩ := s.onTime_iff.1 h
  rcases s.select_cases with ⟨heq, -⟩ | ⟨o, ho, -, heq⟩
  · rw [heq]; exact ⟨rfl, hnow⟩
  · rw [heq]; exact ⟨rfl, hother o ho⟩

/-- At a checkpoint the devices stand at the time of the core chosen (R467). -/
theorem State.atCheckpoint_timely (h : s.onTime = true) : Timely s.sched.now s.atCheckpoint := by
  obtain ⟨hdev, -, -⟩ := s.onTime_iff.1 h
  obtain ⟨hsched, hcore⟩ := s.now_le_select h
  have hdev : s.begin.sched.devNow ≤ s.begin.sched.now := by
    refine Nat.le_trans ?_ hcore
    change s.select.sched.devNow ≤ _
    rwa [hsched]
  have adv := s.atCheckpoint_advanced
  refine ⟨?_, ?_, ?_⟩
  · rw [adv.now]; exact hcore
  · rw [adv.devNow, adv.now]; exact Nat.add_sub_cancel' hdev
  · rw [adv.now, adv.core]; exact Nat.le_refl _

theorem Timely.lawful (h : Timely now s) (k : Lawful s t) : Timely now t := by
  rw [Timely, k.now, k.devNow, k.time]
  exact h

theorem Timely.settleBy (h : Timely now s) (n : Nat) : Timely now (s.settleBy n) := by
  obtain ⟨hnow, hdev, hcore⟩ := h
  exact ⟨hnow, hdev, hcore.trans (Nat.le_add_right _ _)⟩

theorem Timely.settleDmaBy (h : Timely now s) (n : Nat) : Timely now (s.settleDmaBy n) := by
  obtain ⟨hnow, hdev, hcore⟩ := h
  exact ⟨hnow, hdev, hcore.trans (Nat.le_max_left _ _)⟩

theorem Timely.setTime (h : Timely now s) {n : Nat} (hn : s.core.time ≤ n) : Timely now (s.setTime n) := by
  obtain ⟨hnow, hdev, hcore⟩ := h
  exact ⟨hnow, hdev, hcore.trans hn⟩

/-- A step leaves the machine timely, whatever it cost. -/
theorem stepWith_timely {cost : CostFunction} (hs : s.onTime = true) (h : stepWith cost s = .next t) :
    Timely s.sched.now t := by
  have hc := State.atCheckpoint_timely hs
  rcases stepWith_cases h with ⟨ch, -, rfl⟩ | ⟨-, -, rfl⟩ | ⟨-, -, -, rfl⟩ | ⟨-, -, -, u, hu, rfl⟩
  · exact (hc.lawful (State.dmaTransfer_lawful _ ch)).settleDmaBy _
  · exact (hc.lawful ((State.wake_lawful _).trans (State.takeInterrupt_lawful _))).settleBy _
  · exact hc.setTime (State.time_le_haltedTime _)
  · exact (hc.lawful ((State.fetch_lawful _).trans (exec_ran hu).lawful)).settleBy _

/-! ## What the cost function reaches (R569) -/

theorem State.settleBy_untimed (s : State) (m n : Nat) : (s.settleBy m).untimed = (s.settleBy n).untimed := rfl

theorem State.settleDmaBy_untimed (s : State) (m n : Nat) : (s.settleDmaBy m).untimed = (s.settleDmaBy n).untimed := by
  cases ho : s.other <;>
    simp only [State.settleDmaBy, State.untimed, Core.waitUntil, ho, Option.map_none, Option.map_some]

/-- Under another cost function a step does the same, but for the cores' times (R569). -/
theorem stepWith_untimed {cost : CostFunction} (cost' : CostFunction) (h : stepWith cost s = .next t) :
    ∃ u, stepWith cost' s = .next u ∧ u.untimed = t.untimed := by
  rcases stepWith_cases h with ⟨ch, hd, rfl⟩ | ⟨hd, hi, rfl⟩ | ⟨hd, hi, hh, rfl⟩ | ⟨hd, hi, hh, u, hu, rfl⟩
  · exact ⟨_, stepWith_of_dma cost' hd, State.settleDmaBy_untimed _ _ _⟩
  · exact ⟨_, stepWith_of_interrupt cost' hd hi, State.settleBy_untimed _ _ _⟩
  · exact ⟨_, stepWith_of_halted cost' hd hi hh, rfl⟩
  · refine ⟨u.settleBy (cost'.step s.atCheckpoint u), ?_, State.settleBy_untimed u _ _⟩
    rw [stepWith_of_running cost' hd hi hh, runInstruction, hu]

/-- Only an instruction is refused, whatever its cost would have been. -/
theorem stepWith_refused {cost : CostFunction} {r : Refusal} (cost' : CostFunction) (h : stepWith cost s = .refused r) :
    stepWith cost' s = .refused r := by
  cases hd : s.atCheckpoint.dmaReady with
  | some ch => rw [stepWith_of_dma cost hd] at h; cases h
  | none =>
    cases hi : s.atCheckpoint.deliverable with
    | true => rw [stepWith_of_interrupt cost hd hi] at h; cases h
    | false =>
      cases hh : s.atCheckpoint.core.halted with
      | true => rw [stepWith_of_halted cost hd hi hh] at h; cases h
      | false =>
        rw [stepWith_of_running cost hd hi hh, runInstruction] at h
        rw [stepWith_of_running cost' hd hi hh, runInstruction]
        split at h
        · cases h
        · cases h
        · exact h

end

/-- Settles O56: the choice by time and index, the times along each branch of a step, and that a cost moves times
alone. -/
theorem coreOrder : Obligations.CoreOrder := by
  refine ⟨fun s o ho hne => ?_, fun s t hs h => stepWith_timely (cost := tableCost) hs h,
    fun cost cost' s => ⟨fun t h => ⟨stepWith_untimed cost' h, fun hs => stepWith_timely hs h⟩,
      fun r h => stepWith_refused cost' h⟩⟩
  by_cases h : o.time < s.core.time ∨ o.time = s.core.time ∧ o.index < s.core.index
  · refine ⟨s.core, ?_⟩
    rw [State.begin, State.select_of_earlier ho h]
    exact ⟨rfl, .inr ⟨rfl, rfl⟩, rfl, h⟩
  · refine ⟨o, ?_⟩
    rw [State.begin, State.select_of_later ho h]
    exact ⟨ho, .inl ⟨rfl, rfl⟩, rfl, by dsimp only; omega⟩

end Sys2Proof.Machine
end

section
/-! The returns from an exception that restore a legal status (family 60). -/

namespace Sys2Proof.Machine

section
variable {s : State}

/-- A saved status with a legal mode field is restored, and `pc` is written under it (R416). -/
theorem State.exceptionReturn_restores {p : Spsr} {q : Cpsr} (hp : s.spsr = some p) (hq : p.restore = some q)
    (v : Word) : s.exceptionReturn v = .next ((s.setCpsr q).writePc v) := by
  simp only [State.exceptionReturn, hp, hq]

/-- `pc` is aligned by the variant of the restored status. -/
theorem State.setCpsr_writePc_pc (q : Cpsr) (v : Word) :
    ((s.setCpsr q).writePc v).pc = if q.t then v &&& ~~~1 else v &&& ~~~3 := State.writePc_pc _ _

theorem State.setCpsr_writePc_cpsr (q : Cpsr) (v : Word) : ((s.setCpsr q).writePc v).core.cpsr = q :=
  congrArg Core.cpsr (State.writePc_core _ v)

/-- The bound of a return: the whole status beside what the work before it can change. -/
theorem Within.restores {m : May} {u : State} (h : Within m s u) (q : Cpsr) (v : Word) :
    Within { m with flags := true, control := true, variant := true } s ((u.setCpsr q).writePc v) :=
  Within.trans { h with flags := nofun, control := nofun, variant := nofun }
    (u.setCpsr_writePc_within q v nofun nofun nofun)

/-- In a privileged mode `LDM` with `S = 1` and `r15` in its list loads the current bank and ends in a return (R243). -/
theorem execLdm_returns {c : Cond} {p u w : Bool} {rn : Reg} {list : BitVec 16} (hc : condHolds c s.core.cpsr = true)
    (hrn : rn ≠ 15) (h15 : list.getLsbD 15 = true) (hm : s.core.cpsr.mode ≠ .usr) :
    execLdm c p u true w rn list s = s.ldmBody s.core.cpsr.mode p u w rn list State.exceptionReturn := by
  have hlist : list ≠ 0 := by rintro rfl; simp at h15
  simp only [execLdm, State.when_true hc, h15, Bool.not_true, Bool.and_false, blockRefusal_passed hrn hlist,
    Bool.and_true, if_true]
  exact State.privileged_of_mode hm _ _

end

/-- Settles O15: data processing returns with its result; an `LDM` returns with the last word of its block, after the
loads and the write-back in the mode it ran in. -/
theorem exceptionReturn : Obligations.ExceptionReturn := by
  refine ⟨fun k c rn o s p q hr ho hp hq => ?_, fun c p u w rn list s x q start hr h15 hrn hx hq hstart hplain => ?_⟩
  · obtain ⟨-, hc⟩ := ready_dp hr
    have hm : s.core.cpsr.mode ≠ .usr := State.mode_ne_usr_of_spsr (by simp [hp])
    rw [exec_dp k hc ho, State.dpWrite_returns _ hm, ← k.alu_value]
    generalize (k.alu (o.first s rn) (o.shifter s) s.core.cpsr).value = v
    have hframe := ((Within.refl (m := {}) s).addCost (o.cycles s)).restores q v
    exact ⟨_, State.exceptionReturn_restores (s := s.addCost _) hp hq v, State.setCpsr_writePc_cpsr q v,
      State.setCpsr_writePc_pc q v, hframe.regs, hframe.saved rfl,
      State.peek_congr hframe.par (State.writePc_mem _ _), hframe.devices rfl⟩
  · obtain ⟨-, hc⟩ := hr
    have hm : s.core.cpsr.mode ≠ .usr := State.mode_ne_usr_of_spsr (by simp [hx])
    obtain ⟨b, loaded, -, hreturn⟩ :=
      State.ldmBody_ends (s := s) (m := s.core.cpsr.mode) (p := p) (u := u) (w := w) (list := list)
        (ret := State.exceptionReturn) hrn
    rw [← hstart] at loaded hreturn
    obtain ⟨v, hbody, hv⟩ := hreturn (mem_listRegs.2 h15)
    obtain rfl := hv hplain
    have hspsr : b.spsr = some x := by
      rw [State.spsr, loaded.within.saved rfl, loaded.within.mode rfl]
      exact hx
    have hbank (v : Word) {i : Reg} (hi : i ≠ 15) :
        ((b.setCpsr q).writePc v).getMode s.core.cpsr.mode i = b.getMode s.core.cpsr.mode i :=
      State.getMode_writePc _ v hi
    have hframe := loaded.within.restores q (s.blockWord start ((listRegs list).length - 1))
    refine ⟨_, ((execLdm_returns (hc c rfl) hrn h15 hm).trans hbody).trans
      (State.exceptionReturn_restores hspsr hq _), State.setCpsr_writePc_cpsr q _, hframe.saved rfl,
      State.setCpsr_writePc_pc q _, fun k h hk => ?_, fun hw hnew => ?_, ?_,
      State.peek_congr hframe.par ((State.writePc_mem _ _).trans loaded.mem), fun hquiet => ?_⟩
    · exact (hbank _ hk).trans (loaded.words hplain k h hk)
    · have hbase := loaded.base rn _ (if_pos hw) hnew
      rw [State.reg, if_neg hrn, loaded.within.mode rfl] at hbase
      exact (hbank _ hrn).trans hbase
    · cases w <;> exact hframe.regs
    · have hwrite : SameDevices b ((b.setCpsr q).writePc (s.blockWord start ((listRegs list).length - 1))) :=
        ((Within.refl (m := {}) b).restores q _).devices rfl
      exact (loaded.devices hquiet).trans hwrite

end Sys2Proof.Machine
end

section
/-! A cycle of the devices (family 65): it only ever adds requests; the scanline position and the channels requested at
HBlank and VBlank. -/

namespace Sys2Proof.Machine

/-! ## Requests are only added (R429, R506) -/

/-- No pending interrupt and no requested transfer is lost, and every DMA control word stays. -/
structure Raises (s t : State) : Prop where
  pending : ∀ k, s.irq.pending.getLsbD k = true → t.irq.pending.getLsbD k = true
  requested : ∀ ch : Fin 4, s.dma[ch].req = true → t.dma[ch].req = true
  control : ∀ ch : Fin 4, t.dma[ch].cntH = s.dma[ch].cntH

section
variable {s t u : State}

theorem Raises.of_eq (hirq : t.irq = s.irq) (hdma : t.dma = s.dma) : Raises s t :=
  ⟨fun _ h => hirq ▸ h, fun _ h => hdma ▸ h, fun _ => hdma ▸ rfl⟩

theorem Raises.refl (s : State) : Raises s s := .of_eq rfl rfl

theorem Raises.trans (h : Raises s t) (k : Raises t u) : Raises s u :=
  ⟨fun i hi => k.pending i (h.pending i hi), fun ch hc => k.requested ch (h.requested ch hc),
    fun ch => (k.control ch).trans (h.control ch)⟩

theorem Raises.ite (p : Prop) [Decidable p] (h : Raises s t) (k : Raises s u) : Raises s (if p then t else u) := by
  split <;> assumption

theorem Raises.foldl {α : Type} {f : State → α → State} (h : ∀ s a, Raises s (f s a)) (l : List α) (s : State) :
    Raises s (l.foldl f s) := by
  induction l generalizing s with
  | nil => exact .refl s
  | cons a l ih => exact (h s a).trans (ih (f s a))

end

section
variable (s : State)

theorem State.request_raises (k : Nat) : Raises s (s.request k) where
  pending i hi := by rw [State.request, State.setIrq_irq, BitVec.getLsbD_or, hi, Bool.true_or]
  requested _ h := h
  control _ := rfl

theorem State.latchRequest_raises (trig : BitVec 2) (ch : Fin 4) : Raises s (s.latchRequest trig ch) := by
  refine Raises.ite _ ⟨fun _ h => h, fun c hc => ?_, fun c => ?_⟩ (.refl s)
  · rw [State.setDma_dma, getElem_set_row]
    split
    · rfl
    · exact hc
  · rw [State.setDma_dma, getElem_set_row]
    split
    · next h => rw [← h]
    · rfl

theorem State.checkSpecial_raises (ch : Fin 4) : Raises s (s.checkSpecial ch) :=
  Raises.ite _ (.refl s) (s.latchRequest_raises 3 ch)

theorem State.collabCall_raises (c : CollabCall) : Raises s (s.collabCall c) := by
  cases c with
  | request k => exact Raises.ite _ (s.request_raises k) (.refl s)
  | special ch => exact s.checkSpecial_raises ch
  | schedule due id => exact Raises.ite _ (.of_eq rfl rfl) (.refl s)

theorem State.takeAnswer_raises : Raises s s.takeAnswer.2 := by
  unfold State.takeAnswer
  split <;> exact .of_eq rfl rfl

theorem State.callback_raises (n : Note) : Raises s (s.callback n).2 := by
  have noted : Raises s (s.note n) := .of_eq rfl rfl
  have h := noted.trans (s.note n).takeAnswer_raises
  unfold State.callback
  split
  · next t e => rw [e] at h; exact h
  · next a t e => rw [e] at h; exact h.trans (Raises.foldl State.collabCall_raises _ _)

theorem State.fifoPairing_raises : Raises s s.fifoPairing := by
  have h := s.takeAnswer_raises
  unfold State.fifoPairing
  split
  · next t e => rw [e] at h; exact h
  · next a t e => rw [e] at h; exact h.trans (Raises.foldl State.checkSpecial_raises _ _)

/-- An overflow but for its successor (R484): the reload, the interrupt, the audio channels. -/
def State.wrap (t : Fin 4) : State :=
  let u := s.setTimer t { s.timers[t] with counter := s.timers[t].reload }
  (if s.timers[t].irqEn then u.request (3 + t.val) else u).fifoPairing

/-- The count an overflow hands on to the first timer of the list, if that one is enabled and cascading (R485). -/
def State.carry : List (Fin 4) → State
  | [] => s
  | u :: rest => if s.timers[u].enable && s.timers[u].cascade then s.increment (u :: rest) else s

variable {s} in
theorem State.increment_wraps {t : Fin 4} (h : s.timers[t].counter = 0xFFFF) (rest : List (Fin 4)) :
    s.increment (t :: rest) = (s.wrap t).carry rest := by
  rw [State.increment]
  refine (if_pos h).trans ?_
  cases rest <;> rfl

variable {s} in
theorem State.increment_counts {t : Fin 4} (h : s.timers[t].counter ≠ 0xFFFF) (rest : List (Fin 4)) :
    s.increment (t :: rest) = s.setTimer t { s.timers[t] with counter := s.timers[t].counter + 1 } := by
  rw [State.increment]
  exact if_neg h

theorem State.wrap_raises (t : Fin 4) : Raises s (s.wrap t) := by
  have reloaded : Raises s (s.setTimer t { s.timers[t] with counter := s.timers[t].reload }) := .of_eq rfl rfl
  exact (reloaded.trans (Raises.ite _ (State.request_raises _ _) (.refl _))).trans (State.fifoPairing_raises _)

theorem State.increment_raises (l : List (Fin 4)) : Raises s (s.increment l) := by
  induction l generalizing s with
  | nil => exact .refl s
  | cons t rest ih =>
    by_cases h : s.timers[t].counter = 0xFFFF
    · rw [State.increment_wraps h]
      refine (s.wrap_raises t).trans ?_
      cases rest with
      | nil => exact .refl _
      | cons u rest => exact Raises.ite _ (ih _) (.refl _)
    · rw [State.increment_counts h]
      exact .of_eq rfl rfl

theorem State.carry_raises (l : List (Fin 4)) : Raises s (s.carry l) := by
  cases l with
  | nil => exact .refl s
  | cons u rest => exact Raises.ite _ (s.increment_raises _) (.refl s)

theorem State.tickOne_raises (l : List (Fin 4)) : Raises s (s.tickOne l) := by
  cases l with
  | nil => exact .refl s
  | cons t rest =>
    have counted : Raises s (s.setTimer t { s.timers[t] with div := 0 }) := .of_eq rfl rfl
    exact Raises.ite _ (Raises.ite _ (counted.trans (State.increment_raises _ _)) (.of_eq rfl rfl)) (.refl s)

theorem State.tickTimers_raises : Raises s s.tickTimers := Raises.foldl State.tickOne_raises _ _

theorem State.fireTicks_raises (T : Nat) : Raises s (s.fireTicks T) :=
  Raises.trans (t := s.setSched { s.sched with ticks := s.sched.ticks.filter fun t => decide (T < t.due) })
    (.of_eq rfl rfl) (Raises.foldl (fun u _ => u.callback_raises _) _ _)

theorem State.emit_raises (x : Signal) : Raises s (s.emit x) := s.callback_raises _

theorem State.beforeLineEnd_raises : Raises s s.beforeLineEnd := by
  have moved : Raises s s.nextDot := .of_eq rfl rfl
  refine Raises.ite _ (moved.trans (Raises.ite _ ?_ (State.emit_raises _ _))) moved
  exact (State.emit_raises _ _).trans (Raises.foldl (State.latchRequest_raises · 2) _ _)

/-- The start of the next line, its signal sent. -/
def State.lineStarted : State := s.nextLine.emit (.scanlineBoundary s.nextLine.sched.line)

/-- Vertical blanking announced to the DMA channels where the next line starts it. -/
def State.blanked : State :=
  if s.nextLine.sched.line = s.lineStarted.par.vblankLine then s.lineStarted.checkVBlank else s.lineStarted

theorem State.endOfLine_eq : s.endOfLine =
    if s.nextLine.sched.line = 0 then s.blanked.emit .frameBoundary else s.blanked := rfl

theorem State.lineStarted_raises : Raises s s.lineStarted :=
  Raises.trans (t := s.nextLine) (.of_eq rfl rfl) (State.emit_raises _ _)

theorem State.endOfLine_raises : Raises s s.endOfLine := by
  rw [State.endOfLine_eq]
  refine Raises.trans (t := s.blanked) ?_ (Raises.ite _ (State.emit_raises _ _) (.refl _))
  exact s.lineStarted_raises.trans (Raises.ite _ (Raises.foldl (State.latchRequest_raises · 1) _ _) (.refl _))

theorem State.scanline_raises : Raises s s.scanline := by
  rw [State.scanline_eq]
  exact Raises.ite _ (s.beforeLineEnd_raises.trans (State.endOfLine_raises _)) s.beforeLineEnd_raises

/-- The devices at the start of the scanline's part of a cycle: one cycle later, the stored events fired (R465). -/
def State.afterTicks : State := (s.laterBy 1).fireTicks (s.sched.devNow + 1)

theorem State.advanceOne_eq : s.advanceOne = s.afterTicks.scanline.tickTimers := rfl

theorem State.afterTicks_sheltered : Sheltered (s.laterBy 1) s.afterTicks := State.fireTicks_sheltered _ _

theorem State.afterTicks_par : s.afterTicks.par = s.par := s.afterTicks_sheltered.par
theorem State.afterTicks_dot : s.afterTicks.sched.dot = s.sched.dot := s.afterTicks_sheltered.dot
theorem State.afterTicks_line : s.afterTicks.sched.line = s.sched.line := s.afterTicks_sheltered.line

theorem State.afterTicks_raises : Raises s s.afterTicks :=
  Raises.trans (t := s.laterBy 1) (.of_eq rfl rfl) (State.fireTicks_raises _ _)

theorem State.advanceOne_raises : Raises s s.advanceOne :=
  s.afterTicks_raises.trans ((State.scanline_raises _).trans (State.tickTimers_raises _))

theorem State.advanceBy_raises (n : Nat) : Raises s (s.advanceBy n) := by
  induction n generalizing s with
  | zero => exact .refl s
  | succ n ih =>
    rw [State.advanceBy_succ]
    exact s.advanceOne_raises.trans (ih _)

end

/-! ## The scanline position (R471) -/

section
variable {s : State}

/-- The position after a cycle is the scanline's alone. -/
theorem State.advanceOne_position (s : State) : s.advanceOne.sched.dot = s.afterTicks.scanline.sched.dot ∧
    s.advanceOne.sched.line = s.afterTicks.scanline.sched.line := by
  have ticked := s.afterTicks.scanline.tickTimers_counted
  rw [State.advanceOne_eq]
  exact ⟨ticked.dot, ticked.line⟩

/-- A cycle inside a line. -/
theorem State.advanceOne_midLine (h : s.sched.dot + 1 ≠ s.par.lineCycles) :
    s.advanceOne.sched.dot = s.sched.dot + 1 ∧ s.advanceOne.sched.line = s.sched.line := by
  have before := s.afterTicks.beforeLineEnd_sheltered
  have hbefore : s.afterTicks.beforeLineEnd.sched.dot = s.afterTicks.sched.dot + 1 := before.dot
  obtain ⟨hdot, hline⟩ := s.advanceOne_position
  rw [State.scanline_eq, s.afterTicks_par, s.afterTicks_dot, if_neg h] at hdot hline
  rw [s.afterTicks_dot] at hbefore
  exact ⟨hdot.trans hbefore, hline.trans (before.line.trans s.afterTicks_line)⟩

/-- The last cycle of a line. -/
theorem State.advanceOne_lineEnd (h : s.sched.dot + 1 = s.par.lineCycles) :
    s.advanceOne.sched.dot = 0 ∧ s.advanceOne.sched.line = (s.sched.line + 1) % s.par.linesPerFrame := by
  have before := s.afterTicks.beforeLineEnd_sheltered
  have ended := s.afterTicks.beforeLineEnd.endOfLine_counted
  obtain ⟨hdot, hline⟩ := s.advanceOne_position
  rw [State.scanline_eq, s.afterTicks_par, s.afterTicks_dot, if_pos h] at hdot hline
  have hnext : s.afterTicks.beforeLineEnd.nextLine.sched.line = (s.sched.line + 1) % s.par.linesPerFrame :=
    congrArg₂ (· % ·) (congrArg (· + 1) (before.line.trans s.afterTicks_line))
      (congrArg Params.linesPerFrame (before.par.trans s.afterTicks_par))
  exact ⟨hdot.trans ended.dot, hline.trans (ended.line.trans hnext)⟩

theorem State.advanceBy_midLine {n : Nat} (h : s.sched.dot + n < s.par.lineCycles) :
    (s.advanceBy n).sched.dot = s.sched.dot + n ∧ (s.advanceBy n).sched.line = s.sched.line := by
  induction n generalizing s with
  | zero => exact ⟨rfl, rfl⟩
  | succ n ih =>
    obtain ⟨hdot, hline⟩ := State.advanceOne_midLine (s := s) (by omega)
    have hpar : s.advanceOne.par = s.par := s.advanceOne_advanced.par
    rw [State.advanceBy_succ]
    obtain ⟨hdot', hline'⟩ := ih (s := s.advanceOne) (by rw [hdot, hpar]; omega)
    exact ⟨by rw [hdot', hdot]; omega, hline'.trans hline⟩

end

/-! ## The channels requested (R506, R517) -/

section
variable {s t : State} {trig : BitVec 2} {ch : Fin 4}

/-- Channel `ch` is armed and waits for trigger `trig`. -/
def State.Awaits (s : State) (trig : BitVec 2) (ch : Fin 4) : Prop := s.dma[ch].armed = true ∧ s.dma[ch].trigger = trig

/-- Work that adds requests leaves what a channel waits for. -/
theorem State.Awaits.of_raises (h : s.Awaits trig ch) (k : Raises s t) : t.Awaits trig ch := by
  rw [State.Awaits, DmaChannel.armed, DmaChannel.trigger, k.control ch]
  exact h

theorem State.latchRequest_req (h : s.Awaits trig ch) : (s.latchRequest trig ch).dma[ch].req = true := by
  obtain ⟨harmed, htrig⟩ := h
  have hcond : (s.dma[ch].armed && s.dma[ch].trigger == trig) = true := by
    rw [harmed, htrig, Bool.true_and, beq_self_eq_true]
  rw [State.latchRequest, if_pos hcond, State.setDma_dma, getElem_set_self_row]

/-- A check of a trigger requests every channel that waits for it. -/
theorem State.foldl_latchRequest_req (h : s.Awaits trig ch) {l : List (Fin 4)} (hl : ch ∈ l) :
    (l.foldl (State.latchRequest trig) s).dma[ch].req = true := by
  induction l generalizing s with
  | nil => cases hl
  | cons a l ih =>
    cases hl with
    | head => exact (Raises.foldl (State.latchRequest_raises · trig) l _).requested ch (State.latchRequest_req h)
    | tail _ hl => exact ih (h.of_raises (s.latchRequest_raises trig a)) hl

theorem mem_channels (ch : Fin 4) : ch ∈ [(0 : Fin 4), 1, 2, 3] := by decide +revert

/-- At the start of vertical blanking (R471). -/
theorem State.endOfLine_requests (h : s.Awaits 1 ch)
    (hline : (s.sched.line + 1) % s.par.linesPerFrame = s.par.vblankLine) : s.endOfLine.dma[ch].req = true := by
  have hpar : s.lineStarted.par = s.par := (State.callback_sheltered _ _).par
  have hblanked : s.blanked = s.lineStarted.checkVBlank := if_pos (hline.trans (congrArg Params.vblankLine hpar.symm))
  rw [State.endOfLine_eq]
  refine (Raises.ite _ (State.emit_raises _ _) (.refl s.blanked)).requested ch ?_
  rw [hblanked]
  exact State.foldl_latchRequest_req (h.of_raises s.lineStarted_raises) (mem_channels ch)

/-- In the middle of a visible line (R471). -/
theorem State.beforeLineEnd_requests (h : s.Awaits 2 ch) (hdot : s.sched.dot + 1 = s.par.hblankStart)
    (hline : s.sched.line < s.par.vblankLine) : s.beforeLineEnd.dma[ch].req = true := by
  have sent := s.nextDot.emit_raises (.hblankStart s.sched.line)
  have hpar : (s.nextDot.emit (.hblankStart s.sched.line)).par = s.par := (State.callback_sheltered _ _).par
  have moved : Raises s s.nextDot := .of_eq rfl rfl
  have hvisible : s.nextDot.hblank = (s.nextDot.emit (.hblankStart s.sched.line)).checkHBlank :=
    if_pos (hline.trans_eq (congrArg Params.vblankLine hpar.symm))
  rw [State.beforeLineEnd, if_pos hdot, hvisible]
  exact State.foldl_latchRequest_req (h.of_raises (moved.trans sent)) (mem_channels ch)

theorem State.advanceOne_vblank (h : s.Awaits 1 ch) (hdot : s.sched.dot + 1 = s.par.lineCycles)
    (hline : (s.sched.line + 1) % s.par.linesPerFrame = s.par.vblankLine) : s.advanceOne.dma[ch].req = true := by
  have before := s.afterTicks.beforeLineEnd_sheltered
  have hpar : s.afterTicks.beforeLineEnd.par = s.par := before.par.trans s.afterTicks_par
  have hposition : s.afterTicks.beforeLineEnd.sched.line = s.sched.line := before.line.trans s.afterTicks_line
  have hended : s.afterTicks.scanline = s.afterTicks.beforeLineEnd.endOfLine := by
    rw [State.scanline_eq, s.afterTicks_par, s.afterTicks_dot, if_pos hdot]
  rw [State.advanceOne_eq, hended]
  refine (State.tickTimers_raises _).requested ch (State.endOfLine_requests ?_ ?_)
  · exact h.of_raises (s.afterTicks_raises.trans (State.beforeLineEnd_raises _))
  · rw [hpar, hposition, hline]

theorem State.advanceOne_hblank (h : s.Awaits 2 ch) (hdot : s.sched.dot + 1 = s.par.hblankStart)
    (hline : s.sched.line < s.par.vblankLine) : s.advanceOne.dma[ch].req = true := by
  rw [State.advanceOne_eq, State.scanline_eq]
  refine (State.tickTimers_raises _).requested ch ?_
  refine (Raises.ite _ (State.endOfLine_raises _) (.refl _)).requested ch (State.beforeLineEnd_requests ?_ ?_ ?_)
  · exact h.of_raises s.afterTicks_raises
  · rw [s.afterTicks_par, s.afterTicks_dot, hdot]
  · rw [s.afterTicks_par, s.afterTicks_line]
    exact hline

end

/-- Settles O51: the cycles inside the line move `dot` alone; the last one ends the line or sends HBlank. -/
theorem scanlineSignals : Obligations.ScanlineSignals := by
  rintro s t n hframe rfl
  obtain ⟨hdot, hline⟩ := s.inFrame_iff.1 hframe
  refine ⟨s.advanceBy_devNow n, fun hn => State.advanceBy_midLine (by omega), fun hn => ?_,
    fun hsum hn hvis hstart ch harmed htrig => ?_⟩
  · obtain ⟨m, rfl⟩ : ∃ m, n = m + 1 := ⟨n - 1, by omega⟩
    obtain ⟨mdot, mline⟩ := State.advanceBy_midLine (s := s) (n := m) (by omega)
    have mpar : (s.advanceBy m).par = s.par := (s.advanceBy_advanced m).par
    have hlast : (s.advanceBy m).sched.dot + 1 = (s.advanceBy m).par.lineCycles := by rw [mdot, mpar]; omega
    obtain ⟨edot, eline⟩ := State.advanceOne_lineEnd hlast
    have hone : s.advanceBy (m + 1) = (s.advanceBy m).advanceOne := s.advanceBy_add m 1
    rw [hone]
    rw [mline, mpar] at eline
    refine ⟨edot, eline, fun hv ch harmed htrig => ?_⟩
    have hwaits : s.Awaits 1 ch := ⟨harmed, htrig⟩
    refine State.advanceOne_vblank (hwaits.of_raises (s.advanceBy_raises m)) hlast ?_
    rw [mline, mpar]
    exact eline.symm.trans (hv.trans (congrArg Params.vblankLine rfl))
  · obtain ⟨m, rfl⟩ : ∃ m, n = m + 1 := ⟨n - 1, by omega⟩
    obtain ⟨mdot, mline⟩ := State.advanceBy_midLine (s := s) (n := m) (by omega)
    have mpar : (s.advanceBy m).par = s.par := (s.advanceBy_advanced m).par
    have hone : s.advanceBy (m + 1) = (s.advanceBy m).advanceOne := s.advanceBy_add m 1
    have hwaits : s.Awaits 2 ch := ⟨harmed, htrig⟩
    rw [hone]
    refine State.advanceOne_hblank (hwaits.of_raises (s.advanceBy_raises m)) ?_ ?_
    · rw [mdot, mpar]; omega
    · rw [mline, mpar]; exact hvis

end Sys2Proof.Machine
end

section
/-! The timers advanced (family 65): what a cycle does to a timer that counts cycles, and to a successor that counts its
overflows. -/

namespace Sys2Proof.Machine

/-! ## The scanline and the timers -/

theorem State.endOfLine_sheltered (s : State) : Sheltered s.nextLine s.endOfLine := by
  have started : Sheltered s.nextLine s.lineStarted := State.callback_sheltered _ _
  have blanked : Sheltered s.lineStarted s.blanked :=
    Sheltered.ite _ (Sheltered.foldl (State.latchRequest_sheltered 1) _ _) (.refl _)
  rw [State.endOfLine_eq]
  exact (started.trans blanked).trans (Sheltered.ite _ (State.callback_sheltered _ _) (.refl _))

/-- The scanline leaves the timers. -/
theorem State.scanline_timers (s : State) : s.scanline.timers = s.timers := by
  have hbefore : s.beforeLineEnd.timers = s.timers := s.beforeLineEnd_sheltered.timers
  rw [State.scanline_eq]
  split
  · exact s.beforeLineEnd.endOfLine_sheltered.timers.trans hbefore
  · exact hbefore

/-! ## Increments and their successors (R483 to R485) -/

/-- The timers after `t`, by index ascending. -/
def laterTimers (t : Fin 4) : List (Fin 4) := (List.finRange 4).filter (t < ·)

theorem laterTimers_of_next {t u : Fin 4} (h : u.val = t.val + 1) : laterTimers t = u :: laterTimers u := by
  decide +revert

theorem laterTimers_of_lt {a t : Fin 4} (h : a < t) :
    laterTimers a = (laterTimers a).filter (· < t) ++ t :: laterTimers t := by decide +revert

theorem lt_of_mem_laterTimers {t u : Fin 4} (h : u ∈ laterTimers t) : t < u := by
  simpa [laterTimers] using h

/-- A cycle of all timers (R465). -/
theorem State.tickTimers_eq (s : State) :
    s.tickTimers = (List.finRange 4).foldl (fun v a => v.tickOne (a :: laterTimers a)) s := by
  have hlists : [[0, 1, 2, 3], [1, 2, 3], [2, 3], [3]] = (List.finRange 4).map fun a => a :: laterTimers a := by decide
  rw [State.tickTimers, hlists, List.foldl_map]

section
variable {s : State} {t v : Fin 4}

theorem State.wrap_timers (s : State) (t : Fin 4) :
    (s.wrap t).timers = s.timers.set t { s.timers[t] with counter := s.timers[t].reload } := by
  refine (State.fifoPairing_sheltered _).timers.trans ?_
  split <;> rfl

/-- The bit of a timer's interrupt in the word a request sets. -/
theorem timerSource_bit (t : Fin 4) : ((1#16 <<< (3 + t.val)) &&& 0x3FFF).getLsbD (3 + t.val) = true := by
  decide +revert

theorem State.wrap_pending (h : s.timers[t].irqEn = true) : (s.wrap t).irq.pending.getLsbD (3 + t.val) = true := by
  refine (State.fifoPairing_raises _).pending _ ?_
  rw [if_pos h, State.request, State.setIrq_irq, BitVec.getLsbD_or, timerSource_bit, Bool.or_true]

theorem State.wrap_timers_of_ne (h : v ≠ t) : (s.wrap t).timers[v] = s.timers[v] := by
  rw [State.wrap_timers, getElem_set_row, if_neg (Ne.symm h)]

/-- The timer hands no count on to `t`, which is not enabled or not cascading. -/
def State.Stops (s : State) (t : Fin 4) : Prop := (s.timers[t].enable && s.timers[t].cascade) = false

theorem State.Stops.congr {s' : State} (h : s.Stops t) (ht : s'.timers[t] = s.timers[t]) : s'.Stops t := by
  rw [State.Stops, ht]
  exact h

theorem State.carry_stops (h : s.Stops t) (rest : List (Fin 4)) : s.carry (t :: rest) = s :=
  if_neg (ne_true_of_eq_false h)

/-- The increment of a chain of timers reaches no timer that does not count overflows, nor any after it. -/
theorem State.increment_append {l : List (Fin 4)} (hl : l ≠ []) (ht : t ∉ l) (h : s.Stops t) (rest : List (Fin 4)) :
    s.increment (l ++ t :: rest) = s.increment l := by
  induction l generalizing s with
  | nil => exact absurd rfl hl
  | cons a l ih =>
    obtain ⟨hta, htl⟩ := List.ne_and_not_mem_of_not_mem_cons ht
    by_cases hcount : s.timers[a].counter = 0xFFFF
    · have hstops : (s.wrap a).Stops t := h.congr (State.wrap_timers_of_ne hta)
      rw [List.cons_append, State.increment_wraps hcount, State.increment_wraps hcount]
      cases l with
      | nil => exact State.carry_stops hstops rest
      | cons b l =>
        have hrest := ih (List.cons_ne_nil b l) htl hstops
        rw [State.carry, ← hrest]
        rfl
    · rw [List.cons_append, State.increment_counts hcount, State.increment_counts hcount]

/-- An increment changes only the timers of its chain. -/
theorem State.increment_timers_of_not_mem {l : List (Fin 4)} (h : v ∉ l) : (s.increment l).timers[v] = s.timers[v] := by
  induction l generalizing s with
  | nil => rfl
  | cons a l ih =>
    obtain ⟨hva, hvl⟩ := List.ne_and_not_mem_of_not_mem_cons h
    by_cases hcount : s.timers[a].counter = 0xFFFF
    · rw [State.increment_wraps hcount, ← State.wrap_timers_of_ne (s := s) hva]
      cases l with
      | nil => rfl
      | cons b l =>
        rw [State.carry]
        split
        · exact ih hvl
        · rfl
    · rw [State.increment_counts hcount, State.setTimer_timers, getElem_set_row, if_neg (Ne.symm hva)]

theorem State.carry_timers_of_not_mem {l : List (Fin 4)} (h : v ∉ l) : (s.carry l).timers[v] = s.timers[v] := by
  cases l with
  | nil => rfl
  | cons a l =>
    rw [State.carry]
    split
    · exact State.increment_timers_of_not_mem h
    · rfl

/-- One increment of a timer: the next count, or the reload value. -/
def Timer.counted (x : Timer) : Timer := { x with counter := if x.counter = 0xFFFF then x.reload else x.counter + 1 }

/-- The first timer of a chain counts one, and requests its interrupt if it overflows (R483, R484). -/
theorem State.increment_head {l : List (Fin 4)} (h : t ∉ l) : (s.increment (t :: l)).timers[t] = s.timers[t].counted ∧
    (s.timers[t].counter = 0xFFFF → s.timers[t].irqEn = true →
      (s.increment (t :: l)).irq.pending.getLsbD (3 + t.val) = true) := by
  by_cases hcount : s.timers[t].counter = 0xFFFF
  · rw [State.increment_wraps hcount, State.carry_timers_of_not_mem h, State.wrap_timers, getElem_set_self_row,
      Timer.counted, if_pos hcount]
    exact ⟨rfl, fun _ hirq => (State.carry_raises _ l).pending _ (State.wrap_pending hirq)⟩
  · rw [State.increment_counts hcount, State.setTimer_timers, getElem_set_self_row, Timer.counted, if_neg hcount]
    exact ⟨rfl, fun hfull => absurd hfull hcount⟩

end

/-! ## A cycle of one timer (R483) -/

/-- A cycle of a timer that counts cycles: the divider, or at its end an increment. -/
def Timer.ticked (x : Timer) : Timer :=
  if prescaleDivisor x.prescale ≤ x.div + 1 then { x with div := 0 }.counted else { x with div := x.div + 1 }

/-- The next cycle overflows the timer. -/
def Timer.Full (x : Timer) : Prop := prescaleDivisor x.prescale ≤ x.div + 1 ∧ x.counter = 0xFFFF

section
variable {s : State} {t v : Fin 4} {l : List (Fin 4)}

theorem State.tickOne_idle (h : s.countsCycles t = false) : s.tickOne (t :: l) = s := if_neg (ne_true_of_eq_false h)

theorem State.tickOne_divides (h : s.countsCycles t = true)
    (hdiv : ¬ prescaleDivisor s.timers[t].prescale ≤ s.timers[t].div + 1) :
    s.tickOne (t :: l) = s.setTimer t { s.timers[t] with div := s.timers[t].div + 1 } :=
  (if_pos h).trans (if_neg hdiv)

theorem State.tickOne_increments (h : s.countsCycles t = true)
    (hdiv : prescaleDivisor s.timers[t].prescale ≤ s.timers[t].div + 1) :
    s.tickOne (t :: l) = (s.setTimer t { s.timers[t] with div := 0 }).increment (t :: l) :=
  (if_pos h).trans (if_pos hdiv)

theorem State.tickOne_timers_of_not_mem (h : v ∉ t :: l) : (s.tickOne (t :: l)).timers[v] = s.timers[v] := by
  have hset (x : Timer) : (s.setTimer t x).timers[v] = s.timers[v] := by
    rw [State.setTimer_timers, getElem_set_row, if_neg (Ne.symm (List.ne_of_not_mem_cons h))]
  cases hc : s.countsCycles t with
  | false => rw [State.tickOne_idle hc]
  | true =>
    by_cases hdiv : prescaleDivisor s.timers[t].prescale ≤ s.timers[t].div + 1
    · rw [State.tickOne_increments hc hdiv, State.increment_timers_of_not_mem h, hset]
    · rw [State.tickOne_divides hc hdiv, hset]

/-- The cycle of a timer reaches no timer that does not count overflows, nor any after it. -/
theorem State.tickOne_append {u : Fin 4} (hu : u ∉ t :: l) (h : s.Stops u) (rest : List (Fin 4)) :
    s.tickOne (t :: l ++ u :: rest) = s.tickOne (t :: l) := by
  cases hc : s.countsCycles t with
  | false => rw [List.cons_append, State.tickOne_idle hc, State.tickOne_idle hc]
  | true =>
    by_cases hdiv : prescaleDivisor s.timers[t].prescale ≤ s.timers[t].div + 1
    · have hstops : (s.setTimer t { s.timers[t] with div := 0 }).Stops u := h.congr (by
        rw [State.setTimer_timers, getElem_set_row, if_neg (Ne.symm (List.ne_of_not_mem_cons hu))])
      rw [List.cons_append, State.tickOne_increments hc hdiv, State.tickOne_increments hc hdiv, ← List.cons_append,
        State.increment_append (List.cons_ne_nil t l) hu hstops]
    · rw [List.cons_append, State.tickOne_divides hc hdiv, State.tickOne_divides hc hdiv]

/-- The timer's own cycle. -/
theorem State.tickOne_own (h : s.countsCycles t = true) (hl : t ∉ l) :
    (s.tickOne (t :: l)).timers[t] = s.timers[t].ticked := by
  by_cases hdiv : prescaleDivisor s.timers[t].prescale ≤ s.timers[t].div + 1
  · obtain ⟨hhead, -⟩ := State.increment_head (s := s.setTimer t { s.timers[t] with div := 0 }) hl
    rw [State.tickOne_increments h hdiv, hhead, State.setTimer_timers, getElem_set_self_row, Timer.ticked, if_pos hdiv]
  · rw [State.tickOne_divides h hdiv, State.setTimer_timers, getElem_set_self_row, Timer.ticked, if_neg hdiv]

/-- Unless it overflows, a timer's own cycle changes no other timer. -/
theorem State.tickOne_timers_of_not_full (hfull : ¬ s.timers[t].Full) (h : v ≠ t) :
    (s.tickOne (t :: l)).timers[v] = s.timers[v] := by
  have hset (x : Timer) : (s.setTimer t x).timers[v] = s.timers[v] := by
    rw [State.setTimer_timers, getElem_set_row, if_neg (Ne.symm h)]
  cases hc : s.countsCycles t with
  | false => rw [State.tickOne_idle hc]
  | true =>
    by_cases hdiv : prescaleDivisor s.timers[t].prescale ≤ s.timers[t].div + 1
    · have hcount : (s.setTimer t { s.timers[t] with div := 0 }).timers[t].counter ≠ 0xFFFF := by
        rw [State.setTimer_timers, getElem_set_self_row]
        exact fun hcounter => hfull ⟨hdiv, hcounter⟩
      rw [State.tickOne_increments hc hdiv, State.increment_counts hcount, State.setTimer_timers, getElem_set_row,
        if_neg (Ne.symm h), hset]
    · rw [State.tickOne_divides hc hdiv, hset]

/-- The cycle in which a timer overflows: the wrap, then the successors' count. -/
theorem State.tickOne_full (h : s.countsCycles t = true) (hfull : s.timers[t].Full) :
    s.tickOne (t :: l) = ((s.setTimer t { s.timers[t] with div := 0 }).wrap t).carry l := by
  obtain ⟨hdiv, hcount⟩ := hfull
  rw [State.tickOne_increments h hdiv, State.increment_wraps]
  rw [State.setTimer_timers, getElem_set_self_row]
  exact hcount

/-- A timer counts cycles unless it is disabled or cascades from a predecessor (R483, R489). -/
theorem State.countsCycles_iff (ht : 0 < t.val) :
    s.countsCycles t = true ↔ s.timers[t].enable = true ∧ s.timers[t].cascade = false := by
  rw [State.countsCycles, decide_eq_true ht, Bool.and_true, Bool.and_eq_true, Bool.not_eq_true']

/-- A timer that counts cycles takes no count from another. -/
theorem State.countsCycles_stops (h : s.countsCycles t = true) (ht : 0 < t.val) : s.Stops t := by
  obtain ⟨-, hcascade⟩ := (State.countsCycles_iff ht).1 h
  rw [State.Stops, hcascade, Bool.and_false]

theorem State.countsCycles_of_cascade (h : s.timers[t].cascade = true) (ht : 0 < t.val) : s.countsCycles t = false :=
  Bool.eq_false_iff.2 fun hc => ne_true_of_eq_false ((State.countsCycles_iff ht).1 hc).2 h

end

/-! ## The turns of a cycle (R465) -/

/-- Work that leaves timer `t`, and the timer after it if that one cascades, and only adds requests. -/
structure Passes (t : Fin 4) (s v : State) : Prop where
  own : v.timers[t] = s.timers[t]
  next : ∀ u : Fin 4, u.val = t.val + 1 → s.timers[u].cascade = true → v.timers[u] = s.timers[u]
  raises : Raises s v

section
variable {s v w : State} {t a : Fin 4}

theorem Passes.of_timers (h : v.timers = s.timers) (k : Raises s v) : Passes t s v :=
  ⟨by rw [h], fun _ _ _ => by rw [h], k⟩

theorem Passes.trans (h : Passes t s v) (k : Passes t v w) : Passes t s w where
  own := k.own.trans h.own
  next u hu hcascade := by
    have hkept := h.next u hu hcascade
    exact (k.next u hu ((congrArg Timer.cascade hkept).trans hcascade)).trans hkept
  raises := h.raises.trans k.raises

theorem State.countsCycles_congr (henable : v.timers[t].enable = s.timers[t].enable)
    (hcascade : v.timers[t].cascade = s.timers[t].cascade) : v.countsCycles t = s.countsCycles t := by
  rw [State.countsCycles, State.countsCycles, henable, hcascade]

theorem Passes.countsCycles (h : Passes t s v) : v.countsCycles t = s.countsCycles t :=
  State.countsCycles_congr (congrArg _ h.own) (congrArg _ h.own)

/-- The turn of another timer: an earlier one's count stops before `t`, a later one reaches back to none, and the timer
after `t` has no turn of its own if it cascades. -/
theorem State.tickOne_passes (hc : s.countsCycles t = true) (hat : a ≠ t) :
    Passes t s (s.tickOne (a :: laterTimers a)) := by
  rcases lt_or_gt_of_ne hat with hlt | hgt
  · have hmem {v : Fin 4} (hv : t ≤ v) : v ∉ a :: (laterTimers a).filter (· < t) := by
      simp only [List.mem_cons, List.mem_filter, decide_eq_true_eq, not_or, not_and]
      exact ⟨(hlt.trans_le hv).ne', fun _ => not_lt.2 hv⟩
    have hstops := State.countsCycles_stops hc (Nat.zero_lt_of_lt hlt)
    have hturn : s.tickOne (a :: laterTimers a) = s.tickOne (a :: (laterTimers a).filter (· < t)) := by
      conv_lhs => rw [laterTimers_of_lt hlt]
      exact State.tickOne_append (hmem (le_refl t)) hstops _
    refine ⟨?_, fun u hu _ => ?_, s.tickOne_raises _⟩
    · rw [hturn, State.tickOne_timers_of_not_mem (hmem (le_refl t))]
    · rw [hturn, State.tickOne_timers_of_not_mem (hmem (Fin.le_def.2 (by omega)))]
  · refine ⟨?_, fun u hu hcascade => ?_, s.tickOne_raises _⟩
    · refine State.tickOne_timers_of_not_mem fun h => ?_
      exact (List.mem_cons.1 h).elim (fun e => hat e.symm) fun h => (hgt.trans (lt_of_mem_laterTimers h)).false
    · by_cases hau : a = u
      · subst hau
        rw [State.tickOne_idle (State.countsCycles_of_cascade hcascade (by omega))]
      · refine State.tickOne_timers_of_not_mem fun h => ?_
        refine (List.mem_cons.1 h).elim (fun e => hau e.symm) fun h => ?_
        have := Fin.lt_def.1 (lt_of_mem_laterTimers h)
        have := Fin.lt_def.1 hgt
        omega

/-- The turns of other timers. -/
theorem State.foldl_tickOne_passes (hc : s.countsCycles t = true) {l : List (Fin 4)} (hl : t ∉ l) :
    Passes t s (l.foldl (fun v a => v.tickOne (a :: laterTimers a)) s) := by
  induction l generalizing s with
  | nil => exact .of_timers rfl (.refl s)
  | cons a l ih =>
    obtain ⟨hta, htl⟩ := List.ne_and_not_mem_of_not_mem_cons hl
    have first := State.tickOne_passes hc (Ne.symm hta)
    exact first.trans (ih (first.countsCycles.trans hc) htl)

/-- A tick leaves what software programmed. -/
theorem Timer.ticked_kept (x : Timer) : x.ticked = { x with counter := x.ticked.counter, div := x.ticked.div } := by
  unfold Timer.ticked Timer.counted
  split <;> rfl

theorem not_mem_laterTimers_self (t : Fin 4) : t ∉ laterTimers t := fun h => lt_irrefl t (lt_of_mem_laterTimers h)

theorem State.tickOne_countsCycles (hc : s.countsCycles t = true) :
    (s.tickOne (t :: laterTimers t)).countsCycles t = true := by
  have hown := (State.tickOne_own hc (not_mem_laterTimers_self t)).trans s.timers[t].ticked_kept
  exact (State.countsCycles_congr (by rw [hown]) (by rw [hown])).trans hc

/-- A cycle of the devices, for timer `t`: its own turn, and work before and after that passes it by. -/
theorem State.advanceOne_turns (hc : s.countsCycles t = true) :
    ∃ v, v.countsCycles t = true ∧ Passes t s v ∧ Passes t (v.tickOne (t :: laterTimers t)) s.advanceOne := by
  obtain ⟨before, after, hsplit⟩ := List.append_of_mem (List.mem_finRange t)
  have hnodup := List.nodup_finRange 4
  rw [hsplit] at hnodup
  have hbefore : t ∉ before := fun h => (List.disjoint_of_nodup_append hnodup) h List.mem_cons_self
  have hafter : t ∉ after := (List.nodup_cons.1 hnodup.of_append_right).1
  have hstart : Passes t s s.afterTicks.scanline :=
    .of_timers (s.afterTicks.scanline_timers.trans s.afterTicks_sheltered.timers)
      (s.afterTicks_raises.trans (State.scanline_raises _))
  have hfirst := hstart.trans (State.foldl_tickOne_passes (hstart.countsCycles.trans hc) hbefore)
  refine ⟨_, hfirst.countsCycles.trans hc, hfirst, ?_⟩
  rw [State.advanceOne_eq, State.tickTimers_eq, hsplit, List.foldl_append, List.foldl_cons]
  exact State.foldl_tickOne_passes (State.tickOne_countsCycles (hfirst.countsCycles.trans hc)) hafter

theorem State.advanceOne_own (hc : s.countsCycles t = true) : s.advanceOne.timers[t] = s.timers[t].ticked := by
  obtain ⟨v, hv, hbefore, hafter⟩ := State.advanceOne_turns hc
  rw [hafter.own, State.tickOne_own hv (not_mem_laterTimers_self t), hbefore.own]

theorem State.advanceOne_countsCycles (hc : s.countsCycles t = true) : s.advanceOne.countsCycles t = true := by
  have hown := (State.advanceOne_own hc).trans s.timers[t].ticked_kept
  exact (State.countsCycles_congr (by rw [hown]) (by rw [hown])).trans hc

/-- Unless `t` overflows, a cycle leaves the timer that cascades from it. -/
theorem State.advanceOne_next {u : Fin 4} (hc : s.countsCycles t = true) (hfull : ¬ s.timers[t].Full)
    (hu : u.val = t.val + 1) (hcascade : s.timers[u].cascade = true) : s.advanceOne.timers[u] = s.timers[u] := by
  obtain ⟨v, -, hbefore, hafter⟩ := State.advanceOne_turns hc
  have hkept := hbefore.next u hu hcascade
  have hut : u ≠ t := by
    rintro rfl
    omega
  rw [← hbefore.own] at hfull
  have hturn := (State.tickOne_timers_of_not_full (l := laterTimers t) hfull hut).trans hkept
  exact (hafter.next u hu ((congrArg Timer.cascade hturn).trans hcascade)).trans hturn

/-- The cycle in which `t` overflows: its interrupt, and the count of the enabled timer that cascades from it. -/
theorem State.advanceOne_overflow (hc : s.countsCycles t = true) (hfull : s.timers[t].Full) :
    (s.timers[t].irqEn = true → s.advanceOne.irq.pending.getLsbD (3 + t.val) = true) ∧
    ∀ u : Fin 4, u.val = t.val + 1 → s.timers[u].cascade = true → s.timers[u].enable = true →
      s.advanceOne.timers[u] = s.timers[u].counted ∧
      (s.timers[u].counter = 0xFFFF → s.timers[u].irqEn = true →
        s.advanceOne.irq.pending.getLsbD (3 + u.val) = true) := by
  obtain ⟨v, hv, hbefore, hafter⟩ := State.advanceOne_turns hc
  rw [← hbefore.own] at hfull
  rw [State.tickOne_full hv hfull] at hafter
  generalize hdivided : v.setTimer t { v.timers[t] with div := 0 } = d at hafter
  have hdown : d.timers[t].irqEn = s.timers[t].irqEn := by
    rw [← hdivided, State.setTimer_timers, getElem_set_self_row, hbefore.own]
  refine ⟨fun hirq => ?_, fun u hu hcascade henable => ?_⟩
  · have hpending := State.wrap_pending (hdown.trans hirq)
    exact hafter.raises.pending _ ((State.carry_raises _ _).pending _ hpending)
  · have hut : u ≠ t := by
      rintro rfl
      omega
    have hkept : (d.wrap t).timers[u] = s.timers[u] := by
      rw [State.wrap_timers_of_ne hut, ← hdivided, State.setTimer_timers, getElem_set_row, if_neg (Ne.symm hut)]
      exact hbefore.next u hu hcascade
    have hcarry : (d.wrap t).carry (laterTimers t) = (d.wrap t).increment (u :: laterTimers u) := by
      rw [laterTimers_of_next hu]
      refine if_pos ?_
      rw [hkept, henable, hcascade]
      rfl
    obtain ⟨hcount, hpending⟩ := State.increment_head (s := d.wrap t) (not_mem_laterTimers_self u)
    rw [hkept] at hcount hpending
    rw [hcarry] at hafter
    refine ⟨(hafter.next u hu ?_).trans hcount, fun hlast hirq => hafter.raises.pending _ (hpending hlast hirq)⟩
    rw [hcount]
    exact hcascade

end

/-! ## Cycles counted (R483, R490) -/

/-- The cycles a timer has counted since its counter was 0. -/
def Timer.count (x : Timer) : Nat := x.counter.toNat * prescaleDivisor x.prescale + x.div

/-- `y` is `x` with `n` more cycles counted and no overflow. -/
structure Timer.CountedBy (n : Nat) (x y : Timer) : Prop where
  count : y.count = x.count + n
  div : y.div < prescaleDivisor x.prescale
  kept : y = { x with counter := y.counter, div := y.div }

section
variable {x y z : Timer} {m n : Nat}

theorem Timer.CountedBy.prescale (h : Timer.CountedBy n x y) : y.prescale = x.prescale := by rw [h.kept]

theorem Timer.CountedBy.below (h : Timer.CountedBy n x y) : y.div < prescaleDivisor y.prescale := by
  rw [h.prescale]
  exact h.div

theorem Timer.CountedBy.trans (h : Timer.CountedBy m x y) (k : Timer.CountedBy n y z) :
    Timer.CountedBy (m + n) x z where
  count := by rw [k.count, h.count, Nat.add_assoc]
  div := h.prescale ▸ k.div
  kept := by rw [k.kept, h.kept]

/-- A cycle before the one that overflows. -/
theorem Timer.ticked_countedBy (hdiv : x.div < prescaleDivisor x.prescale)
    (h : x.count + 1 < 0x10000 * prescaleDivisor x.prescale) : ¬ x.Full ∧ Timer.CountedBy 1 x x.ticked := by
  have hpos : 0 < prescaleDivisor x.prescale := Nat.zero_lt_of_lt hdiv
  unfold Timer.count at h
  by_cases hend : prescaleDivisor x.prescale ≤ x.div + 1
  · have hlast : x.div + 1 = prescaleDivisor x.prescale := Nat.le_antisymm hdiv hend
    have hcount : x.counter ≠ 0xFFFF := by
      intro hc
      have hlargest : x.counter.toNat = 0xFFFF := congrArg BitVec.toNat hc
      rw [hlargest] at h
      omega
    have hnext : (x.counter + 1).toNat = x.counter.toNat + 1 := by bv_omega
    refine ⟨fun hfull => hcount hfull.2, ?_, ?_, x.ticked_kept⟩
    · simp only [Timer.count, Timer.ticked, if_pos hend, Timer.counted, if_neg hcount, hnext]
      rw [Nat.add_mul, Nat.one_mul]
      omega
    · simpa only [Timer.ticked, if_pos hend, Timer.counted] using hpos
  · refine ⟨fun hfull => hend hfull.1, ?_, ?_, x.ticked_kept⟩
    · simp only [Timer.count, Timer.ticked, if_neg hend]
      omega
    · simpa only [Timer.ticked, if_neg hend] using Nat.lt_of_not_le hend

/-- The cycle that overflows. -/
theorem Timer.full_of_count (hdiv : x.div < prescaleDivisor x.prescale)
    (h : x.count + 1 = 0x10000 * prescaleDivisor x.prescale) : x.Full := by
  unfold Timer.count at h
  have hcounter : x.counter.toNat = 0xFFFF := by
    have hlt : x.counter.toNat < 0x10000 := x.counter.isLt
    by_contra hne
    have hmul : (x.counter.toNat + 1) * prescaleDivisor x.prescale ≤ 0xFFFF * prescaleDivisor x.prescale :=
      Nat.mul_le_mul_right _ (by omega)
    rw [Nat.add_mul] at hmul
    omega
  rw [hcounter] at h
  exact ⟨by omega, BitVec.eq_of_toNat_eq hcounter⟩

theorem Timer.ticked_of_full (h : x.Full) : x.ticked = { x with counter := x.reload, div := 0 } := by
  obtain ⟨hdiv, hcount⟩ := h
  simp only [Timer.ticked, if_pos hdiv, Timer.counted, if_pos hcount]

end

section
variable {s : State} {t : Fin 4} {n : Nat}

/-- Cycles before the overflow of a timer that counts cycles. -/
theorem State.advanceBy_counts (hc : s.countsCycles t = true)
    (hdiv : s.timers[t].div < prescaleDivisor s.timers[t].prescale)
    (h : s.timers[t].count + n < 0x10000 * prescaleDivisor s.timers[t].prescale) :
    (s.advanceBy n).countsCycles t = true ∧ Timer.CountedBy n s.timers[t] (s.advanceBy n).timers[t] ∧
      ∀ u : Fin 4, u.val = t.val + 1 → s.timers[u].cascade = true → (s.advanceBy n).timers[u] = s.timers[u] := by
  induction n generalizing s with
  | zero => exact ⟨hc, ⟨rfl, hdiv, rfl⟩, fun _ _ _ => rfl⟩
  | succ n ih =>
    obtain ⟨hfull, hfirst⟩ := Timer.ticked_countedBy hdiv (by omega)
    rw [← State.advanceOne_own hc] at hfirst
    have hcount := hfirst.count
    obtain ⟨hcounts, hrest, hnext⟩ := ih (State.advanceOne_countsCycles hc) hfirst.below
      (by rw [hfirst.prescale, hcount]; omega)
    rw [State.advanceBy_succ]
    have hboth := hfirst.trans hrest
    rw [Nat.add_comm] at hboth
    refine ⟨hcounts, hboth, fun u hu hcascade => ?_⟩
    have hkept := State.advanceOne_next hc hfull hu hcascade
    exact (hnext u hu ((congrArg Timer.cascade hkept).trans hcascade)).trans hkept

end

/-- Settles O50: the cycles before the overflow add to the count; the last one overflows. -/
theorem timerCounts : Obligations.TimerCounts := by
  rintro s t n p x y hc rfl rfl rfl hdiv
  refine ⟨fun h => ?_, fun h => ?_⟩
  · obtain ⟨-, hcounted, hnext⟩ := State.advanceBy_counts hc hdiv h
    have hcount := hcounted.count
    rw [Timer.count, hcounted.prescale] at hcount
    exact ⟨hcount, hcounted.div, hcounted.kept, hnext⟩
  · have hrange : s.timers[t].count < 0x10000 * prescaleDivisor s.timers[t].prescale := by
      have hmul : (s.timers[t].counter.toNat + 1) * prescaleDivisor s.timers[t].prescale ≤ _ :=
        Nat.mul_le_mul_right _ s.timers[t].counter.isLt
      rw [Nat.add_mul, Nat.one_mul] at hmul
      exact Nat.lt_of_lt_of_le (Nat.add_lt_add_left hdiv _) hmul
    have h : s.timers[t].count + n = 0x10000 * prescaleDivisor s.timers[t].prescale := h
    obtain ⟨m, rfl⟩ : ∃ m, n = m + 1 := ⟨n - 1, by omega⟩
    obtain ⟨hcounts, hcounted, hnext⟩ := State.advanceBy_counts (n := m) hc hdiv (by omega)
    have hone : s.advanceBy (m + 1) = (s.advanceBy m).advanceOne := s.advanceBy_add m 1
    have hcount := hcounted.count
    have hfull : (s.advanceBy m).timers[t].Full :=
      Timer.full_of_count hcounted.below (by rw [hcounted.prescale, hcount]; omega)
    obtain ⟨hirq, hover⟩ := State.advanceOne_overflow hcounts hfull
    rw [hone]
    refine ⟨?_, fun h => hirq (by rw [hcounted.kept, h]), fun u hu hcascade henable => ?_⟩
    · rw [State.advanceOne_own hcounts, Timer.ticked_of_full hfull, hcounted.kept]
    · have hkept := hnext u hu hcascade
      have hsucc := hover u hu
      rw [hkept] at hsucc
      exact hsucc hcascade henable

end Sys2Proof.Machine
end

section
/-! A transfer's units (family 65): where they lie, what each carries, and what the whole transfer leaves. -/

namespace Sys2Proof.Machine

/-! ## The addresses of the units (R507, R509) -/

section
variable (start : Word) (mode : BitVec 2) (w : Width) (k : Nat)

theorem unitAddress_zero : unitAddress start mode w 0 = start := by
  unfold unitAddress
  rw [Nat.zero_mul]
  split
  · rfl
  · split
    · exact BitVec.sub_zero start
    · exact BitVec.add_zero start

theorem unitAddress_step : unitAddress (start + dmaStep mode w) mode w k = unitAddress start mode w (k + 1) := by
  have hbytes : BitVec.ofNat 32 ((k + 1) * w.bytes) = BitVec.ofNat 32 (k * w.bytes) + BitVec.ofNat 32 w.bytes := by
    rw [Nat.succ_mul, BitVec.ofNat_add]
  unfold unitAddress dmaStep
  by_cases h2 : mode = 2
  · subst h2
    exact BitVec.add_zero start
  · by_cases h1 : mode = 1
    · simp only [if_neg h2, if_pos h1, hbytes]
      ring
    · simp only [if_neg h2, if_neg h1, hbytes]
      ring

theorem unitAddress_succ : unitAddress start mode w (k + 1) = unitAddress start mode w k + dmaStep mode w := by
  induction k generalizing start with
  | zero => rw [← unitAddress_step, unitAddress_zero, unitAddress_zero]
  | succ k ih => rw [← unitAddress_step, ih, unitAddress_step]

theorem unitAddress_one : unitAddress start mode w 1 = start + dmaStep mode w := by
  rw [unitAddress_succ, unitAddress_zero]

/-- The units after the first are those from the second's address. -/
theorem unitAddress_rest : unitAddress (unitAddress start mode w 1) mode w k = unitAddress start mode w (k + 1) := by
  rw [unitAddress_one, unitAddress_step]

variable {start mode w k}

/-- A step keeps an address aligned to the unit. -/
theorem add_dmaStep_aligned (h : start.toNat % w.bytes = 0) : (start + dmaStep mode w).toNat % w.bytes = 0 := by
  have hstep : (dmaStep mode w).toNat % w.bytes = 0 := by cases w <;> decide +revert
  have hdvd : w.bytes ∣ 2 ^ 32 := by cases w <;> decide
  rw [BitVec.toNat_add, Nat.mod_mod_of_dvd _ hdvd, Nat.add_mod, h, hstep, Nat.add_zero, Nat.zero_mod]

end

/-- `n` units from an aligned address, each starting in `[lo, hi)`. -/
structure Units (lo hi : Nat) (start : Word) (mode : BitVec 2) (w : Width) (n : Nat) : Prop where
  aligned : start.toNat % w.bytes = 0
  within : ∀ k, k < n → lo ≤ (unitAddress start mode w k).toNat ∧ (unitAddress start mode w k).toNat < hi

section
variable {lo hi n : Nat} {start : Word} {mode : BitVec 2} {w : Width}

theorem Units.head (h : Units lo hi start mode w (n + 1)) : lo ≤ start.toNat ∧ start.toNat < hi := by
  have hfirst := h.within 0 (Nat.succ_pos n)
  rwa [unitAddress_zero] at hfirst

theorem Units.unit_aligned (h : Units lo hi start mode w n) (k : Nat) :
    (unitAddress start mode w k).toNat % w.bytes = 0 := by
  induction k with
  | zero =>
    rw [unitAddress_zero]
    exact h.aligned
  | succ k ih =>
    rw [unitAddress_succ]
    exact add_dmaStep_aligned ih

theorem Units.tail (h : Units lo hi start mode w (n + 1)) : Units lo hi (unitAddress start mode w 1) mode w n :=
  ⟨h.unit_aligned 1, fun k hk => by
    rw [unitAddress_rest]
    exact h.within (k + 1) (Nat.succ_lt_succ hk)⟩

/-- Units that go up or down do not overlap the first. -/
theorem Units.apart (h : Units lo hi start mode w n) (hlo : 4 ≤ lo) (hhi : hi + 4 ≤ 2 ^ 32) (hmode : mode ≠ 2) {k : Nat}
    (hpos : 0 < k) (hk : k < n) : start.toNat + w.bytes ≤ (unitAddress start mode w k).toNat ∨
      (unitAddress start mode w k).toNat + w.bytes ≤ start.toNat := by
  have hsmall : w.bytes ≤ 4 := by cases w <;> decide
  have hmul : w.bytes ≤ k * w.bytes := Nat.le_mul_of_pos_left _ hpos
  by_cases hdown : mode = 1
  · have hstep : dmaStep mode w = -BitVec.ofNat 32 w.bytes := (if_pos hdown).trans (BitVec.zero_sub _)
    have below (j : Nat) (hj : j < n) : (unitAddress start mode w j).toNat + j * w.bytes = start.toNat := by
      induction j with
      | zero => rw [unitAddress_zero, Nat.zero_mul, Nat.add_zero]
      | succ j ih =>
        have hprev := ih (Nat.lt_of_succ_lt hj)
        obtain ⟨hge, -⟩ := h.within j (Nat.lt_of_succ_lt hj)
        have hlt := (unitAddress start mode w j).isLt
        rw [← hprev, unitAddress_succ, hstep, Nat.succ_mul]
        simp only [BitVec.toNat_add, BitVec.toNat_neg, BitVec.toNat_ofNat]
        omega
    exact .inr (by rw [← below k hk]; omega)
  · have hstep : dmaStep mode w = BitVec.ofNat 32 w.bytes := (if_neg hdown).trans (if_neg hmode)
    have above (j : Nat) (hj : j < n) : (unitAddress start mode w j).toNat = start.toNat + j * w.bytes := by
      induction j with
      | zero => rw [unitAddress_zero, Nat.zero_mul, Nat.add_zero]
      | succ j ih =>
        have hprev := ih (Nat.lt_of_succ_lt hj)
        obtain ⟨-, hlt⟩ := h.within j (Nat.lt_of_succ_lt hj)
        rw [unitAddress_succ, hstep, Nat.succ_mul]
        simp only [BitVec.toNat_add, BitVec.toNat_ofNat]
        omega
    exact .inl (by rw [above k hk]; omega)

end

/-! ## Work memory: cells and costs (R84, R96) -/

/-- In its first period a row of the default table that fills its period keeps a byte at its own address. -/
theorem Region.offset_of_firstPeriod {r : Region} {a : Word} (hper : r.period = r.backing)
    (h : a.toNat - r.first < r.period) : r.offset a = a.toNat - r.first := by
  have hmod : (a.toNat - r.first) % r.period = a.toNat - r.first := Nat.mod_eq_of_lt h
  rw [Region.offset, hmod]
  exact if_neg (Nat.not_le.2 (hper ▸ h))

section
variable {s : State} (hd : s.par.regions = defaultRegions) {a : Word} {w : Width} {i : Nat}
include hd

theorem State.lookup_ewram (h : 0x02000000 ≤ a.toNat ∧ a.toNat < 0x02040000) :
    lookup s.par.regions a = some ewramRow := by
  have hlast : ewramRow.last = 0x02FFFFFF := rfl
  rw [hd]
  exact lookup_of_covers (by decide) h.1 (by omega)

theorem State.lookup_iwram (h : 0x03000000 ≤ a.toNat ∧ a.toNat < 0x03008000) :
    lookup s.par.regions a = some iwramRow := by
  have hlast : iwramRow.last = 0x03FFFFFF := rfl
  rw [hd]
  exact lookup_of_covers (by decide) h.1 (by omega)

theorem State.cell_ewram (h : 0x02000000 ≤ a.toNat ∧ a.toNat < 0x02040000) (ha : a.toNat % w.bytes = 0)
    (hi : i < w.bytes) : s.cell (a + BitVec.ofNat 32 i) = some (a.toNat + i) := by
  have hfirst : ewramRow.first = 0x02000000 ∧ ewramRow.last = 0x02FFFFFF ∧ ewramRow.period = 0x40000 ∧
    ewramRow.store = 0x02000000 := ⟨rfl, rfl, rfl, rfl⟩
  have hoff := Region.offset_of_firstPeriod (r := ewramRow) (a := a) rfl (by omega)
  rw [State.cell_add (r := ewramRow) (by decide) (by omega) (by omega) ha hd hi, hoff]
  exact congrArg some (by omega)

theorem State.cell_iwram (h : 0x03000000 ≤ a.toNat ∧ a.toNat < 0x03008000) (ha : a.toNat % w.bytes = 0)
    (hi : i < w.bytes) : s.cell (a + BitVec.ofNat 32 i) = some (a.toNat + i) := by
  have hfirst : iwramRow.first = 0x03000000 ∧ iwramRow.last = 0x03FFFFFF ∧ iwramRow.period = 0x8000 ∧
    iwramRow.store = 0x03000000 := ⟨rfl, rfl, rfl, rfl⟩
  have hoff := Region.offset_of_firstPeriod (r := iwramRow) (a := a) rfl (by omega)
  rw [State.cell_add (r := iwramRow) (by decide) (by omega) (by omega) ha hd hi, hoff]
  exact congrArg some (by omega)

/-- External work memory costs the same at both kinds of access (R96). -/
theorem State.charge_ewram_cost (h : 0x02000000 ≤ a.toNat ∧ a.toNat < 0x02040000) (w : Width) (k : AccessKind) :
    (s.charge a w k).report.cost = s.report.cost + if w = .word then 6 else 3 :=
  ((accessCost s a w k hd).2 ewramRow (decide (k = .s ∧ s.lastRegion = some ewramRow.name)) (State.lookup_ewram hd h)
    decide_eq_true_iff).2

theorem State.charge_iwram_cost (h : 0x03000000 ≤ a.toNat ∧ a.toNat < 0x03008000) (w : Width) (k : AccessKind) :
    (s.charge a w k).report.cost = s.report.cost + 1 :=
  ((accessCost s a w k hd).2 iwramRow (decide (k = .s ∧ s.lastRegion = some iwramRow.name)) (State.lookup_iwram hd h)
    decide_eq_true_iff).2

theorem State.charge_io_cost {off : Nat} (ha : a.toNat = 0x04000000 + off) (hoff : off < 0x400) (w : Width)
    (k : AccessKind) : (s.charge a w k).report.cost = s.report.cost + 1 :=
  ((accessCost s a w k hd).2 ioRow (decide (k = .s ∧ s.lastRegion = some ioRow.name)) (State.lookup_io hd ha hoff)
    decide_eq_true_iff).2

end

/-! ## The audio FIFO registers (R470, R514) -/

/-- The address of an audio FIFO register. -/
def FifoAddress (a : Word) : Prop := a = 0x040000A0 ∨ a = 0x040000A4

section
variable {s : State} (hd : s.par.regions = defaultRegions) {a : Word} (ha : FifoAddress a)
include ha

theorem FifoAddress.offset : ∃ off, a.toNat = 0x04000000 + off ∧ a.toNat - 0x04000000 = off ∧ off < 0x400 ∧
    off % Width.word.bytes = 0 ∧ isCollaborator off = true := by
  rcases ha with rfl | rfl
  · exact ⟨0xA0, by decide⟩
  · exact ⟨0xA4, by decide⟩

include hd

theorem State.charge_fifo_cost (k : AccessKind) : (s.charge a .word k).report.cost = s.report.cost + 1 := by
  obtain ⟨off, hto, -, hoff, -⟩ := ha.offset
  exact State.charge_io_cost hd hto hoff .word k

/-- With no collaborator attached a FIFO word is noted for it, and nothing else happens (log 7). -/
theorem State.busWrite_fifo (hans : s.answers = []) (v : Word) (k : AccessKind) : s.busWrite .dma a .word v k =
    (s.charge a .word k).setTouched.note (.regWrite (a.toNat - 0x04000000) .word v) := by
  obtain ⟨off, hto, hsub, hoff, hal, hcollab⟩ := ha.offset
  have hanswers : (s.charge a .word k).setTouched.answers = [] := (s.charge_answers a .word k).trans hans
  rw [State.busWrite_io hd hto hoff hal, ioWrite, if_pos hcollab, State.callback_of_no_answers _ _ hanswers, hsub]
  rfl

end

/-! ## What a unit carries (R507, R508) -/

/-- The read and the write of one unit, before the latches step. -/
def State.dmaCarried (s : State) (ch : Fin 4) (w : Width) (k : AccessKind) : State :=
  (s.busRead s.dma[ch].src w k).2.busWrite .dma s.dma[ch].dst w (s.busRead s.dma[ch].src w k).1 k

/-- The cost of one unit read from external work memory and written where an access costs one cycle (R96, R513). -/
def unitCost (w : Width) : Nat := if w = .word then 6 + 1 else 3 + 1

/-- The devices are as they were but for what they note to a collaborator; the work cost `n`. -/
structure Relayed (n : Nat) (s t : State) : Prop where
  par : t.par = s.par
  irq : t.irq = s.irq
  timers : t.timers = s.timers
  dma : t.dma = s.dma
  answers : t.answers = s.answers
  cost : t.report.cost = s.report.cost + n

section
variable {s : State} (hd : s.par.regions = defaultRegions) {a d : Word} {ch : Fin 4} {w : Width}
include hd

theorem State.quiet_ewram (h : 0x02000000 ≤ a.toNat ∧ a.toNat < 0x02040000) : s.quiet a = true := by
  rw [State.quiet, State.lookup_ewram hd h]
  rfl

theorem State.quiet_iwram (h : 0x03000000 ≤ a.toNat ∧ a.toNat < 0x03008000) : s.quiet a = true := by
  rw [State.quiet, State.lookup_iwram hd h]
  rfl

theorem State.plain_ewram (h : 0x02000000 ≤ a.toNat ∧ a.toNat < 0x02040000) : s.plain a = true := by
  rw [State.plain, State.lookup_ewram hd h]
  rfl

variable (k : AccessKind) (hsrc : 0x02000000 ≤ s.dma[ch].src.toNat ∧ s.dma[ch].src.toNat < 0x02040000)
include hsrc

theorem State.dmaCarried_eq : s.dmaCarried ch w k =
    (s.charge s.dma[ch].src w k).busWrite .dma s.dma[ch].dst w (s.busRead s.dma[ch].src w k).1 k := by
  rw [State.dmaCarried, s.busRead_quiet _ w k (State.quiet_ewram hd hsrc)]

/-- A unit written to internal work memory reaches no device. -/
theorem State.dmaCarried_iwram (hdst : 0x03000000 ≤ s.dma[ch].dst.toNat ∧ s.dma[ch].dst.toNat < 0x03008000) :
    Relayed (unitCost w) s (s.dmaCarried ch w k) ∧ (s.dmaCarried ch w k).outbox = s.outbox := by
  have hcharged : (s.charge s.dma[ch].src w k).par.regions = defaultRegions := by rw [State.charge_par, hd]
  have hread := s.charge_devices s.dma[ch].src w k
  have hwrite := (s.charge s.dma[ch].src w k).busWrite_quiet_devices s.dma[ch].dst w
    (s.busRead s.dma[ch].src w k).1 k .dma (State.quiet_iwram hcharged hdst)
  obtain ⟨hpar, -, hirq, htimers, hdma, -, -, -, hanswers, houtbox⟩ := hread.trans hwrite
  rw [State.dmaCarried_eq hd k hsrc]
  refine ⟨⟨hpar, hirq, htimers, hdma, hanswers, ?_⟩, houtbox⟩
  rw [State.busWrite_cost, State.charge_iwram_cost hcharged hdst, State.charge_ewram_cost hd hsrc, unitCost]
  split <;> rfl

/-- Its bytes arrive, and no other byte changes (R77, R508). -/
theorem State.dmaCarried_bytes (hm : Memory.wf s.mem)
    (hdst : 0x03000000 ≤ s.dma[ch].dst.toNat ∧ s.dma[ch].dst.toNat < 0x03008000)
    (hsal : s.dma[ch].src.toNat % w.bytes = 0) (hdal : s.dma[ch].dst.toNat % w.bytes = 0) :
    (∀ i, i < w.bytes → (s.dmaCarried ch w k).peek (s.dma[ch].dst + BitVec.ofNat 32 i) =
      s.peek (s.dma[ch].src + BitVec.ofNat 32 i)) ∧
    ∀ b, (∀ i, i < w.bytes → s.cell b ≠ s.cell (s.dma[ch].dst + BitVec.ofNat 32 i)) →
      (s.dmaCarried ch w k).peek b = s.peek b := by
  have hpar : (s.charge s.dma[ch].src w k).par = s.par := State.charge_par ..
  have hmem : (s.charge s.dma[ch].src w k).mem = s.mem := State.charge_mem ..
  obtain ⟨-, hput, hkept⟩ := storageBytes.2 _ _ .dma s.dma[ch].dst w (s.busRead s.dma[ch].src w k).1 k k
    (by rw [hpar, hd]) (by rw [hmem]; exact hm) (.inl ⟨by omega, by omega⟩) hdal rfl
  have hbyte : s.peek s.dma[ch].src ≠ none := by
    have hcell := State.cell_ewram (w := .byte) (i := 0) hd hsrc (Nat.mod_one _) Nat.one_pos
    have hself : s.dma[ch].src + BitVec.ofNat 32 0 = s.dma[ch].src := BitVec.add_zero _
    rw [hself] at hcell
    rw [State.peek, hcell]
    exact Option.some_ne_none _
  rw [State.dmaCarried_eq hd k hsrc]
  refine ⟨fun i hi => (hput i hi).trans ?_, fun b hb => (hkept b fun i hi => ?_).trans (State.peek_congr hpar hmem b)⟩
  · exact (State.peek_eq_lane k hd (State.plain_ewram hd hsrc) hsal hbyte hi).symm
  · rw [State.cell_congr hpar, State.cell_congr hpar]
    exact hb i hi

/-- A word for an audio FIFO goes to its collaborator (R470, R514). -/
theorem State.dmaCarried_fifo (hdst : FifoAddress s.dma[ch].dst) (hans : s.answers = []) :
    Relayed (6 + 1) s (s.dmaCarried ch .word k) ∧ (s.dmaCarried ch .word k).mem = s.mem ∧
    (s.dmaCarried ch .word k).outbox = s.outbox ++
      [.regWrite (s.dma[ch].dst.toNat - 0x04000000) .word (s.busValue (s.dma[ch].src, .word))] := by
  have hcharged : (s.charge s.dma[ch].src .word k).par.regions = defaultRegions := by rw [State.charge_par, hd]
  have hvalue : (s.busRead s.dma[ch].src .word k).1 = s.busValue (s.dma[ch].src, .word) :=
    State.busRead_value_congr rfl rfl .word k .n (State.plain_ewram hd hsrc)
  have hread := s.charge_devices s.dma[ch].src .word k
  have hwrite := (s.charge s.dma[ch].src .word k).charge_devices s.dma[ch].dst .word k
  obtain ⟨hpar, -, hirq, htimers, hdma, -, -, -, hanswers, houtbox⟩ := hread.trans hwrite
  rw [State.dmaCarried_eq hd k hsrc, hvalue,
    State.busWrite_fifo hcharged hdst ((s.charge_answers _ .word k).trans hans)]
  refine ⟨⟨hpar, hirq, htimers, hdma, hanswers, ?_⟩, ?_, congrArg (· ++ _) houtbox⟩
  · change ((s.charge s.dma[ch].src .word k).charge s.dma[ch].dst .word k).report.cost = _
    rw [State.charge_fifo_cost hcharged hdst, State.charge_ewram_cost hd hsrc, if_pos rfl]
  · change ((s.charge s.dma[ch].src .word k).charge s.dma[ch].dst .word k).mem = _
    rw [State.charge_mem, State.charge_mem]

end

end Sys2Proof.Machine
end

section
/-! DMA transfers (family 65): the units one after the other, the end of the transfer, and what they add up to. -/

namespace Sys2Proof.Machine

/-! ## The units of a transfer (R507, R513) -/

/-- The channel's latches after `n` units. -/
def DmaChannel.stepped (x : DmaChannel) (w : Width) (srcMode dstMode : BitVec 2) (n : Nat) : DmaChannel :=
  { x with src := unitAddress x.src srcMode w n, dst := unitAddress x.dst dstMode w n }

/-- Units of channel `ch` leave every device as it was but for the channel, now `x`; they cost `n`. -/
structure Moved (ch : Fin 4) (x : DmaChannel) (n : Nat) (s t : State) : Prop where
  par : t.par = s.par
  irq : t.irq = s.irq
  timers : t.timers = s.timers
  answers : t.answers = s.answers
  channel : t.dma[ch] = x
  cost : t.report.cost = s.report.cost + n

section
variable {s t u : State} {ch : Fin 4} {x y : DmaChannel} {m n : Nat} {w : Width} {srcMode dstMode : BitVec 2}

theorem Moved.trans (h : Moved ch x m s t) (k : Moved ch y n t u) : Moved ch y (m + n) s u :=
  ⟨k.par.trans h.par, k.irq.trans h.irq, k.timers.trans h.timers, k.answers.trans h.answers, k.channel,
    by rw [k.cost, h.cost, Nat.add_assoc]⟩

theorem DmaChannel.stepped_zero (x : DmaChannel) : x.stepped w srcMode dstMode 0 = x := by
  rw [DmaChannel.stepped, unitAddress_zero, unitAddress_zero]

theorem DmaChannel.stepped_rest (x : DmaChannel) (n : Nat) :
    (x.stepped w srcMode dstMode 1).stepped w srcMode dstMode n = x.stepped w srcMode dstMode (n + 1) := by
  simp only [DmaChannel.stepped, unitAddress_rest]

/-- A unit, then the others. -/
theorem Moved.cons (h : Moved ch (x.stepped w srcMode dstMode 1) m s u)
    (k : Moved ch ((x.stepped w srcMode dstMode 1).stepped w srcMode dstMode n) (n * m) u t) :
    Moved ch (x.stepped w srcMode dstMode (n + 1)) ((n + 1) * m) s t := by
  rw [Nat.succ_mul, Nat.add_comm (n * m), ← DmaChannel.stepped_rest]
  exact h.trans k

/-- One unit is its read and write, then a step of the latches. -/
theorem Relayed.unit (h : Relayed n s (s.dmaCarried ch w k)) (hsal : s.dma[ch].src.toNat % w.bytes = 0)
    (hdal : s.dma[ch].dst.toNat % w.bytes = 0) (hq : s.quiet s.dma[ch].src = true) :
    s.dmaUnit ch w srcMode dstMode k = (s.dmaCarried ch w k).setDma ch (s.dma[ch].stepped w srcMode dstMode 1) := by
  have hread : (s.busRead s.dma[ch].src w k).2.dma = s.dma := by rw [s.busRead_quiet _ w k hq, State.charge_dma]
  have hstepped : s.dma[ch].stepped w srcMode dstMode 1 = { s.dma[ch] with
      src := s.dma[ch].src + dmaStep srcMode w, dst := s.dma[ch].dst + dmaStep dstMode w } := by
    simp only [DmaChannel.stepped, unitAddress_one]
  have hdma := h.dma
  rw [hstepped, State.dmaUnit]
  dsimp only
  rw [Width.align_of_aligned hsal, hread, Width.align_of_aligned hdal]
  change (s.dmaCarried ch w k).setDma ch { (s.dmaCarried ch w k).dma[ch] with
    src := (s.dmaCarried ch w k).dma[ch].src + _, dst := (s.dmaCarried ch w k).dma[ch].dst + _ } = _
  rw [hdma]

theorem Relayed.moved (h : Relayed n s t) (x : DmaChannel) : Moved ch x n s (t.setDma ch x) :=
  ⟨h.par, h.irq, h.timers, h.answers, by rw [State.setDma_dma, getElem_set_self_row], h.cost⟩

end

/-! ## The bytes copied (R507 to R509) -/

/-- `n` units of width `w` copied: at a fixed destination the last one stays; no other byte changes. -/
structure Copied (w : Width) (n : Nat) (source dest : Nat → Word) (fixed : Prop) (s t : State) : Prop where
  arrived : ∀ k j, k < n → j < w.bytes → (fixed → k + 1 = n) →
    t.peek (dest k + BitVec.ofNat 32 j) = s.peek (source k + BitVec.ofNat 32 j)
  kept : ∀ b, (∀ k j, k < n → j < w.bytes → s.cell b ≠ s.cell (dest k + BitVec.ofNat 32 j)) → t.peek b = s.peek b

/-- A unit, then the others: they read nothing the first wrote, and unless the destination is fixed they write over none
of it. -/
theorem Copied.cons {w : Width} {n : Nat} {source dest : Nat → Word} {fixed : Prop} {s t u : State}
    (hpar : u.par = s.par)
    (harrived : ∀ i, i < w.bytes → u.peek (dest 0 + BitVec.ofNat 32 i) = s.peek (source 0 + BitVec.ofNat 32 i))
    (hkept : ∀ b, (∀ i, i < w.bytes → s.cell b ≠ s.cell (dest 0 + BitVec.ofNat 32 i)) → u.peek b = s.peek b)
    (hrest : Copied w n (fun k => source (k + 1)) (fun k => dest (k + 1)) fixed u t)
    (hread : ∀ k i j, k < n → i < w.bytes → j < w.bytes →
      s.cell (source (k + 1) + BitVec.ofNat 32 i) ≠ s.cell (dest 0 + BitVec.ofNat 32 j))
    (hwrite : ¬ fixed → ∀ k i j, k < n → i < w.bytes → j < w.bytes →
      s.cell (dest 0 + BitVec.ofNat 32 i) ≠ s.cell (dest (k + 1) + BitVec.ofNat 32 j)) :
    Copied w (n + 1) source dest fixed s t where
  arrived k j hk hj hlast := by
    cases k with
    | zero =>
      refine (hrest.kept _ fun k i hk hi => ?_).trans (harrived j hj)
      rw [State.cell_congr hpar, State.cell_congr hpar]
      exact hwrite (fun hf => by have := hlast hf; omega) k j i hk hj hi
    | succ k =>
      have hk : k < n := Nat.lt_of_succ_lt_succ hk
      exact (hrest.arrived k j hk hj fun hf => Nat.succ.inj (hlast hf)).trans
        (hkept _ fun i hi => hread k j i hk hj hi)
  kept b hb := by
    refine (hrest.kept b fun k j hk hj => ?_).trans (hkept b fun i hi => hb 0 i (Nat.succ_pos n) hi)
    rw [State.cell_congr hpar, State.cell_congr hpar]
    exact hb (k + 1) j (Nat.succ_lt_succ hk) hj

/-- Units read from external work memory. -/
abbrev Sources (x : DmaChannel) (mode : BitVec 2) (w : Width) (n : Nat) : Prop :=
  Units 0x02000000 0x02040000 x.src mode w n

/-- Units written to internal work memory. -/
abbrev Destinations (x : DmaChannel) (mode : BitVec 2) (w : Width) (n : Nat) : Prop :=
  Units 0x03000000 0x03008000 x.dst mode w n

section
variable {s t u : State} {ch : Fin 4} {w : Width} {n : Nat} {srcMode dstMode : BitVec 2}

/-- A unit from external to internal work memory, then the others. -/
theorem Copied.cons_units {x : DmaChannel} (hd : s.par.regions = defaultRegions) (hpar : u.par = s.par)
    (hsrc : Sources x srcMode w (n + 1)) (hdst : Destinations x dstMode w (n + 1))
    (harrived : ∀ i, i < w.bytes → u.peek (x.dst + BitVec.ofNat 32 i) = s.peek (x.src + BitVec.ofNat 32 i))
    (hkept : ∀ b, (∀ i, i < w.bytes → s.cell b ≠ s.cell (x.dst + BitVec.ofNat 32 i)) → u.peek b = s.peek b)
    (hrest : Copied w n (unitAddress (x.stepped w srcMode dstMode 1).src srcMode w)
      (unitAddress (x.stepped w srcMode dstMode 1).dst dstMode w) (dstMode = 2) u t) :
    Copied w (n + 1) (unitAddress x.src srcMode w) (unitAddress x.dst dstMode w) (dstMode = 2) s t := by
  have hdest (k i : Nat) (hk : k < n + 1) (hi : i < w.bytes) :
      s.cell (unitAddress x.dst dstMode w k + BitVec.ofNat 32 i) = some ((unitAddress x.dst dstMode w k).toNat + i) :=
    State.cell_iwram hd (hdst.within k hk) (hdst.unit_aligned k) hi
  have hshift (start : Word) (mode : BitVec 2) :
      unitAddress (unitAddress start mode w 1) mode w = fun k => unitAddress start mode w (k + 1) :=
    funext fun k => unitAddress_rest start mode w k
  rw [DmaChannel.stepped, hshift, hshift] at hrest
  rw [← unitAddress_zero x.dst dstMode w] at hkept
  rw [← unitAddress_zero x.dst dstMode w, ← unitAddress_zero x.src srcMode w] at harrived
  refine .cons hpar harrived hkept hrest (fun k i j hk hi hj heq => ?_) fun hmode k i j hk hi hj heq => ?_
  · have hk : k + 1 < n + 1 := Nat.succ_lt_succ hk
    rw [hdest 0 j (Nat.succ_pos n) hj, State.cell_ewram hd (hsrc.within _ hk) (hsrc.unit_aligned _) hi] at heq
    have hsum := Option.some.inj heq
    have hsmall : w.bytes ≤ 4 := by cases w <;> decide
    have hbelow := (hsrc.within _ hk).2
    have habove := (hdst.within 0 (Nat.succ_pos n)).1
    omega
  · have hk : k + 1 < n + 1 := Nat.succ_lt_succ hk
    have hapart := hdst.apart (k := k + 1) (by decide) (by decide) hmode (Nat.succ_pos k) hk
    rw [hdest 0 i (Nat.succ_pos n) hi, hdest _ j hk hj, unitAddress_zero] at heq
    have hsum := Option.some.inj heq
    omega

/-- The units of a transfer from external to internal work memory, one after the other. -/
theorem State.dmaUnits_copy (hd : s.par.regions = defaultRegions) (hm : Memory.wf s.mem)
    (hsrc : Sources s.dma[ch] srcMode w n) (hdst : Destinations s.dma[ch] dstMode w n) (k : AccessKind) :
    Moved ch (s.dma[ch].stepped w srcMode dstMode n) (n * unitCost w) s (s.dmaUnits ch w srcMode dstMode n k) ∧
    (s.dmaUnits ch w srcMode dstMode n k).outbox = s.outbox ∧
    Copied w n (unitAddress s.dma[ch].src srcMode w) (unitAddress s.dma[ch].dst dstMode w) (dstMode = 2) s
      (s.dmaUnits ch w srcMode dstMode n k) := by
  induction n generalizing s k with
  | zero =>
    rw [Nat.zero_mul, DmaChannel.stepped_zero]
    exact ⟨⟨rfl, rfl, rfl, rfl, rfl, rfl⟩, rfl, ⟨fun k j hk => absurd hk (Nat.not_lt_zero k), fun _ _ => rfl⟩⟩
  | succ n ih =>
    obtain ⟨hrelayed, houtbox⟩ := State.dmaCarried_iwram (w := w) hd k hsrc.head hdst.head
    obtain ⟨harrived, hkept⟩ := State.dmaCarried_bytes hd k hsrc.head hm hdst.head hsrc.aligned hdst.aligned
    have hwf := (s.dmaUnit_frame ch w srcMode dstMode k).wf hm
    have hfirst := hrelayed.moved (ch := ch) (s.dma[ch].stepped w srcMode dstMode 1)
    rw [State.dmaUnits]
    rw [hrelayed.unit hsrc.aligned hdst.aligned (State.quiet_ewram hd hsrc.head)] at hwf ⊢
    generalize hu : (s.dmaCarried ch w k).setDma ch (s.dma[ch].stepped w srcMode dstMode 1) = u at hwf hfirst ⊢
    have hpeek (b : Word) : u.peek b = (s.dmaCarried ch w k).peek b := by rw [← hu]; rfl
    have hout : u.outbox = s.outbox := by rw [← hu]; exact houtbox
    obtain ⟨hmoved, hrest, hcopied⟩ := ih (s := u) (by rw [hfirst.par, hd]) hwf
      (by rw [hfirst.channel]; exact hsrc.tail) (by rw [hfirst.channel]; exact hdst.tail) .s
    rw [hfirst.channel] at hmoved hcopied
    exact ⟨hfirst.cons hmoved, hrest.trans hout, .cons_units hd hfirst.par hsrc hdst
      (fun i hi => (hpeek _).trans (harrived i hi)) (fun b hb => (hpeek b).trans (hkept b hb)) hcopied⟩

/-- The words of a FIFO refill, one after the other (R514). -/
theorem State.dmaUnits_refill (hd : s.par.regions = defaultRegions) (hsrc : Sources s.dma[ch] srcMode .word n)
    (hdst : FifoAddress s.dma[ch].dst) (hans : s.answers = []) (k : AccessKind) :
    Moved ch (s.dma[ch].stepped .word srcMode 2 n) (n * (6 + 1)) s (s.dmaUnits ch .word srcMode 2 n k) ∧
    (s.dmaUnits ch .word srcMode 2 n k).mem = s.mem ∧
    (s.dmaUnits ch .word srcMode 2 n k).outbox = s.outbox ++ (List.range n).map fun k =>
      .regWrite (s.dma[ch].dst.toNat - 0x04000000) .word
        (s.busValue (unitAddress s.dma[ch].src srcMode .word k, .word)) := by
  induction n generalizing s k with
  | zero =>
    rw [Nat.zero_mul, DmaChannel.stepped_zero]
    exact ⟨⟨rfl, rfl, rfl, rfl, rfl, rfl⟩, rfl, (List.append_nil _).symm⟩
  | succ n ih =>
    obtain ⟨hrelayed, hmem, houtbox⟩ := State.dmaCarried_fifo hd k hsrc.head hdst hans
    have haligned : s.dma[ch].dst.toNat % Width.word.bytes = 0 := by rcases hdst with h | h <;> rw [h] <;> rfl
    have hfirst := hrelayed.moved (ch := ch) (s.dma[ch].stepped .word srcMode 2 1)
    rw [State.dmaUnits, hrelayed.unit hsrc.aligned haligned (State.quiet_ewram hd hsrc.head)]
    generalize hu : (s.dmaCarried ch .word k).setDma ch (s.dma[ch].stepped .word srcMode 2 1) = u at hfirst ⊢
    have humem : u.mem = s.mem := by rw [← hu]; exact hmem
    have hout : u.outbox = s.outbox ++ [.regWrite (s.dma[ch].dst.toNat - 0x04000000) .word
        (s.busValue (s.dma[ch].src, .word))] := by rw [← hu]; exact houtbox
    have hdst' : u.dma[ch].dst = s.dma[ch].dst := by rw [hfirst.channel]; rfl
    have hsrc' : u.dma[ch].src = unitAddress s.dma[ch].src srcMode .word 1 := by rw [hfirst.channel]; rfl
    obtain ⟨hmoved, hrest, hnotes⟩ := ih (s := u) (by rw [hfirst.par, hd]) (by rw [hfirst.channel]; exact hsrc.tail)
      (by rw [hdst']; exact hdst) (hfirst.answers.trans hans) .s
    rw [hfirst.channel] at hmoved
    refine ⟨hfirst.cons hmoved, hrest.trans humem, ?_⟩
    rw [hnotes, hout, hdst', hsrc', List.range_succ_eq_map, List.map_cons, List.map_map, List.append_assoc,
      unitAddress_zero]
    refine congrArg (s.outbox ++ _ :: ·) (List.map_congr_left fun k hk => ?_)
    have hvalue := State.busRead_value_congr hfirst.par humem .word .n .n
      (State.plain_ewram hd (hsrc.within (k + 1) (Nat.succ_lt_succ (List.mem_range.1 hk))))
    rw [unitAddress_rest]
    exact congrArg _ hvalue

end

/-! ## The end of a transfer (R507, R510, R511) -/

theorem DmaChannel.completed_once {ch : Fin 4} {x : DmaChannel} (h : x.repeats = false ∨ x.trigger = 0) :
    x.completed ch = { x with cntH := x.cntH &&& 0x7FFF } := by
  refine if_neg fun hboth => ?_
  obtain ⟨hrepeats, htrigger⟩ := Bool.and_eq_true_iff.1 hboth
  rcases h with h | h
  · exact ne_true_of_eq_false h hrepeats
  · exact (bne_iff_ne.1 htrigger) h

theorem DmaChannel.completed_again {ch : Fin 4} {x : DmaChannel} (hrepeats : x.repeats = true)
    (htrigger : x.trigger ≠ 0) : x.completed ch = x.reload ch :=
  if_pos (Bool.and_eq_true_iff.2 ⟨hrepeats, bne_iff_ne.2 htrigger⟩)

theorem DmaChannel.completed_src (ch : Fin 4) (x : DmaChannel) : (x.completed ch).src = x.src := by
  unfold DmaChannel.completed
  split <;> rfl

/-- The channel after `n` units, its request gone. -/
def DmaChannel.served (x : DmaChannel) (n : Nat) : DmaChannel := { x with req := false, cnt := x.cnt - n }

/-- The end of a transfer of `n` units: the request is gone, then completion. -/
def State.dmaEnd (v : State) (ch : Fin 4) (n : Nat) : State := (v.setDma ch (v.dma[ch].served n)).dmaCompletion ch

theorem State.dmaTransfer_eq {s : State} {ch : Fin 4} {fifo : Bool} (h : s.dma[ch].isFifo ch = fifo) :
    s.dmaTransfer ch = ((s.addCost s.par.internal.dma).dmaUnits ch
      (if fifo || s.dma[ch].wide then .word else .half) s.dma[ch].srcMode (if fifo then 2 else s.dma[ch].dstMode)
      (if fifo then 4 else s.dma[ch].cnt) .n).dmaEnd ch (if fifo then 4 else s.dma[ch].cnt) := by
  subst h
  rfl

theorem DmaChannel.isFifo_iff (ch : Fin 4) (x : DmaChannel) :
    x.isFifo ch = true ↔ x.cntH.extractLsb' 12 2 = 3 ∧ (ch = 1 ∨ ch = 2) := by
  rw [DmaChannel.isFifo, Bool.and_eq_true, Bool.or_eq_true, beq_iff_eq, beq_iff_eq, beq_iff_eq]
  rfl

/-- The bits a channel's interrupt request sets. -/
theorem channelSource_bit (ch : Fin 4) : ((1#16 <<< (8 + ch.val)) &&& 0x3FFF).getLsbD (8 + ch.val) = true := by
  decide +revert

section
variable (v : State) (ch : Fin 4) (n : Nat)

theorem State.dmaEnd_sheltered : Sheltered v (v.dmaEnd ch n) :=
  (v.setDma_sheltered ch _).trans (State.dmaCompletion_sheltered _ ch)

theorem State.dmaEnd_channel :
    (v.dmaEnd ch n).dma[ch] = (v.dma[ch].served n).completed ch := by
  rw [State.dmaEnd, State.dmaCompletion_dma, getElem_set_self_row, State.setDma_dma, getElem_set_self_row]

theorem State.dmaEnd_report : (v.dmaEnd ch n).report = v.report := by
  unfold State.dmaEnd State.dmaCompletion
  split <;> rfl

theorem State.dmaEnd_outbox : (v.dmaEnd ch n).outbox = v.outbox := by
  unfold State.dmaEnd State.dmaCompletion
  split <;> rfl

/-- The interrupt is requested if the channel asks for it (R510). -/
theorem State.dmaEnd_pending : (v.dmaEnd ch n).irq.pending.getLsbD (8 + ch.val) =
    (v.irq.pending.getLsbD (8 + ch.val) || v.dma[ch].irqEn) := by
  have hself : (v.setDma ch (v.dma[ch].served n)).dma[ch].irqEn = v.dma[ch].irqEn := by
    rw [State.setDma_dma, getElem_set_self_row]
    rfl
  rw [State.dmaEnd, State.dmaCompletion, hself]
  cases v.dma[ch].irqEn with
  | false => rw [Bool.or_false]; rfl
  | true =>
    rw [if_pos rfl, State.setDma_irq, State.request, State.setIrq_irq, BitVec.getLsbD_or, channelSource_bit,
      Bool.or_true, Bool.or_true]

end

/-- A transfer's units before its end, when they go from external work memory to internal or to an audio FIFO. -/
theorem State.dmaTransfer_moved {s : State} {ch : Fin 4} {fifo : Bool} {w : Width} {n : Nat} {dstMode : BitVec 2}
    (hd : s.par.regions = defaultRegions) (hm : Memory.wf s.mem) (hfifo : s.dma[ch].isFifo ch = fifo)
    (hw : w = if fifo || s.dma[ch].wide then .word else .half) (hn : n = if fifo then 4 else s.dma[ch].cnt)
    (hmode : dstMode = if fifo then 2 else s.dma[ch].dstMode) (hsrc : Sources s.dma[ch] s.dma[ch].srcMode w n)
    (hcopy : fifo = false → Destinations s.dma[ch] dstMode w n)
    (hrefill : fifo = true → FifoAddress s.dma[ch].dst ∧ s.answers = []) :
    ∃ v, s.dmaTransfer ch = v.dmaEnd ch n ∧
      Moved ch (s.dma[ch].stepped w s.dma[ch].srcMode dstMode n) (n * unitCost w) (s.addCost s.par.internal.dma) v ∧
      (fifo = false → v.outbox = s.outbox ∧ Copied w n (unitAddress s.dma[ch].src s.dma[ch].srcMode w)
        (unitAddress s.dma[ch].dst dstMode w) (dstMode = 2) s v) ∧
      (fifo = true → v.mem = s.mem ∧ v.outbox = s.outbox ++ (List.range n).map fun k =>
        .regWrite (s.dma[ch].dst.toNat - 0x04000000) .word
          (s.busValue (unitAddress s.dma[ch].src s.dma[ch].srcMode w k, .word))) := by
  have hend := State.dmaTransfer_eq hfifo
  rw [← hw, ← hn, ← hmode] at hend
  refine ⟨_, hend, ?_⟩
  cases fifo with
  | false =>
    obtain ⟨hmoved, hout, hcopied⟩ := State.dmaUnits_copy (s := s.addCost s.par.internal.dma) hd hm hsrc (hcopy rfl) .n
    exact ⟨hmoved, fun _ => ⟨hout, hcopied.arrived, hcopied.kept⟩, nofun⟩
  | true =>
    obtain ⟨hfifo, hans⟩ := hrefill rfl
    obtain rfl : w = .word := hw
    obtain rfl : dstMode = 2 := hmode
    obtain ⟨hmoved, hmem, hout⟩ := State.dmaUnits_refill (s := s.addCost s.par.internal.dma) hd hsrc hfifo hans .n
    refine ⟨hmoved, nofun, fun _ => ⟨hmem, hout.trans (congrArg (s.outbox ++ ·) (List.map_congr_left fun k hk => ?_))⟩⟩
    have hplain := State.plain_ewram (s := s) hd (hsrc.within k (List.mem_range.1 hk))
    exact congrArg (Note.regWrite _ _)
      (State.busRead_value_congr (s := s) (t := s.addCost s.par.internal.dma) rfl rfl .word .n .n hplain)

/-- Settles O53: the units by induction on their number, then the request, the latches and the interrupt at the end. -/
theorem dmaCopies : Obligations.DmaCopies := by
  intro s t ch x y fifo w n source dest low max hd hm hx ht hy hfifo hw hn hsource hdest hsal hrange hlow hmax
  subst hx ht hy hsource hdest
  have hisFifo : s.dma[ch].isFifo ch = fifo := Bool.eq_iff_iff.2 ((DmaChannel.isFifo_iff ch _).trans hfifo.symm)
  have hmoves := State.dmaTransfer_moved hd hm hisFifo hw hn rfl ⟨hsal, hrange⟩
  refine ⟨fun hf hdal hdst => ?_, fun hf hdst hans => ?_, fun hcopy hrefill => ?_⟩
  · subst hf
    obtain ⟨v, hend, hmoved, hcopied, -⟩ := hmoves (fun _ => ⟨hdal, hdst⟩) nofun
    obtain ⟨hout, harrived, hkept⟩ := hcopied rfl
    have hpeek (b : Word) : (s.dmaTransfer ch).peek b = v.peek b := by
      rw [hend]
      exact State.peek_congr (v.dmaEnd_sheltered ch n).par (v.dmaEnd_sheltered ch n).mem b
    refine ⟨fun k j hk hj hlast => (hpeek _).trans (harrived k j hk hj hlast), fun b hb => (hpeek b).trans (hkept b hb),
      ?_, ?_⟩
    · rw [hend, State.dmaEnd_report, hmoved.cost]
      rfl
    · rw [hend, State.dmaEnd_outbox, hout]
  · subst hf
    obtain rfl : w = .word := hw
    obtain ⟨v, hend, hmoved, -, hrefilled⟩ := hmoves nofun fun _ => ⟨hdst, hans⟩
    obtain ⟨hmem, hout⟩ := hrefilled rfl
    obtain rfl : n = 4 := hn
    rw [hend]
    refine ⟨(v.dmaEnd_sheltered ch 4).mem.trans hmem, ?_, (v.dmaEnd_outbox ch 4).trans hout⟩
    rw [State.dmaEnd_report, hmoved.cost]
    rfl
  · obtain ⟨v, hend, hmoved, -, -⟩ := hmoves (fun hf => ⟨(hcopy hf).1, (hcopy hf).2⟩) hrefill
    have hcore := s.dmaTransfer_core ch
    have hother := (s.dmaTransfer_frame ch).other
    have hchannel := v.dmaEnd_channel ch n
    rw [hmoved.channel] at hchannel
    generalize hx : (s.dma[ch].stepped w s.dma[ch].srcMode (if fifo then 2 else s.dma[ch].dstMode) n).served n = x
      at hchannel
    have hcontrol : x.cntH = s.dma[ch].cntH := by rw [← hx]; rfl
    have hrepeat : x.repeats = s.dma[ch].repeats := congrArg (·.getLsbD 9) hcontrol
    have htrig : x.trigger = s.dma[ch].trigger := congrArg (·.extractLsb' 12 2) hcontrol
    rw [hend] at hcore hother ⊢
    refine ⟨?_, ?_, fun honce => ?_, fun hrepeats htrigger => ?_, ?_, hcore, hother,
      (v.dmaEnd_sheltered ch n).timers.trans hmoved.timers⟩
    · rw [hchannel, DmaChannel.completed_src, ← hx]
      rfl
    · rw [hchannel, DmaChannel.completed_req, ← hx]
      rfl
    · rw [hchannel, DmaChannel.completed_once (by rwa [hrepeat, htrig]), hcontrol, ← hx]
      exact ⟨rfl, rfl⟩
    · rw [hchannel, DmaChannel.completed_again (hrepeat.trans hrepeats) (by rwa [htrig]), ← hx]
      refine ⟨rfl, dmaCount_eq ch _ hmax, ?_⟩
      have hlatch : s.dma[ch].latchDst ch =
          s.dma[ch].dad &&& (if ch = 3 then 0x0FFFFFFF else 0x07FFFFFF) &&& ~~~low := by
        rw [DmaChannel.latchDst, alignUnit_eq, hlow]
        rfl
      rw [← hlatch]
      rfl
    · rw [State.dmaEnd_pending, hmoved.irq, hmoved.channel]
      rfl

end Sys2Proof.Machine
end
